-- ==== Sys2Proof/Word.lean ====
section
/-! DEFINITION. The words the VT-48 counts and sends in: bytes of a frame, 16-bit and 32-bit fields, and
amounts of money. Byte order and field extraction stand in Machine/Operands.lean. -/

namespace Sys2Proof

/-- One character of a line, one byte of a frame (R1, R176). -/
abbrev Byte := BitVec 8

/-- A 16-bit payload field: generation, day number, machine id, per-operation amount (R177). -/
abbrev Word16 := BitVec 16

/-- A 32-bit payload field: second of day, transaction number, card number (R177). -/
abbrev Word32 := BitVec 32

/-- An amount of money in minor units, or a money counter: 32 bits (R88, R97). -/
abbrev Money := BitVec 32

end Sys2Proof
end

