-- ==== Sys2Proof/Config.lean ====
section
/-! DEFINITION. What the VT-48 fixes: sizes of its queues and the limits of its timers. The spec leaves no value of
the machine open in a way that a free value would have to stand for, so there is no opaque constant here. -/

namespace Sys2Proof.Config

/-- Characters a receive FIFO holds (R2). -/
def fifoDepth : Nat := 64

/-- Replies the C-line reply list holds (R5). -/
def replyDepth : Nat := 4

/-- Frames the forward queue and the upward queue each hold (R17). -/
def frameQueueDepth : Nat := 8

/-- General entries of the report queue (R30, R31). -/
def generalSlots : Nat := 11

/-- Records the journal holds (R133). -/
def journalDepth : Nat := 8

/-- Where a tally or a per-kind coin count saturates (R4, R97). -/
def saturation : Nat := 65535

/-- The greatest transaction number; SELL, TOPUP and VOUCHER are refused there (R90). -/
def lastTransaction : Nat := 4294967295

/-- The greatest payload of a frame (R3, R176). -/
def maxPayload : Nat := 60

/-- Milliseconds of the self-clearing idle wait (R54). -/
def idleWaitMs : Nat := 2000

/-- Answer window of a single-slot exchange in milliseconds (R12). -/
def answerWindowMs : Nat := 25

/-- Jam timer of a running dispenser in milliseconds (R151). -/
def jamTimerMs : Nat := 600

/-- Trailing window of a stopped dispenser in milliseconds (R151). -/
def trailingWindowMs : Nat := 200

/-- Write timer of a sent card write in milliseconds (R137). -/
def writeTimerMs : Nat := 3000

/-- Cut timer in milliseconds (R167). -/
def cutTimerMs : Nat := 5000

/-- The diverter's quiet count stops here (R74). -/
def quietMax : Nat := 15

end Sys2Proof.Config
end

