-- ==== Sys2Proof/Syntax.lean ====
section
/-! DEFINITION. The commands the VT-48 takes: one constructor of Instr per row of spec/opcode_table.json, with the
operands the spec gives the event or the request. -/

namespace Sys2Proof

/-- The two frame lines (R1). -/
inductive Line where
  | cLine | mLine
  deriving DecidableEq, Repr

/-- The four chute sensors (R44). -/
inductive Sensor where
  | a | b | c | d
  deriving DecidableEq, Repr

/-- One thing for each of the four chute sensors. -/
structure PerSensor (α : Type) where
  a : α
  b : α
  c : α
  d : α
  deriving DecidableEq, Repr

/-- The four coils (chapter Coil Drives and Coin Routing). -/
inductive CoilName where
  | eb | ag | dvt | dvk
  deriving DecidableEq, Repr

/-- One thing for each of the four coils, in the order the manual lists them. -/
structure PerCoil (α : Type) where
  eb : α
  ag : α
  dvt : α
  dvk : α
  deriving DecidableEq, Repr

/-- What a coil's current-sense input showed in one period (R79): current at any moment, and current while the
coil's own pulse was on. -/
structure Sense where
  any : Bool
  inPulse : Bool
  deriving DecidableEq, Repr

/-- The five table kinds, in kind order (R22, R43). -/
inductive TableKind where
  | coin | fare | hotlist | passage | template
  deriving DecidableEq, Repr

/-- A frame's fields but LEAD, COUNT and CHECK, which the others determine (R176). -/
structure Frame where
  dest : BitVec 4
  src : BitVec 4
  kind : Byte
  payload : List Byte
  deriving DecidableEq, Repr

/-- The due point of an ACTIVATE (R26). -/
inductive Due where
  | now
  | at (day : Word16) (second : Word32)
  deriving DecidableEq, Repr

/-- The medium a SELL names (R107). -/
inductive Medium where
  | printed | card
  deriving DecidableEq, Repr

/-- The levels a start samples from the pins: the RATE strap (R1), the sensors (R44) and the door (R65). -/
structure Pins where
  rate1 : Bool
  rate0 : Bool
  sensors : PerSensor Bool
  doorOpen : Bool
  deriving DecidableEq, Repr

/-- The commands: the rows of spec/opcode_table.json, in its order. -/
inductive Instr where
  /-- CHARACTER_ARRIVAL: a stop bit is sampled; the 8 data bits, the parity bit, and whether the stop bit is mark. -/
  | characterArrival (line : Line) (value : Byte) (parity : Bool) (stopMark : Bool)
  /-- BREAK -/
  | lineBreak (line : Line)
  /-- GAP_EXPIRY -/
  | gapExpiry (line : Line)
  /-- C_LINE_FRAME: a valid frame from the C-line. -/
  | cLineFrame (f : Frame)
  /-- SILENCE_TIMEOUT -/
  | silenceTimeout
  /-- TRANSMIT_FRAME_END -/
  | transmitFrameEnd
  /-- DOWNWARD_FRAME: a frame from 14 to a slot 1..6 or to 15. -/
  | downwardFrame (dest : BitVec 4) (kind : Byte) (payload : List Byte)
  /-- SETUP: the rate and the roles as the code bytes sent (R177). -/
  | setup (machineId : Word16) (rate : Byte) (roles : Vector Byte 6) (silence : Byte)
  /-- ALIVE -/
  | alive
  /-- QUERY -/
  | query (topic : Byte) (index : Byte)
  /-- SERVICE -/
  | service (on : Bool)
  /-- INHIBIT -/
  | inhibit (on : Bool)
  /-- LOAD: check and count are carried by segment 0 alone; entries are the entry bytes as sent (R178). -/
  | load (kind : TableKind) (generation : Word16) (index : Byte) (total : Byte)
      (check : Word16) (count : Word16) (entries : List Byte)
  /-- DISCARD -/
  | discard (kind : TableKind)
  /-- ACTIVATE -/
  | activate (kind : TableKind) (generation : Word16) (due : Due)
  /-- CLOCK -/
  | clock (day : Word16) (second : Word32) (dayOfWeek : Byte)
  /-- SELL -/
  | sell (product : Byte) (zones : Byte) (concession : Fin 8) (medium : Medium) (keepCredit : Bool)
  /-- TOPUP -/
  | topup (amount : Word16) (receipt : Bool)
  /-- CANCEL -/
  | cancel
  /-- VOUCHER -/
  | voucher
  /-- REPRINT -/
  | reprint
  /-- CHUTE_CLEAR -/
  | chuteClear
  /-- TUBE: the tube number as sent. -/
  | tube (tube : Byte) (count : Byte)
  /-- WRITE_OFF -/
  | writeOff (txn : Word32)
  /-- CLEAR_TOTALS -/
  | clearTotals
  /-- CLEAR_ALL -/
  | clearAll
  /-- RESTART -/
  | restart
  /-- START_AFTER_REPLY -/
  | startAfterReply (pins : Pins)
  /-- EXCHANGE_GRANT -/
  | exchangeGrant
  /-- MODULE_ANSWER: a valid frame completed by the M-line assembler. -/
  | moduleAnswer (f : Frame)
  /-- ANSWER_WINDOW_EXPIRY -/
  | answerWindowExpiry
  /-- GROUP_EXCHANGE_END -/
  | groupExchangeEnd
  /-- REPROBE_DUE -/
  | reprobeDue (slot : Fin 6)
  /-- SECOND_ADVANCE -/
  | secondAdvance
  /-- OSCILLATOR_STOP -/
  | oscillatorStop
  /-- SENSOR_RISE: elapsed is the number of 4 µs ticks since the sensor edge before this one. -/
  | sensorRise (sensor : Sensor) (elapsed : Nat)
  /-- SENSOR_FALL -/
  | sensorFall (sensor : Sensor) (elapsed : Nat)
  /-- A_LIMIT_EXPIRY -/
  | aLimitExpiry
  /-- GAP_LIMIT_EXPIRY -/
  | gapLimitExpiry
  /-- ACCEPT_WAIT_EXPIRY -/
  | acceptWaitExpiry
  /-- RETURN_WAIT_EXPIRY -/
  | returnWaitExpiry
  /-- IDLE_WAIT_EXPIRY -/
  | idleWaitExpiry
  /-- DOOR_CHANGE -/
  | doorChange (isOpen : Bool)
  /-- LEVER_PRESS -/
  | leverPress
  /-- PWM_PERIOD: what each current-sense input showed in the period that ends. -/
  | pwmPeriod (sense : PerCoil Sense)
  /-- PULL_IN_CHECK: the coils whose last pull-in period ends, and what every coil's input showed in it. -/
  | pullInCheck (ends : PerCoil Bool) (sense : PerCoil Sense)
  /-- DIVERTER_CHANGEOVER -/
  | diverterChangeover
  /-- EXIT_PULSE -/
  | exitPulse (tube : Fin 4)
  /-- JAM_TIMEOUT -/
  | jamTimeout (tube : Fin 4)
  /-- TRAILING_WINDOW_END -/
  | trailingWindowEnd (tube : Fin 4)
  /-- WRITE_TIMEOUT -/
  | writeTimeout
  /-- CUT_TIMEOUT -/
  | cutTimeout
  /-- ROOM_ASK_DELAY -/
  | roomAskDelay
  /-- POWER_RETURN -/
  | powerReturn (pins : Pins)
  /-- MAIN_POWER_LOSS -/
  | mainPowerLoss
  /-- RESET_HELD -/
  | resetHeld
  /-- RESET_RELEASE -/
  | resetRelease (pins : Pins)
  /-- HUNDREDTH_ADVANCE -/
  | hundredthAdvance
  /-- TIME_BASE_RUNS_AGAIN -/
  | timeBaseRunsAgain
  /-- BACKUP_SUPPLY_FAILURE -/
  | backupSupplyFailure
  deriving DecidableEq, Repr

end Sys2Proof
end

