-- ==== Sys2Proof/Machine/State.lean ====
section
/-! DEFINITION. The state of the VT-48 as plain data: everything its blocks hold (00_scope.md, Block overview), the queue
of waiting commands, and the state after a first power-up. Each field's docstring cites the rule that names it. -/

namespace Sys2Proof.Machine

/-! ## Part state, lines and frames -/

/-- The part state (R18). -/
inductive PartState where
  | unset | ready | service
  deriving DecidableEq, Repr

/-- What a line receiver delivers, in the order it arose (R2). -/
inductive RxItem where
  | char (value : Byte) (parityError framingError overrun : Bool)
  | brk
  | gap
  deriving DecidableEq, Repr

/-- A frame assembler (R3): hunting, or the bytes taken after LEAD and whether the frame is damaged. -/
inductive Assembler where
  | hunting
  | assembling (taken : List Byte) (damaged : Bool)
  deriving DecidableEq, Repr

/-- The five tallies of a line (R4). -/
structure Tallies where
  parity : Nat
  framing : Nat
  overrun : Nat
  check : Nat
  timeout : Nat
  deriving DecidableEq, Repr

/-- A line's receiver, its receive FIFO and its assembler (R2, R3, R4). -/
structure Receiver where
  /-- The receive FIFO, with breaks and gap expiries standing where they arose. -/
  fifo : List RxItem
  /-- An overrun mark waits for the next character stored. -/
  overrunNext : Bool
  gapRunning : Bool
  asm : Assembler
  tallies : Tallies
  deriving DecidableEq, Repr

/-- A slot's role (R15). -/
inductive Role where
  | none | card | printer | other
  deriving DecidableEq, Repr

/-- A slot's re-probe: not wanted, its 2 s wait running, or due (R15). -/
inductive Reprobe where
  | off | waiting | due
  deriving DecidableEq, Repr

/-- One entry of the module slot table (R15). -/
structure Slot where
  role : Role
  present : Bool
  miss : Nat
  reprobe : Reprobe
  deriving DecidableEq, Repr

/-- Who owed the frame of an exchange, and so is told its outcome (R12, R13). -/
inductive Owner where
  | cardWrite
  | printLine (tag : Nat)
  | printCut (tag : Nat)
  | printAsk (forRoom : Bool)
  | hold
  | release
  | forward
  | poll
  deriving DecidableEq, Repr

/-- Where an exchange goes: one slot, or the group address 15 (R12). -/
inductive Target where
  | slot (i : Fin 6)
  | group
  deriving DecidableEq, Repr

/-- The M-line exchange in progress (R12). -/
structure Exchange where
  target : Target
  owner : Owner
  frame : Frame
  deriving DecidableEq, Repr

/-! ## Tables -/

/-- One coil's drive profile in the COIN header (R68). -/
structure CoilDrive where
  pullIn : Nat
  hold : Nat
  timeMs : Nat
  deriving DecidableEq, Repr

/-- Entry 0 of the COIN table (R68). -/
structure CoinHeader where
  filter : Nat
  aLimit : Nat
  gapLimit : Nat
  acceptWait : Nat
  returnWait : Nat
  period : Nat
  nonOverlap : Nat
  drive : PerCoil CoilDrive
  deriving DecidableEq, Repr

/-- A coin entry of the COIN table (R67). -/
structure CoinEntry where
  enabled : Bool
  value : Nat
  loA : Nat
  hiA : Nat
  loB : Nat
  hiB : Nat
  fmin : Nat
  fmax : Nat
  deriving DecidableEq, Repr

/-- A tube entry of the COIN table (R69). -/
structure TubeEntry where
  coinKind : Nat
  capacity : Nat
  lowMark : Nat
  deriving DecidableEq, Repr

/-- The content of a COIN table: coin kind k stands at place k - 1, tube t at place t - 1 (R67 to R69). -/
structure CoinTable where
  header : CoinHeader
  coins : List CoinEntry
  tubes : List TubeEntry
  deriving DecidableEq, Repr

/-- The header of the FARE table (R103). -/
structure FareHeader where
  ceiling : Nat
  productCount : Nat
  bandCount : Nat
  maxBalance : Nat
  minTopup : Nat
  topupStep : Nat
  bonusThreshold : Nat
  bonusPercent : Nat
  deriving DecidableEq, Repr

/-- How a product may be sold (R105). -/
inductive ProductMedium where
  | printed | card | both
  deriving DecidableEq, Repr

/-- How the scaled price meets the rounding step (R105, R112). -/
inductive Rounding where
  | nearest | up | down
  deriving DecidableEq, Repr

/-- A product entry of the FARE table (R105). -/
structure Product where
  code : Nat
  name : List Byte
  medium : ProductMedium
  base : Nat
  zoneStep : Nat
  maxZones : Nat
  floor : Nat
  cap : Nat
  step : Nat
  rounding : Rounding
  validityDays : Nat
  lateStart : Option Nat
  template : Nat
  concessionAllowed : Bool
  zeroAllowed : Bool
  deriving DecidableEq, Repr

/-- A fare band (R40): member n of the day mask is day of week n + 1. -/
structure Band where
  dayMask : Byte
  start : Nat
  stop : Nat
  factor : Nat
  deriving DecidableEq, Repr

/-- The content of a FARE table (R102): classes 0 to 7, products and bands in order. -/
structure FareTable where
  header : FareHeader
  classes : List Nat
  products : List Product
  bands : List Band
  deriving DecidableEq, Repr

/-- The content of a PASSAGE table: 13 rows of 64 decisions, a member set meaning PASS (R9, R178). -/
structure PassageTable where
  rows : List (BitVec 64)
  deriving DecidableEq, Repr

/-- One line of a template (R159). -/
structure TemplateLine where
  template : Nat
  line : Nat
  text : List Byte
  deriving DecidableEq, Repr

/-- An active copy: its generation and its content (R22). -/
structure Active (α : Type) where
  generation : Nat
  content : α
  deriving DecidableEq, Repr

/-- The pending copy's load state (R22). -/
inductive LoadState where
  | none | filling | ready | bad | scheduled
  deriving DecidableEq, Repr

/-- Why a complete copy is BAD (R24). -/
inductive BadReason where
  | check | count | field | window | order | floor
  deriving DecidableEq, Repr

/-- A held segment: its index and its entries as sent (R22, R23). -/
structure Segment where
  index : Nat
  entries : List (List Byte)
  deriving DecidableEq, Repr

/-- A due point (R22): NOW, or a day and second. -/
inductive DuePoint where
  | now
  | at (day second : Nat)
  deriving DecidableEq, Repr

/-- A kind's pending copy (R22). -/
structure Load where
  st : LoadState
  generation : Nat
  total : Nat
  /-- In ascending index. -/
  segments : List Segment
  /-- The table check and entry count of segment 0, once held. -/
  head : Option (Nat × Nat)
  bad : Option (BadReason × Nat)
  due : DuePoint
  /-- Whether the schedule has fallen due. -/
  fallen : Bool
  deriving DecidableEq, Repr

/-- The pending copies of the five kinds (R22). -/
structure Loads where
  coin : Load
  fare : Load
  hotlist : Load
  passage : Load
  template : Load
  deriving DecidableEq, Repr

/-! ## Clock -/

/-- The depot clock (R33) with its time base and oscillator-stop latch (R35). -/
structure Clock where
  day : Nat
  second : Nat
  hundredth : Nat
  dayOfWeek : Nat
  valid : Bool
  /-- The 32.768 kHz time base runs. -/
  running : Bool
  /-- A latched stop that has not yet cleared the flag. -/
  stopLatched : Bool
  deriving DecidableEq, Repr

/-- An operation's timestamp (R39). -/
structure Timestamp where
  day : Nat
  second : Nat
  hundredth : Nat
  valid : Bool
  deriving DecidableEq, Repr

/-! ## Chute and coils -/

/-- The chute states (R46). -/
inductive ChuteState where
  | idle | onA | gap | onB | accepting | returning | fault
  deriving DecidableEq, Repr

/-- The chute's fault kinds (R46). -/
inductive FaultKind where
  | jamA | jamB | order | crowd | strayC | acceptLost | returnLost | coil
  deriving DecidableEq, Repr

/-- A classification result (R58). -/
inductive CoinResult where
  | none
  | ambiguous
  | kind (k : Nat)
  deriving DecidableEq, Repr

/-- Where an accepted coin goes (R60). -/
inductive Route where
  | tube (i : Fin 4)
  | cashBox
  deriving DecidableEq, Repr

/-- What an accepted coin in flight records (R61). -/
structure AcceptedCoin where
  kind : Nat
  value : Nat
  route : Route
  ceiling : Nat
  deriving DecidableEq, Repr

/-- The coin in flight (R46); accepted is none for the decision RETURN. -/
structure CoinInFlight where
  result : CoinResult
  accepted : Option AcceptedCoin
  deriving DecidableEq, Repr

/-- The decision on a coin (R59). -/
inductive Decision where
  | accept | giveBack
  deriving DecidableEq, Repr

/-- The last measurement (R46). -/
structure Measurement where
  wA : Nat
  fAB : Nat
  wB : Nat
  rA : Nat
  rB : Nat
  result : CoinResult
  decision : Decision
  deriving DecidableEq, Repr

/-- The chute record (R46), the capture counts (R45) and the sensors' taken levels (R44). -/
structure Chute where
  state : ChuteState
  fault : Option FaultKind
  /-- The limit in milliseconds the chute timer runs to; none while it is stopped. -/
  timer : Option Nat
  coin : Option CoinInFlight
  last : Option Measurement
  wA : Nat
  fAB : Nat
  wB : Nat
  active : PerSensor Bool
  deriving DecidableEq, Repr

/-- The entry-block conditions that fail (R64). -/
structure Causes where
  chute : Bool
  purchase : Bool
  state : Bool
  detached : Bool
  inhibit : Bool
  door : Bool
  table : Bool
  ceiling : Bool
  deriving DecidableEq, Repr

/-- A coil's drive phase (R72). -/
inductive Phase where
  | off | pullIn | hold
  deriving DecidableEq, Repr

/-- One coil (R72, R79): its phase, whether its drive has begun at a period start, the pull-in periods left, and the
sensed state of the most recent period to end. -/
structure Coil where
  phase : Phase
  begun : Bool
  left : Nat
  sensed : Bool
  deriving DecidableEq, Repr

/-- The diverter command (R74). -/
inductive DiverterCommand where
  | cashBox | tubes | none
  deriving DecidableEq, Repr

/-- The coil driver (R70 to R84). -/
structure CoilDriver where
  coils : PerCoil Coil
  command : DiverterCommand
  /-- The side named as target and not yet energised: true for DVT, false for DVK (R74). -/
  target : Option Bool
  quiet : Nat
  /-- A diverter side was driven during the period in progress (R75). -/
  driven : Bool
  /-- FAULTED, or NORMAL (R80). -/
  faulted : Bool
  failed : PerCoil Bool
  deriving DecidableEq, Repr

/-! ## Purchase -/

/-- The purchase states (R85). -/
inductive PurchaseState where
  | idle | opened | busy | payout
  deriving DecidableEq, Repr

/-- The kinds of operation (R89). -/
inductive OpKind where
  | printedSale | cardSale | topup | voucher
  deriving DecidableEq, Repr

/-- What the operation record holds for a sale (R89). -/
structure SaleInfo where
  band : Option Nat
  product : Nat
  zones : Nat
  concession : Nat
  /-- First and last valid days, or none for a single journey. -/
  days : Option (Nat × Nat)
  keepCredit : Bool
  deriving DecidableEq, Repr

/-- The operation record (R89). -/
structure OpRecord where
  kind : OpKind
  txn : Nat
  stamp : Timestamp
  fareGeneration : Option Nat
  sale : Option SaleInfo
  amount : Money
  bonus : Money
  receipt : Bool
  template : Option Nat
  /-- The transaction number of the journal record made for the write. -/
  journalRef : Option Nat
  deriving DecidableEq, Repr

/-- The money counters and the four amounts (R88, R97). -/
structure Ledger where
  inserted : Money
  sold : Money
  topped : Money
  paid : Money
  vouchered : Money
  writtenOff : Money
  overpaid : Money
  bonus : Money
  /-- Credit C. -/
  c : Money
  /-- Committed K. -/
  k : Money
  /-- Payout pending Pp. -/
  pp : Money
  /-- Held H. -/
  h : Money
  deriving DecidableEq, Repr

/-! ## Cards -/

/-- A card's pass slot when it holds a pass (R115). -/
structure PassSlot where
  product : Nat
  lastDay : Nat
  deriving DecidableEq, Repr

/-- The binding when present (R126). -/
structure Binding where
  card : Nat
  concession : Nat
  balance : Nat
  sequence : Nat
  pass : Option PassSlot
  blocked : Bool
  gone : Bool
  deriving DecidableEq, Repr

/-- What a card write writes (R133). -/
inductive Written where
  | balance (value : Nat)
  | pass (product first last : Nat)
  deriving DecidableEq, Repr

/-- A card write frame's content (R124, R137). -/
structure CardWrite where
  card : Nat
  oldSequence : Nat
  content : Written
  machineId : Nat
  txn : Nat
  deriving DecidableEq, Repr

/-- The write state (R126); the write timer runs while it is SENT. -/
inductive WriteState where
  | none
  | owed (w : CardWrite)
  | sent (w : CardWrite)
  deriving DecidableEq, Repr

/-- The class-3 frame owed (R126). -/
inductive Class3 where
  | none | hold | release
  deriving DecidableEq, Repr

/-- The card operation unit's state that is not retained (R126). -/
structure CardUnit where
  binding : Option Binding
  write : WriteState
  owed : Class3
  deriving DecidableEq, Repr

/-- A journal record's state (R133). -/
inductive RecordState where
  | issued | uncertain
  deriving DecidableEq, Repr

/-- A journal record (R133). -/
structure JournalRecord where
  state : RecordState
  txn : Nat
  card : Nat
  kind : OpKind
  amount : Money
  bonus : Money
  oldSequence : Nat
  machineId : Nat
  content : Written
  stamp : Timestamp
  deriving DecidableEq, Repr

/-! ## Payout -/

/-- A dispenser's state (R145); its motor output is on, and its jam timer runs, exactly while it is RUNNING, and its
trailing window runs exactly while it is TRAILING (R151). -/
inductive Dispenser where
  | off | running | trailing
  deriving DecidableEq, Repr

/-- A tube record but its count, which is retained (R145). -/
structure Tube where
  faulted : Bool
  low : Bool
  dispenser : Dispenser
  /-- The value of the tube's last entry, at which an extra coin counts (R152). -/
  lastValue : Nat
  deriving DecidableEq, Repr

/-- A payout's cause (R149). -/
inductive PayoutCause where
  | change (txn : Nat)
  | cancel
  | lever
  deriving DecidableEq, Repr

/-- One entry of a plan (R148, R149). -/
structure PlanEntry where
  tube : Fin 4
  value : Nat
  coins : Nat
  counted : Nat
  deriving DecidableEq, Repr

/-- The payout record (R149). The plan's entries not yet finished stand in order, the current one first. -/
structure Payout where
  cause : PayoutCause
  amount : Money
  /-- The entries whose coins are all counted, oldest first. -/
  done : List PlanEntry
  /-- The current entry; none only between events of a payout's end. -/
  current : Option PlanEntry
  /-- The current entry has been started (R151). -/
  started : Bool
  rest : List PlanEntry
  replanned : Bool
  paid : Vector Nat 4
  faulted : Vector Bool 4
  deriving DecidableEq, Repr

/-! ## Printer -/

/-- Paper as last known (R163). -/
inductive Paper where
  | ok | low | out | unknown
  deriving DecidableEq, Repr

/-- Head as last known (R163). -/
inductive Head where
  | closed | opened | unknown
  deriving DecidableEq, Repr

/-- Fault as last known (R163). -/
inductive PrinterFault where
  | set | clear | unknown
  deriving DecidableEq, Repr

/-- The kinds of print job (R165). -/
inductive JobKind where
  | ticket | voucher | receipt | reprint
  deriving DecidableEq, Repr

/-- A job's field values (R160, R165); a value the job does not have is none. -/
structure FieldValues where
  price : Option Nat
  change : Option Nat
  productName : Option (List Byte)
  zones : Option Nat
  validFrom : Option Nat
  validTo : Option Nat
  day : Option Nat
  second : Option Nat
  txn : Option Nat
  machineId : Option Nat
  last4 : Option Nat
  newBalance : Option Nat
  bonus : Option Nat
  voucher : Option Nat
  concession : Option Nat
  deriving DecidableEq, Repr

/-- The job record (R165). -/
structure Job where
  kind : JobKind
  tag : Nat
  txn : Nat
  template : Nat
  values : FieldValues
  lines : List (List Byte)
  /-- Place of the next line to send, from 0. -/
  next : Nat
  /-- AWAIT_CUT, with the cut timer running; SENDING otherwise (R167). -/
  awaitCut : Bool
  deriving DecidableEq, Repr

/-- The class-2 frame owed (R162, R164). -/
inductive PrintOwed where
  | none
  | line
  | cut
  | ask (forRoom : Bool)
  deriving DecidableEq, Repr

/-- The print unit's state that is not retained (R163 to R165). -/
structure Printer where
  paper : Paper
  head : Head
  fault : PrinterFault
  room : Nat
  /-- The job; none is job state IDLE. -/
  job : Option Job
  tag : Nat
  owed : PrintOwed
  /-- The 100 ms wait before the next ASK runs (R164). -/
  askWait : Bool
  deriving DecidableEq, Repr

/-- The last-receipt record (R169). -/
structure LastReceipt where
  txn : Nat
  amount : Money
  bonus : Money
  newBalance : Nat
  last4 : Nat
  stamp : Timestamp
  machineId : Nat
  deriving DecidableEq, Repr

/-! ## Retained memory -/

/-- Retained memory (R171). Each change is written with its event, so this one copy is also what the running part uses. -/
structure Retained where
  ledger : Ledger
  /-- Accepted counts of coin kinds 1..12 (R97). -/
  accepted : Vector Nat 12
  /-- Returned counts of coin kinds 1..12 (R97). -/
  returned : Vector Nat 12
  op : Option OpRecord
  txn : Nat
  /-- Oldest first. -/
  journal : List JournalRecord
  tubeCounts : Vector Nat 4
  coin : Option (Active CoinTable)
  fare : Option (Active FareTable)
  hotlist : Option (Active (List Nat))
  passage : Option (Active PassageTable)
  template : Option (Active (List TemplateLine))
  lastReceipt : Option LastReceipt
  receiptMarker : Option Nat
  deriving DecidableEq, Repr

/-! ## Reports -/

/-- Why a job or a write fails an operation (R122). -/
inductive VoidCause where
  | paperOut | headOpen | printerFault | printerAbsent | cutLate | writeFail
  deriving DecidableEq, Repr

/-- Why a write ends uncertain (R140). -/
inductive UncertainCause where
  | unsure | timeout | absent
  deriving DecidableEq, Repr

/-- How a record is resolved (R127). -/
inductive Resolution where
  | landed | restored
  deriving DecidableEq, Repr

/-- The outcome of a receipt (R169). -/
inductive ReceiptOutcome where
  | skipped
  | printed
  | lost (cause : VoidCause)
  deriving DecidableEq, Repr

/-- The coil status carried by a CHUTE report (R84). -/
structure CoilStatus where
  phases : PerCoil Phase
  sensed : PerCoil Bool
  command : DiverterCommand
  faulted : Bool
  failed : PerCoil Bool
  deriving DecidableEq, Repr

/-- The CREDIT report (R99). -/
structure CreditReport where
  credit : Money
  purchase : PurchaseState
  accepted : Nat
  returned : Nat
  renewals : Nat
  deriving DecidableEq, Repr

/-- The CHUTE report (R56, R84). -/
structure ChuteReport where
  state : ChuteState
  fault : Option FaultKind
  causes : Causes
  last : Option Measurement
  coils : CoilStatus
  deriving DecidableEq, Repr

/-- One tube in the TUBES report (R147). -/
structure TubeReport where
  count : Nat
  faulted : Bool
  low : Bool
  deriving DecidableEq, Repr

/-- The PRINTER report (R163, R15). -/
structure PrinterReport where
  paper : Paper
  head : Head
  fault : PrinterFault
  paperDelta : Bool
  headDelta : Bool
  faultDelta : Bool
  presence : Vector Bool 6
  discards : Nat
  deriving DecidableEq, Repr

/-- The binding as a CARD report shows it (R144). -/
structure BindingReport where
  card : Nat
  concession : Nat
  balance : Nat
  pass : Option PassSlot
  blocked : Bool
  unresolved : Bool
  deriving DecidableEq, Repr

/-- The CARD report (R144, R15). -/
structure CardReport where
  binding : Option BindingReport
  presence : Vector Bool 6
  discards : Nat
  deriving DecidableEq, Repr

/-- What SALE DONE and SALE VOID carry (R122). -/
structure SaleReport where
  txn : Nat
  kind : OpKind
  sale : SaleInfo
  price : Money
  fareGeneration : Nat
  stamp : Timestamp
  deriving DecidableEq, Repr

/-- What TOPUP DONE and TOPUP VOID carry (R144); new balance and sequence are TOPUP DONE's. -/
structure TopupReport where
  txn : Nat
  card : Nat
  amount : Money
  bonus : Money
  newBalance : Nat
  newSequence : Nat
  fareGeneration : Nat
  stamp : Timestamp
  deriving DecidableEq, Repr

/-- What UNCERTAIN and RESOLVED carry of their record (R144). -/
structure RecordReport where
  txn : Nat
  kind : OpKind
  card : Nat
  amount : Money
  bonus : Money
  stamp : Timestamp
  deriving DecidableEq, Repr

/-- PAYOUT DONE (R154). -/
structure PayoutReport where
  cause : PayoutCause
  amount : Money
  paid : Money
  shortfall : Money
  coins : Vector Nat 4
  faulted : Vector Bool 4
  deriving DecidableEq, Repr

/-- What VOUCHER DONE and VOUCHER VOID carry (R158). -/
structure VoucherReport where
  txn : Nat
  amount : Money
  stamp : Timestamp
  deriving DecidableEq, Repr

/-- TABLE (R28). -/
structure TableReport where
  kind : TableKind
  generation : Nat
  replaced : Option Nat
  day : Nat
  second : Nat
  valid : Bool
  waited : Bool
  deriving DecidableEq, Repr

/-- The cause of a start (R175). -/
inductive StartCause where
  | power | reset | restart | check | clearAll
  deriving DecidableEq, Repr

/-- What became of an interrupted operation (R173). -/
inductive Interruption where
  | voided | uncertain
  deriving DecidableEq, Repr

/-- START (R175). -/
structure StartReport where
  cold : Bool
  cause : StartCause
  c : Money
  h : Money
  records : Nat
  txn : Nat
  clockValid : Bool
  generations : List (Option Nat)
  operation : Option (OpKind × Nat × Interruption)
  payout : Option Money
  receipt : Option Nat
  deriving DecidableEq, Repr

/-- The reports (R30, R31). -/
inductive Report where
  | credit (r : CreditReport)
  | chute (r : ChuteReport)
  | tubes (r : Vector TubeReport 4)
  | printer (r : PrinterReport)
  | card (r : CardReport)
  | saleDone (r : SaleReport)
  | saleVoid (r : SaleReport) (cause : VoidCause)
  | topupDone (r : TopupReport)
  | topupVoid (r : TopupReport) (cause : VoidCause)
  | uncertain (r : RecordReport) (cause : UncertainCause)
  | resolved (r : RecordReport) (outcome : Resolution)
  | payoutDone (r : PayoutReport)
  | voucherDone (r : VoucherReport)
  | voucherVoid (r : VoucherReport) (cause : VoidCause)
  | receipt (txn : Nat) (outcome : ReceiptOutcome)
  | table (r : TableReport)
  | start (r : StartReport)
  deriving DecidableEq, Repr

/-! ## Replies -/

/-- The refusal reasons, in the order of 00_scope.md and R177. -/
inductive Reason where
  | busy | state | short | noChange | product | zones | noCard | blocked | limit | journal | table | format
  | guarded | absent | queue | setup | service | printer | range | passHeld
  deriving DecidableEq, Repr

/-- The load state fields of a LOAD reply (R23). -/
structure LoadView where
  st : LoadState
  held : Nat
  bad : Option (BadReason × Nat)
  deriving DecidableEq, Repr

/-- The state header of a QUERY reply (R29). -/
structure StateHeader where
  part : PartState
  detached : Bool
  inhibit : Bool
  free : Nat
  deriving DecidableEq, Repr

/-- A tube in a QUERY TUBES reply (R29). -/
structure TubeView where
  count : Nat
  capacity : Nat
  lowMark : Nat
  faulted : Bool
  deriving DecidableEq, Repr

/-- A kind in a QUERY TABLES reply (R29). -/
structure TableView where
  active : Option Nat
  st : LoadState
  generation : Nat
  total : Nat
  held : Nat
  bad : Option (BadReason × Nat)
  due : DuePoint
  fallen : Bool
  deriving DecidableEq, Repr

/-- The QUERY PURCHASE content (R29). -/
structure PurchaseView where
  state : PurchaseState
  c : Money
  k : Money
  pp : Money
  h : Money
  op : Option (OpKind × Nat × Money)
  bound : Option (Nat × Bool)
  deriving DecidableEq, Repr

/-- The eight 32-bit counters as TOTALS lists them (R29). -/
structure TotalsView where
  inserted : Money
  sold : Money
  topped : Money
  paid : Money
  vouchered : Money
  writtenOff : Money
  overpaid : Money
  bonus : Money
  deriving DecidableEq, Repr

/-- What a QUERY reply carries after its header (R29). -/
inductive QueryBody where
  | totals (v : TotalsView)
  | coinCounts (accepted returned : Vector Nat 12)
  | tubes (v : Vector TubeView 4)
  | journal (r : Option JournalRecord)
  | lines (c m : Tallies)
  | tables (v : TableView)
  | clock (c : Clock)
  | purchase (v : PurchaseView)
  deriving DecidableEq, Repr

/-- The outcome an ACTIVATE reply names (R26). -/
inductive ActivateOutcome where
  | done | deferred | scheduled
  deriving DecidableEq, Repr

/-- What an accepted SELL answers (R117). -/
structure SellReply where
  txn : Nat
  price : Nat
  band : Option Nat
  concession : Nat
  days : Option (Nat × Nat)
  fareGeneration : Nat
  change : Nat
  deriving DecidableEq, Repr

/-- What a reply carries after its result byte. -/
inductive ReplyBody where
  | refused (r : Reason)
  /-- SHORT and NOCHANGE carry an amount (R108, R177). -/
  | refusedSum (r : Reason) (amount : Nat)
  /-- LIMIT carries the greatest amount that would pass (R134). -/
  | refusedLimit (greatest : Nat)
  | refusedLoad (r : Reason) (v : LoadView)
  /-- ACCEPTED with no result field (R19 and others). -/
  | accepted
  | alive
  | query (header : StateHeader) (body : QueryBody)
  | service (part : PartState)
  | inhibit (before : Bool)
  | load (v : LoadView)
  | discard (before : LoadState)
  | activate (st : LoadState) (outcome : ActivateOutcome)
  | clock (before : Clock) (fellDue : Nat)
  | sell (v : SellReply)
  | topup (txn : Nat) (amount bonus : Money) (newBalance : Nat)
  | cancel (amount : Money) (planned shortfall : Nat)
  | voucher (txn : Nat) (amount : Money)
  | reprint (txn : Nat)
  | chuteClear (kind : FaultKind)
  | tube (count : Nat) (faulted : Bool)
  | writeOff (card : Nat) (kind : OpKind) (amount bonus : Money)
  | clearTotals (v : TotalsView)
  | clearAll (v : TotalsView) (txn : Nat)
  deriving DecidableEq, Repr

/-- A reply in the reply list (R5). -/
structure Reply where
  kind : Byte
  body : ReplyBody
  /-- The start that takes place when this reply has been sent (R172, R174). -/
  start : Option StartCause
  deriving DecidableEq, Repr

/-- The frame the C-line transmitter is sending (R6); start as in Reply. -/
structure Sending where
  frame : Frame
  start : Option StartCause
  deriving DecidableEq, Repr

/-! ## The machine -/

/-- The whole state of the VT-48. -/
structure State where
  /-- Main power is on (R172). -/
  power : Bool
  /-- The RESET pin is held low (R172). -/
  resetHeld : Bool
  /-- The retained check is good (R171). -/
  retainedGood : Bool
  retained : Retained
  part : PartState
  detached : Bool
  inhibit : Bool
  machineId : Nat
  /-- The silence limit in seconds, 0 for off (R7). -/
  silenceLimit : Nat
  /-- The silence timer runs (R7). -/
  silenceRunning : Bool
  /-- C-line rate, sampled at a start (R1). -/
  cRate : Nat
  /-- M-line rate (R1). -/
  mRate : Nat
  cRx : Receiver
  mRx : Receiver
  replies : List Reply
  sending : Option Sending
  /-- RESTART or CLEAR ALL has been accepted: the C-line assembler takes no further characters (R172). -/
  stopping : Bool
  forwardQ : List Frame
  upwardQ : List Frame
  slots : Vector Slot 6
  lastPolled : Fin 6
  exchange : Option Exchange
  loads : Loads
  reports : List Report
  /-- Reserved general slots (R31). -/
  reserved : Nat
  clock : Clock
  chute : Chute
  /-- The failing entry-block conditions as last tested; none failing is the entry OPEN (R64). -/
  causes : Causes
  /-- The taken level of the door input is open (R65). -/
  doorOpen : Bool
  coils : CoilDriver
  purchase : PurchaseState
  card : CardUnit
  tubes : Vector Tube 4
  payout : Option Payout
  printer : Printer
  /-- The commands waiting, first in, first out. -/
  pending : List Instr
  deriving DecidableEq, Repr

/-- The reasons the machine stops with a fault. There is none: the spec gives every command an effect in every state,
so no meaning raises a fault (safe: nothing is hidden behind one). -/
inductive Fault where
  deriving DecidableEq, Repr

/-- The reasons a command is refused by the model. -/
inductive Refusal where
  /-- Raised only by an arm of exec whose command has no meaning yet (safe: the model stops). -/
  | notModelled (mnemonic : String)
  deriving DecidableEq, Repr

/-! ## Start values -/

/-- Every tally 0 (R4). -/
def Tallies.zero : Tallies := ⟨0, 0, 0, 0, 0⟩

/-- A receiver after a start (R2, R3, R4). -/
def Receiver.fresh : Receiver := ⟨[], false, false, .hunting, .zero⟩

/-- A slot of role NONE: every slot before SETUP, and one that SETUP leaves without a role (R16). DESIGN CHOICE, unsafe: it is not PRESENT,
with miss count 0 and no re-probe, since R15 gives each slot a presence and R16 says only of an assigned slot that it starts ABSENT
(assumption 48). -/
def Slot.unassigned : Slot := ⟨.none, false, 0, .off⟩

/-- No pending copy (R22). DESIGN CHOICE, unsafe: its segment total and its segments held, which QUERY TABLES lists for every kind, are 0,
since R22 gives a total and segments only to a copy that is not NONE (assumption 46). -/
def Load.empty : Load := ⟨.none, 0, 0, [], none, none, .now, false⟩

/-- All money amounts and counters 0 (R101). -/
def Ledger.zero : Ledger := ⟨0, 0, 0, 0, 0, 0, 0, 0, 0, 0, 0, 0⟩

/-- A coil after a start (R83). -/
def Coil.rest : Coil := ⟨.off, false, 0, false⟩

/-- A tube after a cold start (R145). -/
def Tube.rest : Tube := ⟨false, false, .off, 0⟩

/-- The cleared content of retained memory (R174). -/
def Retained.cleared : Retained :=
  { ledger := .zero, accepted := Vector.replicate 12 0, returned := Vector.replicate 12 0, op := none, txn := 0
    journal := [], tubeCounts := Vector.replicate 4 0, coin := none, fare := none, hotlist := none, passage := none
    template := none, lastReceipt := none, receiptMarker := none }

/-- The START frame of a cold start of cause CHECK: kind COLD, cause 3, and 41 bytes of zeros, since a cold start finds nothing
(R175 to R177). -/
def startSent : Sending := ⟨⟨14, 0, 48, 1 :: 3 :: List.replicate 41 0⟩, none⟩

/-- The machine right after its first power-up: retained memory's check is bad, so the start is COLD with cause CHECK
(R172, R174), and the transmitter, idle at the start, has taken START (R6, R175); the RATE pins low, the sensors idle and the
door closed (DESIGN CHOICE, assumption 2). -/
def State.reset : State :=
  { power := true, resetHeld := false, retainedGood := true, retained := .cleared
    part := .unset, detached := false, inhibit := false, machineId := 0, silenceLimit := 0, silenceRunning := false
    cRate := 19200, mRate := 9600, cRx := .fresh, mRx := .fresh, replies := [], sending := some startSent, stopping := false
    forwardQ := [], upwardQ := [], slots := Vector.replicate 6 .unassigned, lastPolled := 5, exchange := none
    loads := ⟨.empty, .empty, .empty, .empty, .empty⟩
    reports := []
    reserved := 0
    clock := ⟨0, 0, 0, 1, false, true, false⟩
    chute := ⟨.idle, none, none, none, none, 0, 0, 0, ⟨false, false, false, false⟩⟩
    causes := ⟨false, false, true, false, false, false, true, true⟩
    doorOpen := false
    coils := ⟨⟨.rest, .rest, .rest, .rest⟩, .cashBox, some false, 15, false, false, ⟨false, false, false, false⟩⟩
    purchase := .idle, card := ⟨none, .none, .none⟩, tubes := Vector.replicate 4 .rest, payout := none
    printer := ⟨.unknown, .unknown, .unknown, 0, none, 0, .none, false⟩
    pending := [] }

end Sys2Proof.Machine
end

