-- ==== Sys2Proof/Machine/Operands.lean ====
section
/-! DEFINITION. How operands stand on a line: byte order, the frame and its CHECK (R176), the payload of each request as
its sender composes it, and the fields of consumed module frames (R177). -/

namespace Sys2Proof.Machine

/-! ## Bytes -/

/-- A number in n bytes, least significant byte first (R177). -/
def leBytes : Nat → Nat → List Byte
  | 0, _ => []
  | n + 1, v => BitVec.ofNat 8 v :: leBytes n (v / 256)

/-- The number that bytes sent least significant first spell (R177). -/
def leNat : List Byte → Nat
  | [] => 0
  | b :: bs => b.toNat + 256 * leNat bs

/-- A flag is 0 for clear, off or no, and 1 for set, on or yes (R177). -/
def flagByte (b : Bool) : Byte := if b then 1 else 0

/-- The flag a byte names, or none for a byte above 1 (R177). -/
def flagOf (b : Byte) : Option Bool :=
  if b = 0 then some false else if b = 1 then some true else none

/-- A set, one byte for every eight members, member n at bit n mod 8 of byte n div 8 (R177). -/
def setBytes : Nat → List Bool → List Byte
  | 0, _ => []
  | n + 1, ms =>
    BitVec.ofNat 8 (((ms.take 8).zipIdx.map fun p => if p.1 then 2 ^ p.2 else 0).sum) :: setBytes n (ms.drop 8)

/-- The bytes of a list from one place on, a given number of them. -/
def slice (start count : Nat) (bs : List Byte) : List Byte := (bs.drop start).take count

/-- The number in the bytes of a field at a place. -/
def field (start count : Nat) (bs : List Byte) : Nat := leNat (slice start count bs)

/-- The sum of bytes. -/
def byteSum (bs : List Byte) : Nat := (bs.map BitVec.toNat).sum

/-- Every byte is 0. -/
def allZero (bs : List Byte) : Bool := bs.all (· == 0)

/-! ## The frame -/

/-- LEAD (R176). -/
def leadByte : Byte := 0xC3

/-- ROUTE: destination in the high 4 bits, source in the low 4 bits (R176). -/
def routeByte (f : Frame) : Byte := f.dest ++ f.src

/-- ROUTE, KIND, COUNT and payload: the bytes that CHECK covers beside itself (R176). -/
def frameBody (f : Frame) : List Byte :=
  routeByte f :: f.kind :: BitVec.ofNat 8 f.payload.length :: f.payload

/-- The CHECK that makes the sum 0 modulo 256 (R176). -/
def checkByte (body : List Byte) : Byte := 0 - BitVec.ofNat 8 (byteSum body)

/-- The whole frame as it stands on a line (R176). -/
def frameBytes (f : Frame) : List Byte :=
  leadByte :: (frameBody f ++ [checkByte (frameBody f)])

/-- The frame whose ROUTE, KIND, COUNT, payload and CHECK were taken (R3). -/
def frameOf (taken : List Byte) : Frame :=
  let route := taken.headD 0
  { dest := route.extractLsb' 4 4, src := route.extractLsb' 0 4, kind := taken.getD 1 0
    payload := slice 3 (taken.length - 4) taken }

/-- Address 14, the terminal processor. -/
def terminal : BitVec 4 := 14

/-- Address 15, the group of slots whose role is OTHER. -/
def groupAddress : BitVec 4 := 15

/-- The slot that an address 1..6 names. -/
def slotOf (a : BitVec 4) : Option (Fin 6) :=
  if h : 1 ≤ a.toNat ∧ a.toNat ≤ 6 then some ⟨a.toNat - 1, by omega⟩ else none

/-- The address of a slot. -/
def slotAddress (i : Fin 6) : BitVec 4 := BitVec.ofNat 4 (i.val + 1)

/-! ## Kinds (R176) -/

namespace Kind
/-- KIND 0 -/
def nil : Byte := 0
/-- KIND 1 -/
def poll : Byte := 1
def setup : Byte := 2
def alive : Byte := 3
def query : Byte := 4
def service : Byte := 5
def inhibit : Byte := 6
def load : Byte := 7
def discard : Byte := 8
def activate : Byte := 9
def clock : Byte := 10
def sell : Byte := 11
def topup : Byte := 12
def cancel : Byte := 13
def voucher : Byte := 14
def reprint : Byte := 15
def chuteClear : Byte := 16
def tube : Byte := 17
def writeOff : Byte := 18
def clearTotals : Byte := 19
def clearAll : Byte := 20
def restart : Byte := 21
def cardHold : Byte := 50
def cardRelease : Byte := 51
def cardWriteValue : Byte := 52
def cardWritePass : Byte := 53
def cardSeen : Byte := 54
def cardGone : Byte := 55
def cardWritten : Byte := 56
def printLine : Byte := 58
def printCut : Byte := 59
def printAsk : Byte := 60
def printRoom : Byte := 61
def printCutDone : Byte := 62
def printState : Byte := 63
end Kind

/-! ## Enumerations, numbered from 0 in the order the manual lists them (R177) -/

/-- A table kind's code. -/
def TableKind.code : TableKind → Byte
  | .coin => 0 | .fare => 1 | .hotlist => 2 | .passage => 3 | .template => 4

/-- The table kind a code names. -/
def tableKindOf (b : Byte) : Option TableKind :=
  match b.toNat with
  | 0 => some .coin | 1 => some .fare | 2 => some .hotlist | 3 => some .passage | 4 => some .template
  | _ => none

/-- A medium's code (R177). -/
def Medium.code : Medium → Byte
  | .printed => 0 | .card => 1

/-- The medium a code names. -/
def mediumOf (b : Byte) : Option Medium :=
  if b = 0 then some .printed else if b = 1 then some .card else none

/-- The role a code names: NONE 0, CARD 1, PRINTER 2, OTHER 3 (R177). -/
def roleOf (b : Byte) : Option Role :=
  match b.toNat with
  | 0 => some .none | 1 => some .card | 2 => some .printer | 3 => some .other | _ => none

/-- The M-line rate a code names: 9600 0, 19200 1, 38400 2 (R177). -/
def mRateOf (b : Byte) : Option Nat :=
  match b.toNat with
  | 0 => some 9600 | 1 => some 19200 | 2 => some 38400 | _ => none

/-- The C-line rate of the RATE strap (R1). -/
def cRateOf (rate1 rate0 : Bool) : Nat :=
  match rate1, rate0 with
  | false, false => 19200
  | false, true => 38400
  | true, false => 57600
  | true, true => 115200

/-! ## Request payloads as their sender composes them (R177, R178) -/

/-- SETUP. -/
def setupPayload (machineId : Word16) (rate : Byte) (roles : Vector Byte 6) (silence : Byte) : List Byte :=
  leBytes 2 machineId.toNat ++ rate :: roles.toList ++ [silence]

/-- LOAD: segment 0 adds the table check and the entry count. -/
def loadPayload (kind : TableKind) (generation : Word16) (index total : Byte) (check count : Word16)
    (entries : List Byte) : List Byte :=
  TableKind.code kind :: leBytes 2 generation.toNat ++ [index, total]
    ++ (if index = 0 then leBytes 2 check.toNat ++ leBytes 2 count.toNat else []) ++ entries

/-- ACTIVATE: day and second are 0 for NOW. -/
def activatePayload (kind : TableKind) (generation : Word16) : Due → List Byte
  | .now => TableKind.code kind :: leBytes 2 generation.toNat ++ 0 :: leBytes 2 0 ++ leBytes 4 0
  | .at day second => TableKind.code kind :: leBytes 2 generation.toNat ++ 1 :: leBytes 2 day.toNat ++ leBytes 4 second.toNat

/-- CLOCK. -/
def clockPayload (day : Word16) (second : Word32) (dayOfWeek : Byte) : List Byte :=
  leBytes 2 day.toNat ++ leBytes 4 second.toNat ++ [dayOfWeek]

/-- SELL. -/
def sellPayload (product zones : Byte) (concession : Fin 8) (medium : Medium) (keep : Bool) : List Byte :=
  [product, zones, BitVec.ofNat 8 concession.val, Medium.code medium, flagByte keep]

/-- TOPUP. -/
def topupPayload (amount : Word16) (receipt : Bool) : List Byte :=
  leBytes 2 amount.toNat ++ [flagByte receipt]

/-- A frame from the terminal processor to the part. -/
def requestFrame (kind : Byte) (payload : List Byte) : Frame := ⟨0, terminal, kind, payload⟩

/-- The frame by which the terminal processor sends a request; none for a command that is no request. -/
def frameOfRequest : Instr → Option Frame
  | .setup id rate roles silence => some (requestFrame Kind.setup (setupPayload id rate roles silence))
  | .alive => some (requestFrame Kind.alive [])
  | .query topic index => some (requestFrame Kind.query [topic, index])
  | .service on => some (requestFrame Kind.service [flagByte on])
  | .inhibit on => some (requestFrame Kind.inhibit [flagByte on])
  | .load k g i t c n es => some (requestFrame Kind.load (loadPayload k g i t c n es))
  | .discard k => some (requestFrame Kind.discard [TableKind.code k])
  | .activate k g d => some (requestFrame Kind.activate (activatePayload k g d))
  | .clock d sec dow => some (requestFrame Kind.clock (clockPayload d sec dow))
  | .sell p z c m keep => some (requestFrame Kind.sell (sellPayload p z c m keep))
  | .topup a r => some (requestFrame Kind.topup (topupPayload a r))
  | .cancel => some (requestFrame Kind.cancel [])
  | .voucher => some (requestFrame Kind.voucher [])
  | .reprint => some (requestFrame Kind.reprint [])
  | .chuteClear => some (requestFrame Kind.chuteClear [])
  | .tube t n => some (requestFrame Kind.tube [t, n])
  | .writeOff txn => some (requestFrame Kind.writeOff (leBytes 4 txn.toNat))
  | .clearTotals => some (requestFrame Kind.clearTotals [])
  | .clearAll => some (requestFrame Kind.clearAll [])
  | .restart => some (requestFrame Kind.restart [])
  | .characterArrival .. | .lineBreak .. | .gapExpiry .. | .cLineFrame .. | .silenceTimeout | .transmitFrameEnd
  | .downwardFrame .. | .startAfterReply .. | .exchangeGrant | .moduleAnswer .. | .answerWindowExpiry
  | .groupExchangeEnd | .reprobeDue .. | .secondAdvance | .oscillatorStop | .sensorRise .. | .sensorFall ..
  | .aLimitExpiry | .gapLimitExpiry | .acceptWaitExpiry | .returnWaitExpiry | .idleWaitExpiry | .doorChange ..
  | .leverPress | .pwmPeriod .. | .pullInCheck .. | .diverterChangeover | .exitPulse .. | .jamTimeout ..
  | .trailingWindowEnd .. | .writeTimeout | .cutTimeout | .roomAskDelay | .powerReturn .. | .mainPowerLoss
  | .resetHeld | .resetRelease .. | .hundredthAdvance | .timeBaseRunsAgain | .backupSupplyFailure => none

/-! ## Consumed module frames (R125, R162) -/

/-- What a CARD SEEN carries (R125). -/
structure Presentation where
  card : Nat
  concession : Nat
  balance : Nat
  sequence : Nat
  pass : Option PassSlot
  /-- Pairs of machine id and transaction number, newest first. -/
  history : List (Nat × Nat)
  deriving DecidableEq, Repr

/-- The pairs in a CARD SEEN's history bytes. -/
def historyPairs (count : Nat) (bs : List Byte) : List (Nat × Nat) :=
  (List.range count).map fun i => (field (6 * i) 2 bs, field (6 * i + 2) 4 bs)

/-- CARD SEEN, or none where it breaks its encoding or a stated range (R125, R177; a pass slot present with product
code 0 breaks the code's range 1..255, DEDUCED, assumption 29). -/
def cardSeenOf (p : List Byte) : Option Presentation :=
  let presence := p.getD 9 0
  let product := (p.getD 10 0).toNat
  let lastDay := field 11 2 p
  let count := (p.getD 13 0).toNat
  let pairs := p.drop 14
  let passOk := (presence == 0 && product == 0 && lastDay == 0) || (presence == 1 && product != 0)
  if p.length = 38 ∧ (p.getD 4 0).toNat ≤ 7 ∧ passOk ∧ count ≤ 4 ∧ allZero (pairs.drop (6 * count)) then
    some { card := field 0 4 p, concession := (p.getD 4 0).toNat, balance := field 5 2 p, sequence := field 7 2 p
           pass := if presence = 1 then some ⟨product, lastDay⟩ else none, history := historyPairs count pairs }
  else none

/-- The result of a write as CARD WRITTEN names it (R125). -/
inductive WriteResult where
  | done (newSequence : Nat)
  | fail
  | unsure
  deriving DecidableEq, Repr

/-- CARD WRITTEN, its transaction number and result, or none where it breaks its encoding (R125, R177). -/
def cardWrittenOf (p : List Byte) : Option (Nat × WriteResult) :=
  let newSequence := field 5 2 p
  if p.length ≠ 7 then none
  else match (p.getD 4 0).toNat with
    | 0 => some (field 0 4 p, .done newSequence)
    | 1 => if newSequence = 0 then some (field 0 4 p, .fail) else none
    | 2 => if newSequence = 0 then some (field 0 4 p, .unsure) else none
    | _ => none

/-- A printer notice (R162). -/
inductive Notice where
  | room (free : Nat)
  | cutDone (tag : Nat)
  | state (paper : Paper) (head : Head) (fault : PrinterFault)
  deriving DecidableEq, Repr

/-- A notice's code: ROOM 1, CUT DONE 2, STATE 3 (R177). -/
def Notice.code : Notice → Nat
  | .room _ => 1 | .cutDone _ => 2 | .state .. => 3

/-- A STATE notice's three bytes, in range or not (R162, R177). -/
def stateNoticeOf (paper head fault : Byte) : Option Notice := do
  let p ← match paper.toNat with
    | 0 => some Paper.ok | 1 => some Paper.low | 2 => some Paper.out | _ => none
  let h ← match head.toNat with
    | 0 => some Head.closed | 1 => some Head.opened | _ => none
  let f ← match fault.toNat with
    | 0 => some PrinterFault.clear | 1 => some PrinterFault.set | _ => none
  some (.state p h f)

/-- The notices that bytes spell; fuel bounds their number (R162). -/
def noticesOf : Nat → List Byte → Option (List Notice)
  | _, [] => some []
  | 0, _ :: _ => none
  | n + 1, code :: rest =>
    match code.toNat, rest with
    | 1, free :: more => if free.toNat ≤ 8 then (noticesOf n more).map (.room free.toNat :: ·) else none
    | 2, tag :: more => (noticesOf n more).map (.cutDone tag.toNat :: ·)
    | 3, p :: h :: f :: more => (stateNoticeOf p h f).bind fun x => (noticesOf n more).map (x :: ·)
    | _, _ => none

/-- The notices of a PRINT ROOM, PRINT CUT DONE or PRINT STATE: 1 to 6, the first of the frame's own kind (R162). DESIGN CHOICE, unsafe: a
frame whose first notice is of another kind is dropped whole, as one that breaks its encoding, since R162 does not say what it does
(assumption 45). -/
def printerNotices (kind : Byte) (p : List Byte) : Option (List Notice) :=
  match noticesOf 6 p with
  | some (n :: ns) => if kind.toNat = 60 + n.code then some (n :: ns) else none
  | _ => none

/-! ## Owed module frames (R124, R162, R177) -/

/-- A frame from the part to a slot. -/
def slotFrame (i : Fin 6) (kind : Byte) (payload : List Byte) : Frame := ⟨slotAddress i, 0, kind, payload⟩

/-- CARD WRITE VALUE or CARD WRITE PASS (R124, R177). -/
def cardWriteFrame (i : Fin 6) (w : CardWrite) : Frame :=
  match w.content with
  | .balance v =>
    slotFrame i Kind.cardWriteValue
      (leBytes 4 w.card ++ leBytes 2 w.oldSequence ++ leBytes 2 v ++ leBytes 2 w.machineId ++ leBytes 4 w.txn)
  | .pass product first last =>
    slotFrame i Kind.cardWritePass
      (leBytes 4 w.card ++ leBytes 2 w.oldSequence ++ leBytes 1 product ++ leBytes 2 first ++ leBytes 2 last
        ++ leBytes 2 w.machineId ++ leBytes 4 w.txn)

/-- PRINT LINE (R162): job tag, line number from 1, text. -/
def printLineFrame (i : Fin 6) (tag line : Nat) (text : List Byte) : Frame :=
  slotFrame i Kind.printLine (leBytes 1 tag ++ leBytes 1 line ++ text)

end Sys2Proof.Machine
end

