-- ==== Sys2Proof/Machine/Flags.lean ====
section
/-! DEFINITION. What the VT-48 derives from its state: the entry-block conditions, the low flags, readiness of the print
path, slots by role, free report slots, and the timestamp and band of the moment. -/

namespace Sys2Proof

/-- The thing of one sensor. -/
def PerSensor.get {α : Type} (p : PerSensor α) : Sensor → α
  | .a => p.a | .b => p.b | .c => p.c | .d => p.d

/-- Put the thing of one sensor. -/
def PerSensor.set {α : Type} (p : PerSensor α) (x : α) : Sensor → PerSensor α
  | .a => { p with a := x } | .b => { p with b := x } | .c => { p with c := x } | .d => { p with d := x }

/-- All four sensors are idle (R44, R54). -/
def allIdle (p : PerSensor Bool) : Bool := !p.a && !p.b && !p.c && !p.d

/-- The thing of one coil. -/
def PerCoil.get {α : Type} (p : PerCoil α) : CoilName → α
  | .eb => p.eb | .ag => p.ag | .dvt => p.dvt | .dvk => p.dvk

/-- Put the thing of one coil. -/
def PerCoil.set {α : Type} (p : PerCoil α) (x : α) : CoilName → PerCoil α
  | .eb => { p with eb := x } | .ag => { p with ag := x } | .dvt => { p with dvt := x } | .dvk => { p with dvk := x }

/-- Apply a function to each coil's thing, with the coil's name. -/
def PerCoil.mapNamed {α β : Type} (f : CoilName → α → β) (p : PerCoil α) : PerCoil β :=
  ⟨f .eb p.eb, f .ag p.ag, f .dvt p.dvt, f .dvk p.dvk⟩

/-- The four things in the manual's order. -/
def PerCoil.toList {α : Type} (p : PerCoil α) : List α := [p.eb, p.ag, p.dvt, p.dvk]

end Sys2Proof

namespace Sys2Proof.Machine

/-! ## Running and waiting -/

/-- The part takes events: main power is on and RESET is not held (R172). -/
def State.running (s : State) : Bool := s.power && !s.resetHeld

/-- The C-line assembler takes no characters: the reply list is full (R5), or a start is on its way (R172). -/
def State.cStalled (s : State) : Bool := Config.replyDepth ≤ s.replies.length || s.stopping

/-! ## Report queue -/

/-- A report of a fixed kind (R30). -/
def Report.isFixed : Report → Bool
  | .credit _ | .chute _ | .tubes _ | .printer _ | .card _ => true
  | .saleDone _ | .saleVoid .. | .topupDone _ | .topupVoid .. | .uncertain .. | .resolved .. | .payoutDone _
  | .voucherDone _ | .voucherVoid .. | .receipt .. | .table _ | .start _ => false

/-- General reports queued (R31). -/
def generalCount (q : List Report) : Nat := (q.filter fun r => !r.isFixed).length

/-- Free general slots: 11 less the general reports queued less the reservations (R31). -/
def State.freeSlots (s : State) : Nat := Config.generalSlots - generalCount s.reports - s.reserved

/-! ## Sensors and coils -/

/-- The fault kinds that clear by themselves (R54). -/
def FaultKind.selfClears : FaultKind → Bool
  | .jamA | .jamB | .order | .crowd | .strayC => true
  | .acceptLost | .returnLost | .coil => false

/-- A coil in PULL-IN or HOLD is driven or about to be (R72). -/
def Coil.on (c : Coil) : Bool := c.phase != .off

/-- DVT or DVK is in PULL-IN or HOLD (R74). -/
def CoilDriver.sideOn (d : CoilDriver) : Bool := d.coils.dvt.on || d.coils.dvk.on

/-! ## Tables in force -/

/-- The content of the active COIN table. -/
def State.coinTable (s : State) : Option CoinTable := s.retained.coin.map Active.content

/-- The content of the active FARE table. -/
def State.fareTable (s : State) : Option FareTable := s.retained.fare.map Active.content

/-- Coin entry k of a COIN table, for k in 1..12 (R67). -/
def CoinTable.coin? (t : CoinTable) (k : Nat) : Option CoinEntry := if k = 0 then none else t.coins[k - 1]?

/-- The tube entry of a tube in the active COIN table, when the tube is in use (R69, R145). -/
def State.tubeEntry (s : State) (i : Fin 4) : Option TubeEntry :=
  match s.coinTable with
  | none => none
  | some t =>
    match t.tubes[i.val]? with
    | none => none
    | some e => if e.coinKind = 0 then none else some e

/-- A tube's capacity; 0 for an unused tube (R145, R146). -/
def State.tubeCapacity (s : State) (i : Fin 4) : Nat := ((s.tubeEntry i).map TubeEntry.capacity).getD 0

/-- A tube's low mark; 0 for an unused tube (R145). -/
def State.tubeLowMark (s : State) (i : Fin 4) : Nat := ((s.tubeEntry i).map TubeEntry.lowMark).getD 0

/-- A tube's value, read from the COIN table active now; none for an unused tube (R145). -/
def State.tubeValue (s : State) (i : Fin 4) : Option Nat :=
  match s.coinTable, s.tubeEntry i with
  | some t, some e => (t.coin? e.coinKind).map CoinEntry.value
  | _, _ => none

/-- A tube's count (R145). -/
def State.tubeCount (s : State) (i : Fin 4) : Nat := s.retained.tubeCounts.get i

/-- A tube's low flag: in use with its count at or below its low mark (R147). -/
def State.isLow (s : State) (i : Fin 4) : Bool :=
  match s.tubeEntry i with
  | none => false
  | some e => s.tubeCount i ≤ e.lowMark

/-! ## The entry-block conditions (R64) -/

/-- The smallest value among the enabled coin entries. -/
def CoinTable.smallestValue (t : CoinTable) : Option Nat :=
  ((t.coins.filter CoinEntry.enabled).map CoinEntry.value).min?

/-- The condition CEILING: an enabled coin entry, and credit plus the smallest enabled value within the ceiling; it fails
while either table is missing (R64, assumption 16). -/
def State.ceilingRoom (s : State) : Bool :=
  match s.coinTable, s.fareTable with
  | some t, some f =>
    match t.smallestValue with
    | some v => s.retained.ledger.c.toNat + v ≤ f.header.ceiling
    | none => false
  | _, _ => false

/-- The failing conditions as the state stands (R64). -/
def State.failing (s : State) : Causes :=
  { chute := s.chute.state != .idle
    purchase := !(s.purchase == .idle || s.purchase == .opened)
    state := s.part != .ready
    detached := s.detached
    inhibit := s.inhibit
    door := s.doorOpen
    table := !(s.retained.coin.isSome && s.retained.fare.isSome)
    ceiling := !s.ceilingRoom }

/-- No condition fails. -/
def Causes.clear (c : Causes) : Bool :=
  !(c.chute || c.purchase || c.state || c.detached || c.inhibit || c.door || c.table || c.ceiling)

/-- The coin entry is open, as last tested (R64). -/
def State.entryOpen (s : State) : Bool := s.causes.clear

/-! ## Slots -/

/-- The slot of a role, where SETUP gave one. -/
def State.slotOfRole (s : State) (r : Role) : Option (Fin 6) :=
  (List.finRange 6).find? fun i => (s.slots.get i).role == r

/-- The slot of a role, where it is PRESENT. -/
def State.presentOfRole (s : State) (r : Role) : Option (Fin 6) :=
  (s.slotOfRole r).filter fun i => (s.slots.get i).present

/-- A slot of role OTHER is PRESENT (R8, R13). -/
def State.otherPresent (s : State) : Bool :=
  (List.finRange 6).any fun i => (s.slots.get i).role == .other && (s.slots.get i).present

/-- The presence of all six slots, as reports carry it (R15). -/
def State.presence (s : State) : Vector Bool 6 := s.slots.map Slot.present

/-! ## Printer -/

/-- The printer is ready: paper OK or LOW, head CLOSED, fault CLEAR (R163). -/
def Printer.ready (p : Printer) : Bool :=
  (p.paper == .ok || p.paper == .low) && p.head == .closed && p.fault == .clear

/-- Put a line into a list in ascending line number (R159). -/
def insertLine (x : TemplateLine) : List TemplateLine → List TemplateLine
  | [] => [x]
  | y :: ys => if x.line ≤ y.line then x :: y :: ys else y :: insertLine x ys

/-- The lines of a template in a TEMPLATE table, in ascending line number (R159). -/
def linesOf (t : Nat) (table : List TemplateLine) : List TemplateLine :=
  (table.filter fun l => l.template == t).foldr insertLine []

/-- The lines of a template in the active TEMPLATE table; none while there is none (R159, R22). -/
def State.templateLines (s : State) (t : Nat) : List TemplateLine :=
  match s.retained.template with
  | none => []
  | some a => linesOf t a.content

/-- The print path is ready for a job of a template (R109, R142, R157, R170). -/
def State.printPath (s : State) (template : Nat) : Bool :=
  (s.presentOfRole .printer).isSome && s.printer.ready && s.printer.job.isNone
    && !(s.templateLines template).isEmpty

/-! ## Journal and hotlist -/

/-- The journal holds an UNCERTAIN record for a card (R126, R144). -/
def State.unresolved (s : State) (card : Nat) : Bool :=
  s.retained.journal.any fun r => r.card == card && r.state == .uncertain

/-- The journal takes a write for a card: no record for it, and fewer than 8 records (R110, R134). -/
def State.journalTakes (s : State) (card : Nat) : Bool :=
  !(s.retained.journal.any fun r => r.card == card) && s.retained.journal.length < Config.journalDepth

/-- The binary search of R128 over places lo..hi - 1 of an ascending list; fuel bounds the comparisons. -/
def searchRange (cards : List Nat) (x : Nat) : Nat → Nat → Nat → Bool
  | 0, _, _ => false
  | fuel + 1, lo, hi =>
    if hi ≤ lo then false
    else
      let mid := (lo + hi) / 2
      match cards[mid]? with
      | none => false
      | some y => if x = y then true else if x < y then searchRange cards x fuel lo mid
          else searchRange cards x fuel (mid + 1) hi

/-- The card number is in the active HOTLIST table (R128). -/
def State.hotlisted (s : State) (card : Nat) : Bool :=
  match s.retained.hotlist with
  | none => false
  | some a => searchRange a.content card 11 0 a.content.length

/-! ## Clock -/

/-- The timestamp a request reads (R39). -/
def Clock.stamp (c : Clock) : Timestamp :=
  if c.valid then ⟨c.day, c.second, c.hundredth, true⟩ else ⟨0, 0, 0, false⟩

/-- The index from 1 of the lowest band in force at a day of week and second (R41). -/
def bandAt (bands : List Band) (dayOfWeek second : Nat) : Option Nat :=
  (bands.findIdx? fun b => b.dayMask.getLsbD (dayOfWeek - 1) && decide (b.start ≤ second) && decide (second < b.stop)).map
    (· + 1)

/-- The band in force for a request disposed of now: none when the clock is not valid (R41, R42). -/
def Clock.band (c : Clock) (t : FareTable) : Option Nat :=
  if c.valid then bandAt t.bands c.dayOfWeek c.second else none

/-- A band's factor; 100 for none (R41, R42). -/
def FareTable.factor (t : FareTable) : Option Nat → Nat
  | none => 100
  | some n => ((t.bands[n - 1]?).map Band.factor).getD 100

/-- The clock shows a due point at or past (R43). -/
def Clock.reached (c : Clock) (day second : Nat) : Bool :=
  c.valid && (day < c.day || (day == c.day && second ≤ c.second))

/-! ## Pending copies -/

/-- The pending copy of a kind. -/
def Loads.get (l : Loads) : TableKind → Load
  | .coin => l.coin | .fare => l.fare | .hotlist => l.hotlist | .passage => l.passage | .template => l.template

/-- Put the pending copy of a kind. -/
def Loads.set (l : Loads) (x : Load) : TableKind → Loads
  | .coin => { l with coin := x } | .fare => { l with fare := x } | .hotlist => { l with hotlist := x }
  | .passage => { l with passage := x } | .template => { l with template := x }

/-- The generation of a kind's active copy (R22). -/
def Retained.generation (r : Retained) : TableKind → Option Nat
  | .coin => r.coin.map Active.generation
  | .fare => r.fare.map Active.generation
  | .hotlist => r.hotlist.map Active.generation
  | .passage => r.passage.map Active.generation
  | .template => r.template.map Active.generation

/-- The entries of a pending copy, in segment order (R178). -/
def Load.entries (l : Load) : List (List Byte) := l.segments.flatMap Segment.entries

/-- The load state fields a reply carries (R23). -/
def Load.view (l : Load) : LoadView := ⟨l.st, l.segments.length, if l.st = .bad then l.bad else none⟩

end Sys2Proof.Machine
end

