-- ==== Sys2Proof/Machine/Ops.lean ====
section
/-! DEFINITION. The named operations over the state that the meanings share: updates of one block, the money movements,
replies and reports, the coils and the diverter, the entry test, and the low flags. -/

namespace Sys2Proof.Machine

/-! ## Updates of one block -/

/-- Change retained memory, as one written step (R171). -/
def State.onRetained (f : Retained → Retained) (s : State) : State := { s with retained := f s.retained }

/-- Move money (R88, R97); every movement is written to retained memory. -/
def State.onLedger (f : Ledger → Ledger) (s : State) : State :=
  { s with retained := { s.retained with ledger := f s.retained.ledger } }

/-- Change the chute record. -/
def State.onChute (f : Chute → Chute) (s : State) : State := { s with chute := f s.chute }

/-- Change the coil driver. -/
def State.onCoils (f : CoilDriver → CoilDriver) (s : State) : State := { s with coils := f s.coils }

/-- Change the card operation unit. -/
def State.onCard (f : CardUnit → CardUnit) (s : State) : State := { s with card := f s.card }

/-- Change the print unit. -/
def State.onPrinter (f : Printer → Printer) (s : State) : State := { s with printer := f s.printer }

/-- Set a tube's count (R145). -/
def State.setTubeCount (i : Fin 4) (n : Nat) (s : State) : State :=
  { s with retained := { s.retained with tubeCounts := s.retained.tubeCounts.set i n } }

/-- Change a tube's volatile record (R145). -/
def State.onTube (i : Fin 4) (f : Tube → Tube) (s : State) : State :=
  { s with tubes := s.tubes.set i (f (s.tubes.get i)) }

/-- One more in a count that saturates (R4, R30, R97). -/
def satAdd (a b : Nat) : Nat := min (a + b) Config.saturation

/-! ## Money movements (R91 to R96) -/

namespace Move

/-- A coin credited (R62). -/
def credit (v : Money) (l : Ledger) : Ledger := { l with inserted := l.inserted + v, c := l.c + v }

/-- An acceptance: the amount moves from credit to committed (R91). -/
def commit (a : Money) (l : Ledger) : Ledger := { l with c := l.c - a, k := l.k + a }

/-- A sale settles: K to SOLD (R92). -/
def settleSale (l : Ledger) : Ledger := { l with sold := l.sold + l.k, k := 0 }

/-- A top-up settles: K to TOPPED, its bonus to BONUS (R92). -/
def settleTopup (bonus : Money) (l : Ledger) : Ledger :=
  { l with topped := l.topped + l.k, bonus := l.bonus + bonus, k := 0 }

/-- A voucher settles: K to VOUCHERED (R92). -/
def settleVoucher (l : Ledger) : Ledger := { l with vouchered := l.vouchered + l.k, k := 0 }

/-- A void: K to C (R92). -/
def void (l : Ledger) : Ledger := { l with c := l.c + l.k, k := 0 }

/-- An uncertain end: K to H (R92). -/
def hold (l : Ledger) : Ledger := { l with h := l.h + l.k, k := 0 }

/-- A payout starts: the whole credit to payout pending (R94). -/
def startPayout (l : Ledger) : Ledger := { l with pp := l.pp + l.c, c := 0 }

/-- A payout ends: what remains of Pp is the shortfall, back to credit (R94). -/
def endPayout (l : Ledger) : Ledger := { l with c := l.c + l.pp, pp := 0 }

/-- A paid coin of a value (R95). -/
def paidCoin (v : Money) (l : Ledger) : Ledger :=
  if v.toNat ≤ l.pp.toNat then { l with pp := l.pp - v, paid := l.paid + v }
  else { l with paid := l.paid + l.pp, overpaid := l.overpaid + (v - l.pp), pp := 0 }

/-- An extra coin of a value (R95). -/
def extraCoin (v : Money) (l : Ledger) : Ledger := { l with overpaid := l.overpaid + v }

/-- A landed sale is resolved (R96). -/
def landedSale (a : Money) (l : Ledger) : Ledger := { l with h := l.h - a, sold := l.sold + a }

/-- A landed top-up is resolved (R96). -/
def landedTopup (a bonus : Money) (l : Ledger) : Ledger :=
  { l with h := l.h - a, topped := l.topped + a, bonus := l.bonus + bonus }

/-- A write found not landed: held money is restored to credit (R96). -/
def restore (a : Money) (l : Ledger) : Ledger := { l with h := l.h - a, c := l.c + a }

/-- WRITE OFF: held money to WRITTEN_OFF (R96). -/
def writeOff (a : Money) (l : Ledger) : Ledger := { l with h := l.h - a, writtenOff := l.writtenOff + a }

/-- CLEAR TOTALS zeroes the six money counters, OVERPAID and BONUS (R100). -/
def clearCounters (l : Ledger) : Ledger :=
  { l with inserted := 0, sold := 0, topped := 0, paid := 0, vouchered := 0, writtenOff := 0, overpaid := 0, bonus := 0 }

end Move

/-- The counters as TOTALS shows them (R29). -/
def Ledger.totals (l : Ledger) : TotalsView :=
  ⟨l.inserted, l.sold, l.topped, l.paid, l.vouchered, l.writtenOff, l.overpaid, l.bonus⟩

/-- Credit C as a number. -/
def State.credit (s : State) : Nat := s.retained.ledger.c.toNat

/-! ## Replies (R5) -/

/-- A reply joins the reply list. -/
def State.reply (kind : Byte) (body : ReplyBody) (s : State) : State :=
  { s with replies := s.replies ++ [⟨kind, body, none⟩] }

/-- REFUSED with a reason that carries nothing. -/
def State.refuse (kind : Byte) (r : Reason) (s : State) : State := s.reply kind (.refused r)

/-- ACCEPTED for RESTART or CLEAR ALL: from here the C-line assembler takes no further characters, and the start takes
place when this reply has been sent (R172, R174). -/
def State.replyThenStart (kind : Byte) (body : ReplyBody) (cause : StartCause) (s : State) : State :=
  { s with replies := s.replies ++ [⟨kind, body, some cause⟩], stopping := true }

/-! ## Reports (R30 to R32) -/

/-- A newer report of a fixed kind taking the place of a queued one; none where the kinds differ (R30). -/
def Report.merge : Report → Report → Option Report
  | .credit q, .credit r =>
    some (.credit { r with accepted := satAdd q.accepted r.accepted, returned := satAdd q.returned r.returned
                           renewals := satAdd q.renewals 1 })
  | .chute _, .chute r => some (.chute r)
  | .tubes _, .tubes r => some (.tubes r)
  | .printer q, .printer r =>
    some (.printer { r with paperDelta := q.paperDelta || r.paperDelta, headDelta := q.headDelta || r.headDelta
                            faultDelta := q.faultDelta || r.faultDelta, discards := satAdd q.discards r.discards })
  | .card q, .card r => some (.card { r with discards := satAdd q.discards r.discards })
  | _, _ => none

/-- Put a fixed-kind report: in place of the queued one of its kind, or at the tail (R30). -/
def putFixed (r : Report) : List Report → List Report
  | [] => [r]
  | q :: qs =>
    match Report.merge q r with
    | some m => m :: qs
    | none => q :: putFixed r qs

/-- Issue a fixed-kind report. -/
def State.issueFixed (r : Report) (s : State) : State := { s with reports := putFixed r s.reports }

/-- Issue a general report into a free slot; without one it is not issued (R32). -/
def State.issueFree (r : Report) (s : State) : State :=
  if 0 < s.freeSlots then { s with reports := s.reports ++ [r] } else s

/-- Issue a general report into a reservation, which it consumes (R31); without one it needs a free slot (R32). -/
def State.issueReserved (r : Report) (s : State) : State :=
  if 0 < s.reserved then { s with reports := s.reports ++ [r], reserved := s.reserved - 1 } else s.issueFree r

/-- Reserve general slots (R31). -/
def State.reserve (n : Nat) (s : State) : State := { s with reserved := s.reserved + n }

/-- Release one reservation (R31). -/
def State.release (s : State) : State := { s with reserved := s.reserved - 1 }

/-- Issue the CREDIT report with the coins accepted and returned by this event (R99). -/
def State.issueCredit (accepted returned : Nat) (s : State) : State :=
  s.issueFixed (.credit ⟨s.retained.ledger.c, s.purchase, accepted, returned, 0⟩)

/-- The coil status as it stands (R84). -/
def CoilDriver.status (d : CoilDriver) : CoilStatus :=
  { phases := d.coils.mapNamed fun _ c => c.phase, sensed := d.coils.mapNamed fun _ c => c.sensed
    command := d.command, faulted := d.faulted, failed := d.failed }

/-- Issue the CHUTE report as the state stands (R56, R84). -/
def State.issueChute (s : State) : State :=
  s.issueFixed (.chute ⟨s.chute.state, s.chute.fault, s.causes, s.chute.last, s.coils.status⟩)

/-- The tubes as the TUBES report shows them (R147). -/
def State.tubesReport (s : State) : Vector TubeReport 4 :=
  Vector.ofFn fun i => ⟨s.tubeCount i, (s.tubes.get i).faulted, (s.tubes.get i).low⟩

/-- Issue the TUBES report. -/
def State.issueTubes (s : State) : State := s.issueFixed (.tubes s.tubesReport)

/-- The binding as the CARD report shows it (R144). -/
def State.bindingReport (s : State) : Option BindingReport :=
  s.card.binding.map fun b => ⟨b.card, b.concession, b.balance, b.pass, b.blocked, s.unresolved b.card⟩

/-- Issue the CARD report, with the forward frames discarded by this event (R144, R15). -/
def State.issueCard (discards : Nat) (s : State) : State :=
  s.issueFixed (.card ⟨s.bindingReport, s.presence, satAdd 0 discards⟩)

/-- Issue the PRINTER report with this event's deltas and discards (R163, R15). -/
def State.issuePrinter (paper head fault : Bool) (discards : Nat) (s : State) : State :=
  s.issueFixed (.printer ⟨s.printer.paper, s.printer.head, s.printer.fault, paper, head, fault, s.presence,
    satAdd 0 discards⟩)

/-! ## Coils (R72, R74, R75) -/

/-- Energise: a coil in OFF passes to PULL-IN, its drive to begin at a period start; any other phase is kept (R72). -/
def Coil.energise (c : Coil) : Coil :=
  if c.phase = .off then { c with phase := .pullIn, begun := false, left := 0 } else c

/-- Release: the coil passes to OFF at once (R72). -/
def Coil.release (c : Coil) : Coil := { c with phase := .off, begun := false, left := 0 }

/-- Command a coil on or off. -/
def CoilDriver.drive (name : CoilName) (on : Bool) (d : CoilDriver) : CoilDriver :=
  let c := d.coils.get name
  { d with coils := d.coils.set (if on then c.energise else c.release) name }

/-- The diverter command (R74): the other side is released at once and the named side becomes the target; a side already
driven keeps its drive. -/
def CoilDriver.divert (cmd : DiverterCommand) (d : CoilDriver) : CoilDriver :=
  match cmd with
  | .cashBox =>
    let d := { d.drive .dvt false with command := .cashBox }
    { d with target := if d.coils.dvk.on then none else some false }
  | .tubes =>
    let d := { d.drive .dvk false with command := .tubes }
    { d with target := if d.coils.dvt.on then none else some true }
  | .none => { (d.drive .dvt false).drive .dvk false with command := .none, target := none }

/-- Release all four coils (R80, R172). -/
def CoilDriver.releaseAll (d : CoilDriver) : CoilDriver :=
  { d with coils := d.coils.mapNamed fun _ c => c.release }

/-! ## The entry test (R64) -/

/-- Test the entry-block conditions again: when the set of failing conditions has changed, EB is commanded accordingly
and the CHUTE report is issued (R64, R56). -/
def State.entryTest (s : State) : State :=
  if s.failing = s.causes then s
  else (({ s with causes := s.failing }).onCoils (·.drive .eb s.failing.clear)).issueChute

/-! ## Low flags (R147) -/

/-- Recompute every low flag. -/
def State.withLows (s : State) : State :=
  { s with tubes := Vector.ofFn fun i => { s.tubes.get i with low := s.isLow i } }

/-- A low or faulted flag differs between two states. -/
def flagsMoved (s t : State) : Bool :=
  (List.finRange 4).any fun i =>
    (s.tubes.get i).faulted != (t.tubes.get i).faulted || (s.tubes.get i).low != (t.tubes.get i).low

/-- After a change of a tube's count or fault or of the COIN table: recompute the low flags, and issue the TUBES report
if any low or faulted flag differs from the state before the event (R147). -/
def State.tubesChanged (s : State) (before : State) : State :=
  if flagsMoved before s.withLows then s.withLows.issueTubes else s.withLows

/-! ## Rest (R86) -/

/-- The rest test: OPEN with a bound card or credit, IDLE otherwise (R86). -/
def State.rest (s : State) : State :=
  { s with purchase := if s.card.binding.isSome || s.retained.ledger.c != 0 then .opened else .idle }

end Sys2Proof.Machine
end

