-- ==== Sys2Proof/Machine/Encoding.lean ====
section
/-! DEFINITION. The frames the part sends on the C-line: the payloads of replies and reports (R176, R177). Where R177 has no
table entry, the fields stand in the order their owning rule lists them; the conventions it leaves open are assumption
19. -/

namespace Sys2Proof.Machine

/-! ## Field types (R177) -/

/-- One byte. -/
def b1 (n : Nat) : List Byte := leBytes 1 n
/-- Two bytes. -/
def b2 (n : Nat) : List Byte := leBytes 2 n
/-- Four bytes. -/
def b4 (n : Nat) : List Byte := leBytes 4 n
/-- A flag. -/
def bf (b : Bool) : List Byte := [flagByte b]
/-- A money amount in 4 bytes. -/
def m4 (m : Money) : List Byte := leBytes 4 m.toNat
/-- A per-operation amount in 2 bytes. -/
def m2 (m : Money) : List Byte := leBytes 2 m.toNat

/-- An optional field: a presence byte and the value, whose bytes are 0 when it is absent. -/
def optional {α : Type} (size : Nat) (f : α → List Byte) : Option α → List Byte
  | none => List.replicate (size + 1) 0
  | some x => 1 :: f x

/-- A generation, 0 for none. -/
def generationBytes (g : Option Nat) : List Byte := b2 (g.getD 0)

/-- A timestamp in 8 bytes. -/
def Timestamp.bytes (t : Timestamp) : List Byte := b2 t.day ++ b4 t.second ++ b1 t.hundredth ++ bf t.valid

/-! ## Enumerations -/

/-- A refusal reason's position in the list of R177, counted from 1. -/
def Reason.code : Reason → Nat
  | .busy => 1 | .state => 2 | .short => 3 | .noChange => 4 | .product => 5 | .zones => 6 | .noCard => 7
  | .blocked => 8 | .limit => 9 | .journal => 10 | .table => 11 | .format => 12 | .guarded => 13 | .absent => 14
  | .queue => 15 | .setup => 16 | .service => 17 | .printer => 18 | .range => 19 | .passHeld => 20

/-- UNSET 0, READY 1, SERVICE 2. -/
def PartState.code : PartState → Nat
  | .unset => 0 | .ready => 1 | .service => 2

/-- NONE 0, FILLING 1, READY 2, BAD 3, SCHEDULED 4. -/
def LoadState.code : LoadState → Nat
  | .none => 0 | .filling => 1 | .ready => 2 | .bad => 3 | .scheduled => 4

/-- CHECK 0, COUNT 1, FIELD 2, WINDOW 3, ORDER 4, FLOOR 5. -/
def BadReason.code : BadReason → Nat
  | .check => 0 | .count => 1 | .field => 2 | .window => 3 | .order => 4 | .floor => 5

/-- DONE 0, DEFERRED 1, SCHEDULED 2. -/
def ActivateOutcome.code : ActivateOutcome → Nat
  | .done => 0 | .deferred => 1 | .scheduled => 2

/-- IDLE 0, OPEN 1, BUSY 2, PAYOUT 3. -/
def PurchaseState.code : PurchaseState → Nat
  | .idle => 0 | .opened => 1 | .busy => 2 | .payout => 3

/-- PRINTED SALE 0, CARD SALE 1, TOPUP 2, VOUCHER 3. -/
def OpKind.code : OpKind → Nat
  | .printedSale => 0 | .cardSale => 1 | .topup => 2 | .voucher => 3

/-- The chute states in the order of R46. -/
def ChuteState.code : ChuteState → Nat
  | .idle => 0 | .onA => 1 | .gap => 2 | .onB => 3 | .accepting => 4 | .returning => 5 | .fault => 6

/-- The fault kinds in the order of R46. -/
def FaultKind.code : FaultKind → Nat
  | .jamA => 0 | .jamB => 1 | .order => 2 | .crowd => 3 | .strayC => 4 | .acceptLost => 5 | .returnLost => 6 | .coil => 7

/-- A classification result: NONE 0, AMBIGUOUS 1 or a kind 2, and the coin kind or 0. -/
def CoinResult.bytes : CoinResult → List Byte
  | .none => [0, 0]
  | .ambiguous => [1, 0]
  | .kind k => 2 :: b1 k

/-- ACCEPT 0, RETURN 1. -/
def Decision.code : Decision → Nat
  | .accept => 0 | .giveBack => 1

/-- OFF 0, PULL-IN 1, HOLD 2. -/
def Phase.code : Phase → Nat
  | .off => 0 | .pullIn => 1 | .hold => 2

/-- CASHBOX 0, TUBES 1, NONE 2. -/
def DiverterCommand.code : DiverterCommand → Nat
  | .cashBox => 0 | .tubes => 1 | .none => 2

/-- OK 0, LOW 1, OUT 2, UNKNOWN 3. -/
def Paper.code : Paper → Nat
  | .ok => 0 | .low => 1 | .out => 2 | .unknown => 3

/-- CLOSED 0, OPEN 1, UNKNOWN 2. -/
def Head.code : Head → Nat
  | .closed => 0 | .opened => 1 | .unknown => 2

/-- SET 0, CLEAR 1, UNKNOWN 2, in the order of R163. -/
def PrinterFault.code : PrinterFault → Nat
  | .set => 0 | .clear => 1 | .unknown => 2

/-- The void causes in the order of R122. DEDUCED, unsafe: the one numbering serves every report that carries a cause, those whose rule
names only some of the values too: TOPUP VOID's WRITE FAIL is 5 (R144), and VOUCHER VOID and RECEIPT keep 0 to 4 (R158, R169) (assumption
19). -/
def VoidCause.code : VoidCause → Nat
  | .paperOut => 0 | .headOpen => 1 | .printerFault => 2 | .printerAbsent => 3 | .cutLate => 4 | .writeFail => 5

/-- UNSURE 0, TIMEOUT 1, ABSENT 2. -/
def UncertainCause.code : UncertainCause → Nat
  | .unsure => 0 | .timeout => 1 | .absent => 2

/-- LANDED 0, RESTORED 1. -/
def Resolution.code : Resolution → Nat
  | .landed => 0 | .restored => 1

/-- POWER 0, RESET 1, RESTART 2, CHECK 3, CLEAR ALL 4. -/
def StartCause.code : StartCause → Nat
  | .power => 0 | .reset => 1 | .restart => 2 | .check => 3 | .clearAll => 4

/-- VOIDED 0, UNCERTAIN 1. -/
def Interruption.code : Interruption → Nat
  | .voided => 0 | .uncertain => 1

/-- ISSUED 0, UNCERTAIN 1. -/
def RecordState.code : RecordState → Nat
  | .issued => 0 | .uncertain => 1

/-! ## Shared groups of fields -/

/-- A BAD reason and entry position, absent unless the copy is BAD. -/
def badBytes : Option (BadReason × Nat) → List Byte := optional 3 fun p => b1 p.1.code ++ b2 p.2

/-- The load state fields of R23. -/
def LoadView.bytes (v : LoadView) : List Byte := b1 v.st.code ++ b1 v.held ++ badBytes v.bad

/-- The eight counters in the order of R29. -/
def TotalsView.bytes (v : TotalsView) : List Byte :=
  m4 v.inserted ++ m4 v.sold ++ m4 v.topped ++ m4 v.paid ++ m4 v.vouchered ++ m4 v.writtenOff ++ m4 v.overpaid
    ++ m4 v.bonus

/-- The first and last valid days, or none. -/
def daysBytes : Option (Nat × Nat) → List Byte := optional 4 fun p => b2 p.1 ++ b2 p.2

/-- The clock's five fields (R33). -/
def Clock.bytes (c : Clock) : List Byte :=
  b2 c.day ++ b4 c.second ++ b1 c.hundredth ++ b1 c.dayOfWeek ++ bf c.valid

/-- The five tallies (R4). -/
def Tallies.bytes (t : Tallies) : List Byte := b2 t.parity ++ b2 t.framing ++ b2 t.overrun ++ b2 t.check ++ b2 t.timeout

/-- A card write's content: the new balance, the product and its days, those of the other kind 0. -/
def Written.bytes : Written → List Byte
  | .balance v => b2 v ++ [0, 0, 0, 0, 0]
  | .pass product first last => [0, 0] ++ b1 product ++ b2 first ++ b2 last

/-- A journal record, every field in the order of R133. -/
def JournalRecord.bytes (r : JournalRecord) : List Byte :=
  b1 r.state.code ++ b4 r.txn ++ b4 r.card ++ b1 r.kind.code ++ m2 r.amount ++ m2 r.bonus ++ b2 r.oldSequence
    ++ b2 r.machineId ++ r.content.bytes ++ r.stamp.bytes

/-- A pass slot, or none. -/
def passBytes : Option PassSlot → List Byte := optional 3 fun p => b1 p.product ++ b2 p.lastDay

/-! ## Replies -/

/-- The content of a QUERY reply after its header (R29). DESIGN CHOICE, unsafe (assumption 46): TOTALS of index 1 goes coin kind by coin
kind, the accepted count and then the returned one, and not through the 12 accepted counts first; TABLES of a kind that is not SCHEDULED
shows the due point as NOW, day 0, second 0 and not due, since R22 gives only a SCHEDULED copy a due point; its segments held are their
number in one byte, as in the load state fields of R23, and not the set of the held indexes that R22 keeps; LINES holds the five tallies
of the C-line, then those of the M-line, since R29 does not say which come first. -/
def QueryBody.bytes : QueryBody → List Byte
  | .totals v => v.bytes
  | .coinCounts a r => (List.finRange 12).flatMap fun k => b2 (a.get k) ++ b2 (r.get k)
  | .tubes v => v.toList.flatMap fun t => b1 t.count ++ b1 t.capacity ++ b1 t.lowMark ++ bf t.faulted
  | .journal r => optional 33 JournalRecord.bytes r
  | .lines c m => c.bytes ++ m.bytes
  | .tables v =>
    generationBytes v.active ++ b1 v.st.code ++ b2 v.generation ++ b1 v.total ++ b1 v.held ++ badBytes v.bad
      ++ (match v.due with
        | .now => b1 0 ++ b2 0 ++ b4 0
        | .at d s => b1 1 ++ b2 d ++ b4 s)
      ++ bf v.fallen
  | .clock c => c.bytes
  | .purchase v =>
    b1 v.state.code ++ m4 v.c ++ m4 v.k ++ m4 v.pp ++ m4 v.h
      ++ optional 7 (fun (o : OpKind × Nat × Money) => b1 o.1.code ++ b4 o.2.1 ++ m2 o.2.2) v.op
      ++ optional 5 (fun (b : Nat × Bool) => b4 b.1 ++ bf b.2) v.bound

/-- The state header (R29). -/
def StateHeader.bytes (h : StateHeader) : List Byte := b1 h.part.code ++ bf h.detached ++ bf h.inhibit ++ b1 h.free

/-- A reply's payload: the result byte and what follows it (R177). -/
def ReplyBody.bytes : ReplyBody → List Byte
  | .refused r => b1 r.code
  | .refusedSum r amount => b1 r.code ++ b4 amount
  | .refusedLimit greatest => b1 Reason.limit.code ++ b2 greatest
  | .refusedLoad r v => b1 r.code ++ v.bytes
  | .alive => []
  | .accepted => [0]
  | .query h b => 0 :: h.bytes ++ b.bytes
  | .service p => 0 :: b1 p.code
  | .inhibit b => 0 :: bf b
  | .load v => 0 :: v.bytes
  | .discard st => 0 :: b1 st.code
  | .activate st o => 0 :: b1 st.code ++ b1 o.code
  | .clock c n => 0 :: c.bytes ++ b1 n
  | .sell v =>
    0 :: b4 v.txn ++ b2 v.price ++ optional 1 b1 v.band ++ b1 v.concession ++ daysBytes v.days ++ b2 v.fareGeneration
      ++ b4 v.change
  | .topup txn amount bonus balance => 0 :: b4 txn ++ m2 amount ++ m2 bonus ++ b2 balance
  | .cancel amount planned short => 0 :: m4 amount ++ b4 planned ++ b4 short
  | .voucher txn amount => 0 :: b4 txn ++ m2 amount
  | .reprint txn => 0 :: b4 txn
  | .chuteClear k => 0 :: b1 k.code
  | .tube n f => 0 :: b1 n ++ bf f
  | .writeOff card k amount bonus => 0 :: b4 card ++ b1 k.code ++ m2 amount ++ m2 bonus
  | .clearTotals v => 0 :: v.bytes
  | .clearAll v txn => 0 :: v.bytes ++ b4 txn

/-! ## Reports -/

/-- Four coils as a set, EB at member 0. -/
def coilSet (p : PerCoil Bool) : List Byte := setBytes 1 p.toList

/-- The failing entry-block conditions as a set, in the order of R64. -/
def Causes.bytes (c : Causes) : List Byte :=
  setBytes 1 [c.chute, c.purchase, c.state, c.detached, c.inhibit, c.door, c.table, c.ceiling]

/-- A last measurement (R46). -/
def Measurement.bytes (m : Measurement) : List Byte :=
  b2 m.wA ++ b2 m.fAB ++ b2 m.wB ++ b2 m.rA ++ b2 m.rB ++ m.result.bytes ++ b1 m.decision.code

/-- A sensed state in the order of R79: CURRENT 0, NONE 1. -/
def sensedCode (current : Bool) : Nat := if current then 0 else 1

/-- The coil status (R84). -/
def CoilStatus.bytes (c : CoilStatus) : List Byte :=
  b1 c.phases.eb.code ++ b1 (sensedCode c.sensed.eb) ++ b1 c.phases.ag.code ++ b1 (sensedCode c.sensed.ag)
    ++ b1 c.phases.dvt.code ++ b1 (sensedCode c.sensed.dvt) ++ b1 c.phases.dvk.code ++ b1 (sensedCode c.sensed.dvk)
    ++ b1 c.command.code ++ bf c.faulted ++ coilSet c.failed

/-- The fields of SALE DONE, and of SALE VOID but for its cause (R122). -/
def SaleReport.bytes (r : SaleReport) : List Byte :=
  b4 r.txn ++ b1 r.kind.code ++ b1 r.sale.product ++ b1 r.sale.zones ++ b1 r.sale.concession
    ++ optional 1 b1 r.sale.band ++ m2 r.price ++ b2 r.fareGeneration ++ daysBytes r.sale.days ++ r.stamp.bytes

/-- A payout's cause: CHANGE 0 with its transaction number, CANCEL 1, LEVER 2 (R154). -/
def PayoutCause.bytes : PayoutCause → List Byte
  | .change txn => b1 0 ++ b4 txn
  | .cancel => b1 1 ++ b4 0
  | .lever => b1 2 ++ b4 0

/-- START's fields (R175). -/
def StartReport.bytes (r : StartReport) : List Byte :=
  bf r.cold ++ b1 r.cause.code ++ m4 r.c ++ m4 r.h ++ b1 r.records ++ b4 r.txn ++ bf r.clockValid
    ++ r.generations.flatMap generationBytes
    ++ optional 6 (fun (o : OpKind × Nat × Interruption) => b1 o.1.code ++ b4 o.2.1 ++ b1 o.2.2.code) r.operation
    ++ optional 4 m4 r.payout ++ optional 4 b4 r.receipt

/-- A receipt's outcome: SKIPPED 0, PRINTED 1, LOST 2 (R169). DESIGN CHOICE, unsafe (assumption 46): LOST's cause is an optional field of
R177 in the RECEIPT of every outcome, a presence byte and a cause byte, both 0 for SKIPPED and PRINTED, since R169 gives it no layout. -/
def ReceiptOutcome.bytes : ReceiptOutcome → List Byte
  | .skipped => [0, 0, 0]
  | .printed => [1, 0, 0]
  | .lost c => 2 :: 1 :: b1 c.code

/-- The KIND of a report (R176). -/
def Report.kind : Report → Byte
  | .credit _ => 32 | .chute _ => 33 | .tubes _ => 34 | .printer _ => 35 | .card _ => 36 | .saleDone _ => 37
  | .saleVoid .. => 38 | .topupDone _ => 39 | .topupVoid .. => 40 | .uncertain .. => 41 | .resolved .. => 42
  | .payoutDone _ => 43 | .voucherDone _ => 44 | .voucherVoid .. => 45 | .receipt .. => 46 | .table _ => 47
  | .start _ => 48

/-- A report's payload (R177). DESIGN CHOICE, unsafe (assumption 46): CARD's binding, BOUND or NONE, is the presence byte of an optional
field, NONE 0 and BOUND 1, and not an enumeration with BOUND 0 (R144, R177); the presence of the six slots in PRINTER and CARD is one
byte, the set of the PRESENT slots with slot 1 at bit 0, since R15 and R177 give it no layout of its own; CHUTE's failing set is one
byte in every report, 0 while the entry is OPEN, and not an optional field, since R56 lists the set only for CLOSED. -/
def Report.bytes : Report → List Byte
  | .credit r => m4 r.credit ++ b1 r.purchase.code ++ b2 r.accepted ++ b2 r.returned ++ b2 r.renewals
  | .chute r =>
    b1 r.state.code ++ optional 1 (fun k => b1 (FaultKind.code k)) r.fault ++ bf (!r.causes.clear) ++ r.causes.bytes
      ++ optional 13 Measurement.bytes r.last ++ r.coils.bytes
  | .tubes v => v.toList.flatMap fun t => b1 t.count ++ bf t.faulted ++ bf t.low
  | .printer r =>
    b1 r.paper.code ++ b1 r.head.code ++ b1 r.fault.code ++ bf r.paperDelta ++ bf r.headDelta ++ bf r.faultDelta
      ++ setBytes 1 r.presence.toList ++ b2 r.discards
  | .card r =>
    optional 13 (fun (b : BindingReport) =>
      b4 b.card ++ b1 b.concession ++ b2 b.balance ++ passBytes b.pass ++ bf b.blocked ++ bf b.unresolved) r.binding
      ++ setBytes 1 r.presence.toList ++ b2 r.discards
  | .saleDone r => r.bytes
  | .saleVoid r c => r.bytes ++ b1 c.code
  | .topupDone r =>
    b4 r.txn ++ b4 r.card ++ m2 r.amount ++ m2 r.bonus ++ b2 r.newBalance ++ b2 r.newSequence ++ b2 r.fareGeneration
      ++ r.stamp.bytes
  | .topupVoid r c => b4 r.txn ++ b4 r.card ++ m2 r.amount ++ m2 r.bonus ++ r.stamp.bytes ++ b1 c.code
  | .uncertain r c =>
    b4 r.txn ++ b1 r.kind.code ++ b4 r.card ++ m2 r.amount ++ m2 r.bonus ++ r.stamp.bytes ++ b1 c.code
  | .resolved r o =>
    b4 r.txn ++ b1 r.kind.code ++ b4 r.card ++ m2 r.amount ++ m2 r.bonus ++ b1 o.code ++ r.stamp.bytes
  | .payoutDone r =>
    r.cause.bytes ++ m4 r.amount ++ m4 r.paid ++ m4 r.shortfall ++ r.coins.toList.flatMap b2
      ++ setBytes 1 r.faulted.toList
  | .voucherDone r => b4 r.txn ++ m2 r.amount ++ r.stamp.bytes
  | .voucherVoid r c => b4 r.txn ++ m2 r.amount ++ r.stamp.bytes ++ b1 c.code
  | .receipt txn o => b4 txn ++ o.bytes
  | .table r =>
    [TableKind.code r.kind] ++ b2 r.generation ++ generationBytes r.replaced ++ b2 r.day ++ b4 r.second ++ bf r.valid
      ++ bf r.waited
  | .start r => r.bytes

/-- The frame of a reply: to 14 from 0, with the KIND of the frame it answers (R5). -/
def Reply.frame (r : Reply) : Frame := ⟨terminal, 0, r.kind, r.body.bytes⟩

/-- The frame of a report: to 14 from 0 (R176). -/
def Report.frame (r : Report) : Frame := ⟨terminal, 0, r.kind, r.bytes⟩

end Sys2Proof.Machine
end

