-- ==== Sys2Proof/Machine/Coils.lean ====
section
/-! DEFINITION. The coil driver's own work: the profile of the COIN header, PWM periods, pull-in checks, the diverter's
change-over, the coil fault, and the entry of the chute into FAULT, which a coil fault shares with the chute's faults. -/

namespace Sys2Proof.Machine

/-! ## The profile (R71 to R73) -/

/-- The greatest pulse of a coil in a period (R71, R73). -/
def greatestPulse (h : CoinHeader) : CoilName → Nat
  | .eb | .ag => h.period
  | .dvt | .dvk => h.period / 2

/-- The effective pull-in duty (R73). -/
def effectivePullIn (h : CoinHeader) (n : CoilName) : Nat := min (h.drive.get n).pullIn (greatestPulse h n)

/-- The effective hold duty, clamped after the pull-in duty (R73). -/
def effectiveHold (h : CoinHeader) (n : CoilName) : Nat := min (h.drive.get n).hold (effectivePullIn h n)

/-- The pull-in count: the pull-in time in µs divided by P, rounded up (R72). -/
def pullInCount (h : CoinHeader) (n : CoilName) : Nat := ((h.drive.get n).timeMs * 1000 + h.period - 1) / h.period

/-- Where a coil's pulse begins within the period (R71). -/
def pulseStart (h : CoinHeader) : CoilName → Nat
  | .eb | .ag | .dvt => 0
  | .dvk => h.period - h.period / 2

/-- A coil's pulse within the present period as its first and last-excluded µs; none where it carries no drive (R71). -/
def pulseOf (h : CoinHeader) (n : CoilName) (c : Coil) : Option (Nat × Nat) :=
  match c.phase with
  | .off => none
  | .pullIn => if c.begun && 0 < effectivePullIn h n then some (pulseStart h n, pulseStart h n + effectivePullIn h n) else none
  | .hold => if 0 < effectiveHold h n then some (pulseStart h n, pulseStart h n + effectiveHold h n) else none

/-! ## FAULT entry (R53) -/

/-- The chute enters FAULT of a kind, or changes to COIL. The diverter of a COIL fault is the coil driver's (R53, R80). -/
def State.enterFault (k : FaultKind) (s : State) : State :=
  let s := s.onChute fun c =>
    { c with state := .fault, fault := some k, coin := none
             timer := if k.selfClears && allIdle c.active then some Config.idleWaitMs else none }
  let s := s.onCoils fun d =>
    let d := d.drive .ag false
    if k = .coil then d else d.divert .cashBox
  s.entryTest.issueChute

/-- A coil fault: FAULTED with the recorded set, all coils released, the diverter command NONE, the chute in FAULT COIL
(R80). -/
def State.coilFault (failed : PerCoil Bool) (s : State) : State :=
  (s.onCoils fun d => { (d.divert .none).releaseAll with faulted := true, failed := failed }).enterFault .coil

/-! ## Periods (R70, R72, R75, R79) -/

/-- A pull-in check passes: current while the coil's pulse was on, and a pulse there was (R79). -/
def checkPasses (h : CoinHeader) (n : CoilName) (x : Sense) : Bool := x.inPulse && decide (0 < effectivePullIn h n)

/-- The coil's last pull-in period is the one in progress (R72). -/
def Coil.ending (c : Coil) : Bool := c.phase == .pullIn && c.begun && c.left ≤ 1

/-- The sensed state of a coil for a period: CURRENT where its input showed current at any moment of it (R79). -/
def sensedIn (x : Sense) : Bool := x.any || x.inPulse

/-- A coil after a period ends: its sensed state, its remaining pull-in periods, and HOLD after a passed check. -/
def Coil.afterPeriod (h : CoinHeader) (n : CoilName) (x : Sense) (c : Coil) : Coil :=
  let c := { c with sensed := sensedIn x }
  if c.phase = .pullIn ∧ c.begun then
    if c.left ≤ 1 then (if checkPasses h n x then { c with phase := .hold, left := 0 } else c)
    else { c with left := c.left - 1 }
  else c

/-- A coil whose drive begins now with a full pull-in count (R72). -/
def Coil.begin (h : CoinHeader) (n : CoilName) (c : Coil) : Coil :=
  { c with phase := .pullIn, begun := true, left := pullInCount h n }

/-- The change-over of R75: with the quiet count at least N, the target side begins its pull-in. -/
def CoilDriver.changeover (h : CoinHeader) (d : CoilDriver) : CoilDriver :=
  if d.faulted || d.quiet < h.nonOverlap then d
  else match d.target with
    | none => d
    | some true =>
      { d with coils := { d.coils with dvt := d.coils.dvt.begin h .dvt }, target := none, quiet := 0, driven := true }
    | some false =>
      { d with coils := { d.coils with dvk := d.coils.dvk.begin h .dvk }, target := none, quiet := 0, driven := true }

/-- What a period start does: coils waiting in PULL-IN begin their drive, and the change-over is made (R72, R75). -/
def CoilDriver.periodStart (h : CoinHeader) (d : CoilDriver) : CoilDriver :=
  let d := { d with coils := d.coils.mapNamed fun n (c : Coil) => if c.phase = Phase.pullIn ∧ !c.begun then c.begin h n else c }
  let d := d.changeover h
  { d with driven := d.sideOn }

/-- The coils whose check fails at the end of this period (R79, R80). -/
def failedChecks (h : CoinHeader) (sense : PerCoil Sense) (d : CoilDriver) : PerCoil Bool :=
  d.coils.mapNamed fun n c => c.ending && !checkPasses h n (sense.get n)

/-- Some coil is in a set. -/
def anyCoil (p : PerCoil Bool) : Bool := p.eb || p.ag || p.dvt || p.dvk

/-- What a period's end does but for failed checks: sensed states, remaining periods, the quiet count (R74, R79). -/
def CoilDriver.periodEnd (h : CoinHeader) (sense : PerCoil Sense) (d : CoilDriver) : CoilDriver :=
  { d with quiet := if d.driven || d.sideOn then 0 else min (d.quiet + 1) Config.quietMax
           coils := d.coils.mapNamed fun n c => c.afterPeriod h n (sense.get n) }

/-- PWM_PERIOD: a period ends and the next begins (R70). Without a COIN table there is no period. -/
def State.pwmPeriod (sense : PerCoil Sense) (s : State) : State :=
  match s.coinTable with
  | none => s
  | some t =>
    let failed := failedChecks t.header sense s.coils
    let s := s.onCoils (·.periodEnd t.header sense)
    let s := if anyCoil failed then s.coilFault failed else s
    s.onCoils (·.periodStart t.header)

/-- A coil after the period that ends with a pull-in check: its sensed state, and, where the check is its own, no periods left and HOLD
unless it fails (R72, R79). -/
def Coil.afterCheck (checked failed : Bool) (x : Sense) (c : Coil) : Coil :=
  let c := { c with sensed := sensedIn x }
  if checked then { c with phase := if failed then c.phase else .hold, begun := true, left := 0 } else c

/-- The named coils whose last pull-in period is the one in progress (R72, R79). -/
def checkedCoils (ends : PerCoil Bool) (d : CoilDriver) : PerCoil Bool := d.coils.mapNamed fun n c => ends.get n && c.ending

/-- PULL_IN_CHECK: the last pull-in period of the named coils ends, and with it the sensed state of every coil is that period's; each
named coil whose last one is in progress is checked, and where there is none no period ends (R79, R80; assumption 24). -/
def State.pullInCheck (ends : PerCoil Bool) (sense : PerCoil Sense) (s : State) : State :=
  match s.coinTable with
  | none => s
  | some t =>
    let checked := checkedCoils ends s.coils
    let failed := checked.mapNamed fun n b => b && !checkPasses t.header n (sense.get n)
    if anyCoil checked then
      let s := s.onCoils fun d =>
        { d with coils := d.coils.mapNamed fun n c => c.afterCheck (checked.get n) (failed.get n) (sense.get n) }
      if anyCoil failed then s.coilFault failed else s
    else s

/-- DIVERTER_CHANGEOVER at a period start (R75). -/
def State.diverterChangeover (s : State) : State :=
  match s.coinTable with
  | none => s
  | some t => s.onCoils (·.changeover t.header)

/-- What a COIN activation does to the coils: the diverter command CASHBOX, and the first period of the new P, in which
every coil in PULL-IN or HOLD begins a fresh PULL-IN (R82). DESIGN CHOICE, unsafe: the period that it cuts short gives the coils no
sensed state, and they keep showing that of the period before, since R82 does not say that a period it ends is sensed (assumption 47). -/
def CoilDriver.newProfile (h : CoinHeader) (d : CoilDriver) : CoilDriver :=
  let d := d.divert .cashBox
  let d := { d with coils := d.coils.mapNamed fun n (c : Coil) => if c.on then c.begin h n else c }
  d.periodStart h

/-- CHUTE CLEAR of a COIL fault: the coil fault state is NORMAL, the set empty (R81). -/
def CoilDriver.clearFault (d : CoilDriver) : CoilDriver :=
  { d with faulted := false, failed := ⟨false, false, false, false⟩ }

end Sys2Proof.Machine
end

