-- ==== Sys2Proof/Machine/Tables.lean ====
section
/-! DEFINITION. The table store: segment layouts (R178), the FORMAT checks of entries (R177, R178), load validation (R24,
R40, R67 to R69, R102 to R106, R128, R159), LOAD and DISCARD (R23, R25), schedules and activations (R26 to R28, R43). -/

namespace Sys2Proof.Machine

/-! ## Kinds -/

/-- Bytes of an entry (R178). -/
def entrySize : TableKind → Nat
  | .coin => 32 | .fare => 39 | .hotlist => 4 | .passage => 8 | .template => 43

/-- The entry limit of a kind (R9, R102, R128, R159 and the COIN table's 17). -/
def entryLimit : TableKind → Nat
  | .coin => 17 | .fare => 63 | .hotlist => 1024 | .passage => 13 | .template => 96

/-- The fixed entry count of a kind, where it has one (R24). -/
def fixedCount : TableKind → Option Nat
  | .coin => some 17 | .passage => some 13 | .fare | .hotlist | .template => none

/-- Bytes cut into entries of a size; fuel bounds their number. -/
def chunks (size : Nat) : Nat → List Byte → List (List Byte)
  | 0, _ => []
  | k + 1, bs => if bs.isEmpty then [] else bs.take size :: chunks size k (bs.drop size)

/-- The entries that a segment's bytes hold. -/
def entriesOf (kind : TableKind) (bs : List Byte) : List (List Byte) := chunks (entrySize kind) bs.length bs

/-- One byte of an entry as a number. -/
def byteAt (e : List Byte) (i : Nat) : Nat := (e.getD i 0).toNat

/-! ## Layouts and the FORMAT checks -/

/-- What an entry is, by its kind and position (R178). -/
inductive Layout where
  | coinHeader | coinEntry | tubeEntry
  | fareHeader | fareClass | product | band
  | card | row | line
  | unknown
  deriving DecidableEq, Repr

/-- The layout of the entry at a position; past the FARE classes it needs the header's product count (R102). DESIGN CHOICE, unsafe: an entry
past a table's last place, to which R178 gives no layout, is judged for FORMAT as a tube entry (COIN from 17 on) or as a band (FARE past
products and bands), before the RANGE or COUNT that turns such a table away (assumption 50). -/
def layoutAt (kind : TableKind) (header : Option (List Byte)) (pos : Nat) : Layout :=
  match kind with
  | .coin => if pos = 0 then .coinHeader else if pos ≤ 12 then .coinEntry else .tubeEntry
  | .fare =>
    if pos = 0 then .fareHeader
    else if pos ≤ 8 then .fareClass
    else match header with
      | none => .unknown
      | some h => if pos < 9 + byteAt h 2 then .product else .band
  | .hotlist => .card
  | .passage => .row
  | .template => .line

/-- A product entry keeps its encodings: enumerations, the presence byte and the absent late start, the set of two members (R178). -/
def productFormatOk (e : List Byte) : Bool :=
  byteAt e 17 ≤ 2 && byteAt e 29 ≤ 2 && byteAt e 32 ≤ 1 && (byteAt e 32 == 1 || field 33 4 e == 0) && byteAt e 38 < 4

/-- A band entry keeps its encodings: the padding 0, the day mask a set of seven members (R178). -/
def bandFormatOk (e : List Byte) : Bool := allZero (e.drop 10) && byteAt e 0 < 128

/-- An entry keeps the encodings whose breach refuses a LOAD: padding and the text beyond its length 0, no set bit
without a member, an absent optional's value 0, flags and enumerations with a value. A FARE entry past the classes that comes before
the product count breaks them where it is neither a product nor a band (R177, R178, assumption 18). -/
def formatOk (l : Layout) (e : List Byte) : Bool :=
  match l with
  | .coinEntry => byteAt e 0 ≤ 1 && allZero (e.drop 15)
  | .tubeEntry => allZero (e.drop 3)
  | .fareHeader => allZero (e.drop 13)
  | .fareClass => allZero (e.drop 1)
  | .product => productFormatOk e
  | .band => bandFormatOk e
  | .unknown => productFormatOk e || bandFormatOk e
  | .line => allZero (e.drop (3 + byteAt e 2))
  | .coinHeader | .card | .row => true

/-- The pending copy of a kind is the one a LOAD of this generation adds to. -/
def Load.isSame (l : Load) (generation : Nat) : Bool := l.st != .none && l.generation == generation

/-- The segments a LOAD of this generation finds held. -/
def Load.heldFor (l : Load) (generation : Nat) : List Segment := if l.isSame generation then l.segments else []

/-- The position of a segment's first entry: the entries of the held segments before it, a segment not yet held counting
as the one entry that a segment of COIN or FARE has room for (assumption 18). -/
def basePosition (held : List Segment) (index : Nat) : Nat :=
  ((List.range index).map fun i =>
    match held.find? fun g => g.index == i with
    | some g => g.entries.length
    | none => 1).sum

/-- The entries of the segment at an index as a LOAD leaves them: its own, or those held there. -/
def entriesAt (held : List Segment) (index : Nat) (es : List (List Byte)) (i : Nat) : Option (List (List Byte)) :=
  if i = index then some es else (held.find? fun g => g.index == i).map Segment.entries

/-- Entry 0 of the table as a LOAD leaves it, by which the layout past the FARE classes is judged: the first entry of the first segment
that is not held empty, and none where that one is missing (R102, R178). -/
def headerFor (held : List Segment) (index : Nat) (es : List (List Byte)) : Option (List Byte) :=
  ((List.range 256).find? fun i => entriesAt held index es i != some []).bind fun i =>
    (entriesAt held index es i).bind List.head?

/-- A LOAD's entry bytes keep the format (R178). DEDUCED, unsafe: FORMAT is judged of the LOAD that carries an entry and never again, so a
FARE entry that came before entry 0 and kept one of its two layouts is not judged by the other when entry 0 gives the product
count, and a band with padding that is not 0 can end READY (assumption 18). -/
def loadFormatOk (kind : TableKind) (generation index : Nat) (bytes : List Byte) (l : Load) : Bool :=
  let held := l.heldFor generation
  let es := entriesOf kind bytes
  let base := basePosition held index
  let header := headerFor held index es
  bytes.length % entrySize kind == 0 &&
    (es.zipIdx.all fun p => formatOk (layoutAt kind header (base + p.2)) p.1)

/-! ## Entries as fields -/

/-- A coil's drive in the COIN header, from its place on. -/
def parseDrive (e : List Byte) (at_ : Nat) : CoilDrive := ⟨field at_ 2 e, field (at_ + 2) 2 e, byteAt e (at_ + 4)⟩

/-- COIN entry 0 (R178). -/
def parseCoinHeader (e : List Byte) : CoinHeader :=
  { filter := byteAt e 0, aLimit := field 1 2 e, gapLimit := field 3 2 e, acceptWait := field 5 2 e
    returnWait := field 7 2 e, period := field 9 2 e, nonOverlap := byteAt e 11
    drive := ⟨parseDrive e 12, parseDrive e 17, parseDrive e 22, parseDrive e 27⟩ }

/-- COIN entries 1..12 (R178). -/
def parseCoinEntry (e : List Byte) : CoinEntry :=
  { enabled := byteAt e 0 == 1, value := field 1 2 e, loA := field 3 2 e, hiA := field 5 2 e, loB := field 7 2 e
    hiB := field 9 2 e, fmin := field 11 2 e, fmax := field 13 2 e }

/-- COIN entries 13..16 (R178). -/
def parseTubeEntry (e : List Byte) : TubeEntry := ⟨byteAt e 0, byteAt e 1, byteAt e 2⟩

/-- FARE entry 0 (R178). -/
def parseFareHeader (e : List Byte) : FareHeader :=
  { ceiling := field 0 2 e, productCount := byteAt e 2, bandCount := byteAt e 3, maxBalance := field 4 2 e
    minTopup := field 6 2 e, topupStep := field 8 2 e, bonusThreshold := field 10 2 e, bonusPercent := byteAt e 12 }

/-- A product entry (R178). -/
def parseProduct (e : List Byte) : Product :=
  { code := byteAt e 0, name := slice 1 16 e
    medium := if byteAt e 17 = 0 then .printed else if byteAt e 17 = 1 then .card else .both
    base := field 18 2 e, zoneStep := field 20 2 e, maxZones := byteAt e 22, floor := field 23 2 e, cap := field 25 2 e
    step := field 27 2 e
    rounding := if byteAt e 29 = 0 then .nearest else if byteAt e 29 = 1 then .up else .down
    validityDays := field 30 2 e, lateStart := if byteAt e 32 = 1 then some (field 33 4 e) else none
    template := byteAt e 37, concessionAllowed := byteAt e 38 % 2 == 1, zeroAllowed := byteAt e 38 / 2 % 2 == 1 }

/-- A band entry (R178). -/
def parseBand (e : List Byte) : Band := ⟨e.getD 0 0, field 1 4 e, field 5 4 e, byteAt e 9⟩

/-- A TEMPLATE entry (R178). -/
def parseLine (e : List Byte) : TemplateLine := ⟨byteAt e 0, byteAt e 1, slice 3 (byteAt e 2) e⟩

/-- A COIN table's content. -/
def parseCoin (es : List (List Byte)) : CoinTable :=
  { header := parseCoinHeader (es.headD []), coins := (slice' 1 12 es).map parseCoinEntry
    tubes := (slice' 13 4 es).map parseTubeEntry }
where
  /-- Entries from one place on, a given number of them. -/
  slice' (start count : Nat) (es : List (List Byte)) : List (List Byte) := (es.drop start).take count

/-- A FARE table's content (R102). -/
def parseFare (es : List (List Byte)) : FareTable :=
  let header := parseFareHeader (es.headD [])
  { header := header, classes := ((es.drop 1).take 8).map fun e => byteAt e 0
    products := ((es.drop 9).take header.productCount).map parseProduct
    bands := ((es.drop (9 + header.productCount)).take header.bandCount).map parseBand }

/-! ## Validation (R24) -/

/-- A value that is 0 or within a range (R68). -/
def zeroOr (lo hi x : Nat) : Bool := x == 0 || (lo ≤ x && x ≤ hi)

/-- A coil's drive is in range (R68). -/
def driveOk (d : CoilDrive) : Bool := d.pullIn ≤ 10000 && d.hold ≤ 10000 && 1 ≤ d.timeMs && d.timeMs ≤ 100

/-- The COIN header's fields are in range (R68). -/
def coinHeaderOk (h : CoinHeader) : Bool :=
  h.filter ≤ 3 && zeroOr 20 1000 h.aLimit && zeroOr 10 1000 h.gapLimit && zeroOr 50 2000 h.acceptWait
    && zeroOr 50 2000 h.returnWait && 100 ≤ h.period && h.period ≤ 10000 && h.nonOverlap ≤ 15
    && h.drive.toList.all driveOk

/-- A coin entry's fields are in range (R67). -/
def coinEntryOk (e : List Byte) : Bool :=
  let c := parseCoinEntry e
  byteAt e 0 ≤ 1 && 1 ≤ c.value && c.loA ≤ 1023 && c.hiA ≤ 1023 && c.loB ≤ 1023 && c.hiB ≤ 1023
    && c.fmin ≤ 65534 && c.fmax ≤ 65534

/-- A tube entry's fields are in range, and no earlier tube names its coin kind (R69). DEDUCED, unsafe: of two tube entries naming the same
coin kind the later one is the failing one, since R69 names neither, as R106 and R159 name it for a repeated code or line
(assumption 17). -/
def tubeEntryOk (earlier : List TubeEntry) (t : TubeEntry) : Bool :=
  t.coinKind ≤ 12 && t.capacity ≤ 250 && (t.capacity == 0) == (t.coinKind == 0) && t.lowMark ≤ t.capacity
    && (t.coinKind == 0 || !(earlier.any fun u => u.coinKind == t.coinKind))

/-- The FARE header's fields are in range (R103). -/
def fareHeaderOk (h : FareHeader) : Bool :=
  100 ≤ h.ceiling && h.ceiling ≤ 65000 && h.productCount ≤ 48 && h.bandCount ≤ 6 && 1 ≤ h.minTopup
    && 1 ≤ h.topupStep && h.bonusPercent ≤ 20

/-- A printable character 0x20..0x7E (R105, R159). -/
def printable (b : Byte) : Bool := 0x20 ≤ b.toNat && b.toNat ≤ 0x7E

/-- A product entry passes its FIELD checks (R105, R106). -/
def productOk (earlier : List (List Byte)) (e : List Byte) : Bool :=
  let p := parseProduct e
  1 ≤ p.code && p.name.all printable && byteAt e 17 ≤ 2 && 1 ≤ p.maxZones && p.maxZones ≤ 9
    && [1, 5, 10, 20, 50, 100, 200, 500].contains p.step && byteAt e 29 ≤ 2 && p.validityDays ≤ 366
    && byteAt e 32 ≤ 1 && field 33 4 e ≤ 86399 && p.template ≤ 7 && byteAt e 38 < 4
    && !(earlier.any fun x => byteAt x 0 == p.code) && (p.medium == .printed || 1 ≤ p.validityDays)

/-- A band's fields are in range (R40). -/
def bandOk (b : Band) : Bool :=
  b.dayMask.toNat < 128 && b.start ≤ 86399 && 1 ≤ b.stop && b.stop ≤ 86400 && b.factor ≤ 250

/-- The printed width of a template text, or none where a byte or a field mark is not valid (R159). -/
def textWidth : List Byte → Option Nat
  | [] => some 0
  | 0x7C#8 :: code :: width :: rest =>
    if 1 ≤ code.toNat ∧ code.toNat ≤ 15 ∧ 1 ≤ width.toNat ∧ width.toNat ≤ 16 then
      (textWidth rest).map (width.toNat + ·)
    else none
  | b :: rest => if b ≠ 0x7C#8 ∧ printable b then (textWidth rest).map (1 + ·) else none

/-- A TEMPLATE entry passes its FIELD checks (R159). -/
def lineOk (earlier : List (List Byte)) (e : List Byte) : Bool :=
  let l := parseLine e
  l.template ≤ 7 && 1 ≤ l.line && l.line ≤ 12 && byteAt e 2 ≤ 40
    && ((textWidth l.text).map fun w => decide (w ≤ 40)).getD false
    && !(earlier.any fun x => byteAt x 0 == l.template && byteAt x 1 == l.line)

/-- The entry at a position passes the FIELD check of its kind (R24). -/
def fieldOk (kind : TableKind) (es : List (List Byte)) (pos : Nat) (e : List Byte) : Bool :=
  match layoutAt kind es.head? pos with
  | .coinHeader => coinHeaderOk (parseCoinHeader e)
  | .coinEntry => coinEntryOk e
  | .tubeEntry => tubeEntryOk (((es.take pos).drop 13).map parseTubeEntry) (parseTubeEntry e)
  | .fareHeader => fareHeaderOk (parseFareHeader e)
  | .fareClass => byteAt e 0 ≤ 100 && (pos != 1 || byteAt e 0 == 0)
  | .product => productOk ((es.take pos).drop 9) e
  | .band => bandOk (parseBand e)
  | .line => lineOk (es.take pos) e
  | .card | .row | .unknown => true

/-- The entry at a position passes the WINDOW check (R40, R67). -/
def windowOk (kind : TableKind) (es : List (List Byte)) (pos : Nat) (e : List Byte) : Bool :=
  match layoutAt kind es.head? pos with
  | .coinEntry =>
    let c := parseCoinEntry e
    c.loA ≤ c.hiA && c.loB ≤ c.hiB && c.fmin ≤ c.fmax
  | .band => (parseBand e).start < (parseBand e).stop
  | _ => true

/-- The entry at a position is above the one before it (R24, R128). -/
def orderOk (kind : TableKind) (es : List (List Byte)) (pos : Nat) (e : List Byte) : Bool :=
  kind != .hotlist || pos == 0 || field 0 4 (es.getD (pos - 1) []) < field 0 4 e

/-- The product at a position passes the FLOOR check (R106). -/
def floorOk (kind : TableKind) (es : List (List Byte)) (pos : Nat) (e : List Byte) : Bool :=
  match layoutAt kind es.head? pos with
  | .product =>
    let p := parseProduct e
    p.floor ≤ p.cap && (p.zeroAllowed || p.floor != 0)
  | _ => true

/-- The position of the first entry that fails a check. -/
def firstFailing (ok : List (List Byte) → Nat → List Byte → Bool) (es : List (List Byte)) : Option Nat :=
  (es.zipIdx.find? fun p => !ok es p.2 p.1).map Prod.snd

/-- The entry count agrees: with segment 0, with the kind's fixed count, and for FARE with its header (R24, R102). -/
def countOk (kind : TableKind) (count : Nat) (es : List (List Byte)) : Bool :=
  es.length == count && (fixedCount kind).all (es.length == ·)
    && (kind != .fare || es.length == 9 + byteAt (es.headD []) 2 + byteAt (es.headD []) 3)

/-- Validation of a complete copy: the first failure in the order of R24, with its entry position; none when it passes. -/
def validate (kind : TableKind) (check count : Nat) (es : List (List Byte)) : Option (BadReason × Nat) :=
  if byteSum es.flatten % 65536 ≠ check then some (.check, 0)
  else if !countOk kind count es then some (.count, 0)
  else
    ((firstFailing (fieldOk kind) es).map fun p => (BadReason.field, p)).orElse fun _ =>
    ((firstFailing (windowOk kind) es).map fun p => (BadReason.window, p)).orElse fun _ =>
    ((firstFailing (orderOk kind) es).map fun p => (BadReason.order, p)).orElse fun _ =>
    (firstFailing (floorOk kind) es).map fun p => (BadReason.floor, p)

/-! ## LOAD and DISCARD (R23, R25) -/

/-- A segment put at its index among held segments in ascending index, in place of one with the same index. -/
def putSegment (g : Segment) : List Segment → List Segment
  | [] => [g]
  | x :: xs =>
    if g.index < x.index then g :: x :: xs else if g.index = x.index then g :: xs else x :: putSegment g xs

/-- The entries held in segments. -/
def entriesHeld (gs : List Segment) : Nat := (gs.map fun g => g.entries.length).sum

/-- The segments a LOAD leaves held. -/
def Load.segmentsWith (l : Load) (generation : Nat) (g : Segment) : List Segment := putSegment g (l.heldFor generation)

/-- The first check of R23 that fails. -/
def loadRefusal (kind : TableKind) (generation index total count : Nat) (es : List (List Byte)) (s : State) :
    Option Reason :=
  let l := s.loads.get kind
  if l.st = .scheduled then some .state
  else if generation = 0 ∨ total = 0 ∨ total ≤ index ∨ (index = 0 ∧ entryLimit kind < count) then some .range
  else if s.retained.generation kind = some generation then some .table
  else if l.isSame generation ∧ l.total ≠ total then some .range
  else if entryLimit kind < entriesHeld (l.segmentsWith generation ⟨index, es⟩) then some .range
  else none

/-- The pending copy an accepted LOAD leaves: complete copies are validated at once (R23, R24). -/
def Load.added (kind : TableKind) (generation index total check count : Nat) (es : List (List Byte)) (l : Load) : Load :=
  let segments := l.segmentsWith generation ⟨index, es⟩
  let head := if index = 0 then some (check, count) else if l.isSame generation then l.head else none
  let l := { Load.empty with st := .filling, generation := generation, total := total, segments := segments, head := head }
  if segments.length = total then
    match validate kind ((head.map Prod.fst).getD 0) ((head.map Prod.snd).getD 0) l.entries with
    | none => { l with st := .ready }
    | some b => { l with st := .bad, bad := some b }
  else l

/-- Put a kind's pending copy. -/
def State.setLoad (kind : TableKind) (l : Load) (s : State) : State := { s with loads := s.loads.set l kind }

/-- A refused LOAD: its reply adds the load state fields (R177). -/
def State.refuseLoad (kind : TableKind) (r : Reason) (s : State) : State :=
  s.reply Kind.load (.refusedLoad r (s.loads.get kind).view)

/-- LOAD, past the FORMAT and part state checks (R23). -/
def State.serveLoad (kind : TableKind) (generation index total check count : Nat) (bytes : List Byte) (s : State) : State :=
  let es := entriesOf kind bytes
  match loadRefusal kind generation index total count es s with
  | some r => s.refuseLoad kind r
  | none =>
    let l := (s.loads.get kind).added kind generation index total check count es
    (s.setLoad kind l).reply Kind.load (.load l.view)

/-- DISCARD (R25): a SCHEDULED copy's reservation is released. -/
def State.serveDiscard (kind : TableKind) (s : State) : State :=
  let before := (s.loads.get kind).st
  let s := if before = .scheduled then s.release else s
  (s.setLoad kind .empty).reply Kind.discard (.discard before)

/-! ## Activation (R26 to R28, R43) -/

/-- Make a pending copy the active copy, written to retained memory (R28). -/
def Retained.install (kind : TableKind) (l : Load) (r : Retained) : Retained :=
  let es := l.entries
  match kind with
  | .coin => { r with coin := some ⟨l.generation, parseCoin es⟩ }
  | .fare => { r with fare := some ⟨l.generation, parseFare es⟩ }
  | .hotlist => { r with hotlist := some ⟨l.generation, es.map (field 0 4)⟩ }
  | .passage => { r with passage := some ⟨l.generation, ⟨es.map fun e => BitVec.ofNat 64 (leNat e)⟩⟩ }
  | .template => { r with template := some ⟨l.generation, es.map parseLine⟩ }

/-- What an activation changes outside the table store: the tubes' low flags, the entry and the coils for COIN, the
entry for FARE (R28, R64, R82, R147). A CHUTE report issued shows the coils after the event (R56). -/
def State.afterActivation (kind : TableKind) (before : State) (s : State) : State :=
  match kind with
  | .coin =>
    let t := (s.tubesChanged before).entryTest
    let t := match t.coinTable with
      | none => t
      | some c => t.onCoils (·.newProfile c.header)
    if t.causes = s.causes then t else t.issueChute
  | .fare => s.entryTest
  | .hotlist | .passage | .template => s

/-- An activation takes place; waited tells whether it had waited under R27 (R28). -/
def State.takeActivation (kind : TableKind) (waited : Bool) (s : State) : State :=
  let l := s.loads.get kind
  let report : TableReport :=
    ⟨kind, l.generation, s.retained.generation kind, s.clock.day, s.clock.second, s.clock.valid, waited⟩
  State.afterActivation kind s
    (((s.onRetained (Retained.install kind l)).setLoad kind .empty).issueReserved (.table report))

/-- The owning block allows an activation (R27). -/
def State.allows (s : State) : TableKind → Bool
  | .coin => s.chute.state == .idle
  | .template => s.printer.job.isNone
  | .fare | .hotlist | .passage => true

/-- A schedule falls due: the activation takes place at once, or waits for its block (R27). -/
def State.fallDue (kind : TableKind) (s : State) : State :=
  let s := s.setLoad kind { s.loads.get kind with fallen := true }
  if s.allows kind then s.takeActivation kind false else s

/-- An activation waiting for its block takes place when the block allows it (R27). -/
def State.takeWaiting (kind : TableKind) (s : State) : State :=
  let l := s.loads.get kind
  if l.st = .scheduled ∧ l.fallen ∧ s.allows kind then s.takeActivation kind true else s

/-- A kind's AT schedule that has not fallen due and whose point the clock has reached (R43). -/
def State.fallsDue (s : State) (kind : TableKind) : Bool :=
  let l := s.loads.get kind
  l.st == .scheduled && !l.fallen &&
    match l.due with
    | .now => false
    | .at d sec => s.clock.reached d sec

/-- The kinds in kind order (R43). -/
def allKinds : List TableKind := [.coin, .fare, .hotlist, .passage, .template]

/-- The test of every AT schedule, in kind order; with it the number that fell due (R43). -/
def State.testSchedules (s : State) : Nat × State :=
  allKinds.foldl (fun p k => if p.2.fallsDue k then (p.1 + 1, p.2.fallDue k) else p) (0, s)

/-- The due point an ACTIVATE names. -/
def duePoint : Due → DuePoint
  | .now => .now
  | .at d sec => .at d.toNat sec.toNat

/-- The first check of R26 that fails. -/
def activateRefusal (kind : TableKind) (generation : Nat) (due : Due) (s : State) : Option Reason :=
  let l := s.loads.get kind
  let late := match due with
    | .now => false
    | .at _ sec => 86399 < sec.toNat
  if late then some .range
  else if l.st ≠ .ready ∨ l.generation ≠ generation then some .table
  else if s.freeSlots < 1 then some .busy
  else none

/-- The outcome an ACTIVATE reply names, from the pending copy it leaves (R26). -/
def Load.outcome (l : Load) : ActivateOutcome :=
  if l.st ≠ .scheduled then .done else if l.fallen then .deferred else .scheduled

/-- ACTIVATE (R26): the slot is reserved and the copy scheduled; NOW, or an AT point already reached, falls due at once. -/
def State.serveActivate (kind : TableKind) (generation : Word16) (due : Due) (s : State) : State :=
  match activateRefusal kind generation.toNat due s with
  | some r => s.refuse Kind.activate r
  | none =>
    let l := { s.loads.get kind with st := .scheduled, due := duePoint due, fallen := false }
    let s := (s.reserve 1).setLoad kind l
    let s := if due = .now ∨ s.fallsDue kind then s.fallDue kind else s
    s.reply Kind.activate (.activate (s.loads.get kind).st (s.loads.get kind).outcome)

end Sys2Proof.Machine
end

