-- ==== Sys2Proof/Machine/Chute.lean ====
section
/-! DEFINITION. The chute unit: capture, the chute states and their limits, classification, the accept or return decision,
crediting at sensor C, faults that clear, and CHUTE CLEAR (R44 to R63). -/

namespace Sys2Proof.Machine

/-! ## Limits (R68) -/

/-- A chute limit of the active COIN table, 0 selecting its default, as while no table is active (R68). -/
def State.limit (s : State) (f : CoinHeader → Nat) (default : Nat) : Nat :=
  match s.coinTable with
  | none => default
  | some t => if f t.header = 0 then default else f t.header

/-- The A limit. -/
def State.aLimit (s : State) : Nat := s.limit CoinHeader.aLimit 200

/-- The gap limit. -/
def State.gapLimit (s : State) : Nat := s.limit CoinHeader.gapLimit 150

/-- The accept wait. -/
def State.acceptWait (s : State) : Nat := s.limit CoinHeader.acceptWait 400

/-- The return wait. -/
def State.returnWait (s : State) : Nat := s.limit CoinHeader.returnWait 400

/-- The sensor filter time in µs; 256 while no COIN table is active (R44). -/
def State.filterTime (s : State) : Nat :=
  match s.coinTable with
  | none => 256
  | some t => match t.header.filter with
    | 0 => 0 | 1 => 64 | 2 => 128 | _ => 256

/-! ## Capture (R45) -/

/-- The capture counts after more ticks: in ON_A wA and fAB run, in GAP fAB, in ON_B wB; each saturates (R45). -/
def Chute.advance (ticks : Nat) (c : Chute) : Chute :=
  match c.state with
  | .onA => { c with wA := satAdd c.wA ticks, fAB := satAdd c.fAB ticks }
  | .gap => { c with fAB := satAdd c.fAB ticks }
  | .onB => { c with wB := satAdd c.wB ticks }
  | .idle | .accepting | .returning | .fault => c

/-! ## Classification (R57, R58) -/

/-- A ratio: the width times 256 divided by the flight, rounded down and capped at 1023; a flight of 0 is taken as 1. -/
def ratio (w f : Nat) : Nat := min (w * 256 / (if f = 0 then 1 else f)) 1023

/-- A measurement is saturated (R57). -/
def saturated (wA fAB wB : Nat) : Bool :=
  Config.saturation ≤ wA || Config.saturation ≤ fAB || Config.saturation ≤ wB

/-- The ratio as recorded: 1023 for a saturated measurement (R57). -/
def recordedRatio (wA fAB wB w : Nat) : Nat := if saturated wA fAB wB then 1023 else ratio w fAB

/-- A coin entry matches (R58). -/
def CoinEntry.fits (e : CoinEntry) (rA rB fAB : Nat) : Bool :=
  e.enabled && e.loA ≤ rA && rA ≤ e.hiA && e.loB ≤ rB && rB ≤ e.hiB && e.fmin ≤ fAB && fAB ≤ e.fmax

/-- The kinds of the entries that match, lowest first (R58). -/
def matchingKinds (t : CoinTable) (rA rB fAB : Nat) : List Nat :=
  (t.coins.zipIdx.filter fun p => p.1.fits rA rB fAB).map fun p => p.2 + 1

/-- The classification of three measurements (R57, R58); NONE while no COIN table is active. -/
def classify (t : Option CoinTable) (wA fAB wB : Nat) : CoinResult :=
  match t with
  | none => .none
  | some t =>
    if saturated wA fAB wB then .none
    else match matchingKinds t (ratio wA fAB) (ratio wB fAB) fAB with
      | [] => .none
      | [k] => .kind k
      | _ => .ambiguous

/-! ## The decision (R59, R60) -/

/-- The tube whose entry names a coin kind (R60, R69). -/
def State.tubeNaming (s : State) (k : Nat) : Option (Fin 4) :=
  (List.finRange 4).find? fun i => ((s.tubeEntry i).map TubeEntry.coinKind) == some k

/-- The route of an accepted coin of kind k: its tube while below capacity and not faulted, else the cash box (R60). -/
def State.routeOf (s : State) (k : Nat) : Route :=
  match s.tubeNaming k with
  | none => .cashBox
  | some i => if s.tubeCount i < s.tubeCapacity i ∧ !(s.tubes.get i).faulted then .tube i else .cashBox

/-- The value of coin kind k in the active COIN table. -/
def State.coinValue (s : State) (k : Nat) : Nat :=
  ((s.coinTable.bind fun t => t.coin? k).map CoinEntry.value).getD 0

/-- Credit, committed and payout pending together. -/
def Ledger.customer (l : Ledger) : Nat := l.c.toNat + l.k.toNat + l.pp.toNat

/-- The coin accepted, where every condition of R59 holds. -/
def State.acceptance (s : State) (r : CoinResult) : Option AcceptedCoin :=
  match r, s.fareTable with
  | .kind k, some f =>
    if s.retained.ledger.customer + s.coinValue k ≤ f.header.ceiling ∧ !s.doorOpen then
      some ⟨k, s.coinValue k, s.routeOf k, f.header.ceiling⟩
    else none
  | _, _ => none

/-- One more in the count of a coin kind, saturating (R61, R62, R97). -/
def countKind (k : Nat) (v : Vector Nat 12) : Vector Nat 12 :=
  if h : 1 ≤ k ∧ k ≤ 12 then v.set (k - 1) (satAdd v[k - 1] 1) else v

/-- The diverter side of a route (R61). -/
def Route.command : Route → DiverterCommand
  | .tube _ => .tubes
  | .cashBox => .cashBox

/-- A return decision: the return is counted, the CREDIT and CHUTE reports are issued (R61). -/
def State.returnCoin (m : Measurement) (s : State) : State :=
  let s := s.onChute fun c =>
    { c with state := .returning, timer := some s.returnWait, coin := some ⟨m.result, none⟩, last := some m }
  let s := match m.result with
    | .kind k => s.onRetained fun r => { r with returned := countKind k r.returned }
    | .none | .ambiguous => s
  (s.issueCredit 0 1).entryTest.issueChute

/-- An accept decision: the diverter goes to the route's side and AG is energised (R61). -/
def State.acceptCoin (a : AcceptedCoin) (m : Measurement) (s : State) : State :=
  let s := s.onChute fun c =>
    { c with state := .accepting, timer := some s.acceptWait, coin := some ⟨m.result, some a⟩, last := some m }
  let s := s.onCoils fun d => (d.divert a.route.command).drive .ag true
  s.entryTest.issueChute

/-- The classification and decision at the fall of B (R49, R57 to R61). -/
def State.decideCoin (s : State) : State :=
  let c := s.chute
  let r := classify s.coinTable c.wA c.fAB c.wB
  let m (d : Decision) : Measurement :=
    ⟨c.wA, c.fAB, c.wB, recordedRatio c.wA c.fAB c.wB c.wA, recordedRatio c.wA c.fAB c.wB c.wB, r, d⟩
  match s.acceptance r with
  | some a => s.acceptCoin a (m .accept)
  | none => s.returnCoin (m .giveBack)

/-! ## Reaching IDLE (R50, R51, R54, R55) -/

/-- The chute becomes IDLE: a waiting COIN activation takes place, and the entry is tested (R27, R51, R64). -/
def State.chuteToIdle (s : State) : State :=
  ((s.onChute fun c => { c with state := .idle, fault := none, coin := none, timer := none }).takeWaiting .coin).entryTest

/-- Crediting of an accepted coin (R62). -/
def State.creditCoin (a : AcceptedCoin) (s : State) : State :=
  let before := s
  let s := s.onLedger (Move.credit (BitVec.ofNat 32 a.value))
  let s := s.onRetained fun r => { r with accepted := countKind a.kind r.accepted }
  let s := match a.route with
    | .tube i => (s.setTubeCount i (s.tubeCount i + 1)).tubesChanged before
    | .cashBox => s
  let s := { s with purchase := if s.purchase = PurchaseState.idle then .opened else s.purchase }
  s.issueCredit 1 0

/-- The rise of C in ACCEPTING ends the coin's flight (R50). -/
def State.coinAtC (s : State) : State :=
  let s := match s.chute.coin with
    | some ⟨_, some a⟩ => s.creditCoin a
    | some ⟨_, none⟩ => s
    | none => s
  (s.onCoils fun d => (d.drive .ag false).divert .cashBox).chuteToIdle

/-- A rise of A in IDLE begins a coin (R47). -/
def State.coinBegins (s : State) : State :=
  (s.onChute fun c => { c with state := .onA, timer := some s.aLimit, wA := 0, fAB := 0, wB := 0 }).entryTest

/-! ## Edges (R52) -/

/-- What a rise does in a state other than FAULT (the table of R52). -/
def State.riseIn (s : State) : ChuteState → Sensor → State
  | .idle, .a => s.coinBegins
  | .idle, .b => s.enterFault .order
  | .idle, .c => s.enterFault .strayC
  | .idle, .d => s
  | .onA, .a => s
  | .onA, .b => s.enterFault .order
  | .onA, .c => s.enterFault .strayC
  | .onA, .d => s.enterFault .order
  | .gap, .a => s.enterFault .crowd
  | .gap, .b => s.onChute fun c => { c with state := .onB, timer := some s.aLimit, wB := 0 }
  | .gap, .c => s.enterFault .strayC
  | .gap, .d => s.enterFault .order
  | .onB, .a => s.enterFault .crowd
  | .onB, .b => s
  | .onB, .c => s.enterFault .strayC
  | .onB, .d => s.enterFault .order
  | .accepting, .a => s.enterFault .crowd
  | .accepting, .b => s.enterFault .order
  | .accepting, .c => s.coinAtC
  | .accepting, .d => s.enterFault .order
  | .returning, .a => s.enterFault .crowd
  | .returning, .b => s.enterFault .order
  | .returning, .c => s.enterFault .strayC
  | .returning, .d => s.chuteToIdle
  | .fault, _ => s.onChute fun c => { c with timer := none }

/-- SENSOR_RISE: a filtered rise is taken; a sensor already active cannot rise (R44, R52). -/
def State.sensorRise (x : Sensor) (ticks : Nat) (s : State) : State :=
  if s.chute.active.get x then s
  else
    (s.onChute fun c => { c.advance ticks with active := c.active.set true x }).riseIn s.chute.state x

/-- In FAULT, the fall that leaves all four sensors idle starts the idle wait of a self-clearing kind (R54). -/
def Chute.startWait (c : Chute) : Chute :=
  match c.fault with
  | some k => if k.selfClears && allIdle c.active then { c with timer := some Config.idleWaitMs } else c
  | none => c

/-- What a fall does (R47, R49, R52, R54). -/
def State.fallIn (s : State) : ChuteState → Sensor → State
  | .onA, .a => s.onChute fun c => { c with state := .gap, timer := some s.gapLimit }
  | .onB, .b => s.decideCoin
  | .fault, _ => s.onChute Chute.startWait
  | .onA, .b | .onA, .c | .onA, .d | .onB, .a | .onB, .c | .onB, .d | .idle, _ | .gap, _ | .accepting, _
  | .returning, _ => s

/-- SENSOR_FALL: a filtered fall is taken; a sensor already idle cannot fall (R44, R52). -/
def State.sensorFall (x : Sensor) (ticks : Nat) (s : State) : State :=
  if s.chute.active.get x then
    (s.onChute fun c => { c.advance ticks with active := c.active.set false x }).fallIn s.chute.state x
  else s

/-! ## Limits passing -/

/-- A_LIMIT_EXPIRY (R47, R49). -/
def State.aLimitPasses (s : State) : State :=
  match s.chute.state with
  | .onA => s.enterFault .jamA
  | .onB => s.enterFault .jamB
  | .idle | .gap | .accepting | .returning | .fault => s

/-- GAP_LIMIT_EXPIRY: the coin is returned with result NONE (R48). DEDUCED, safe: a coin is in flight from this return decision on, with
result NONE and decision RETURN, since R48 has the decision taken as R61 describes; R46 names only the fall of B as what makes it
present (assumption 49). -/
def State.gapLimitPasses (s : State) : State :=
  match s.chute.state with
  | .gap => s.returnCoin ⟨s.chute.wA, 65535, 65535, 1023, 1023, .none, .giveBack⟩
  | .idle | .onA | .onB | .accepting | .returning | .fault => s

/-- ACCEPT_WAIT_EXPIRY (R50). -/
def State.acceptWaitPasses (s : State) : State :=
  match s.chute.state with
  | .accepting => s.enterFault .acceptLost
  | .idle | .onA | .gap | .onB | .returning | .fault => s

/-- RETURN_WAIT_EXPIRY (R51). -/
def State.returnWaitPasses (s : State) : State :=
  match s.chute.state with
  | .returning => s.enterFault .returnLost
  | .idle | .onA | .gap | .onB | .accepting | .fault => s

/-- A fault clears: the chute is IDLE, and the CHUTE report is issued (R54, R55, R56). -/
def State.faultClears (s : State) : State := s.chuteToIdle.issueChute

/-- IDLE_WAIT_EXPIRY: the idle wait of a self-clearing fault reaches 2 s (R54). -/
def State.idleWaitPasses (s : State) : State :=
  if s.chute.state = .fault ∧ s.chute.timer.isSome then s.faultClears else s

/-- CHUTE CLEAR (R55, R81). -/
def State.serveChuteClear (s : State) : State :=
  match s.chute.state, s.chute.fault with
  | .fault, some k =>
    if allIdle s.chute.active then
      ((s.onCoils fun d => d.clearFault.divert .cashBox).faultClears).reply Kind.chuteClear (.chuteClear k)
    else s.refuse Kind.chuteClear .state
  | _, _ => s.refuse Kind.chuteClear .state

end Sys2Proof.Machine
end

