-- ==== Sys2Proof/Machine/Purchase.lean ====
section
/-! DEFINITION. The purchase unit and the payout unit: acceptance and the ends of an operation (R91 to R93), the change
planner (R148), the payout (R149 to R154), the door and the lever (R65, R66), CANCEL, TUBE and CLEAR TOTALS. -/

namespace Sys2Proof.Machine

/-! ## The change planner (R148) -/

/-- A candidate of the plan computation. -/
structure Candidate where
  tube : Fin 4
  value : Nat
  count : Nat
  deriving DecidableEq, Repr

/-- A tube as a candidate: in use, not faulted, with a count above 0 (R148). -/
def State.candidate (s : State) (i : Fin 4) : Option Candidate :=
  match s.tubeValue i with
  | none => none
  | some v => if !(s.tubes.get i).faulted ∧ 0 < s.tubeCount i then some ⟨i, v, s.tubeCount i⟩ else none

/-- Put a candidate among others, highest value first; one of equal value goes before those that follow it. -/
def insertCandidate (c : Candidate) : List Candidate → List Candidate
  | [] => [c]
  | x :: xs => if x.value ≤ c.value then c :: x :: xs else x :: insertCandidate c xs

/-- The candidates by value, highest first, and tubes of equal value by tube number, lowest first (R148). -/
def State.candidates (s : State) : List Candidate := ((List.finRange 4).filterMap s.candidate).foldr insertCandidate []

/-- One pass of the computation: entries taking 0 coins are left out (R148). -/
def walk : Nat → List Candidate → List PlanEntry × Nat
  | amount, [] => ([], amount)
  | amount, c :: cs =>
    let n := min c.count (amount / c.value)
    let p := walk (amount - n * c.value) cs
    (if n = 0 then p.1 else ⟨c.tube, c.value, n, 0⟩ :: p.1, p.2)

/-- The plan and its shortfall: the first pass that ends at 0, or else the result of pass 1 (R148). -/
def planOver (amount : Nat) (cs : List Candidate) : List PlanEntry × Nat :=
  match (List.range cs.length).find? fun i => (walk amount (cs.drop i)).2 == 0 with
  | some i => walk amount (cs.drop i)
  | none => walk amount cs

/-- The plan of an amount over the tubes as they stand. -/
def State.plan (s : State) (amount : Nat) : List PlanEntry × Nat := planOver amount s.candidates

/-! ## The payout (R149 to R154) -/

/-- The payout ends: the shortfall returns to credit, PAYOUT DONE takes the reservation, the purchase comes to rest
(R94, R154). -/
def State.endPayout (s : State) : State :=
  match s.payout with
  | none => s
  | some p =>
    let short := s.retained.ledger.pp
    let report : PayoutReport := ⟨p.cause, p.amount, p.amount - short, short, p.paid, p.faulted⟩
    let s := (s.onLedger Move.endPayout).issueReserved (.payoutDone report)
    (({ s with payout := none }).rest.issueCredit 0 0).entryTest

/-- The current entry starts when the door is closed: the motor on, the dispenser RUNNING (R151). -/
def State.startEntry (s : State) : State :=
  match s.payout with
  | none => s
  | some p =>
    match p.current with
    | none => s
    | some e =>
      if s.doorOpen ∨ p.started then s
      else
        ({ s with payout := some { p with started := true } }).onTube e.tube fun t =>
          { t with dispenser := .running, lastValue := e.value }

/-- The entries of a plan become the payout's: the first is current and starts; an empty plan ends the payout (R150). -/
def State.runPlan (entries : List PlanEntry) (s : State) : State :=
  match s.payout with
  | none => s
  | some p =>
    match entries with
    | [] => ({ s with payout := some { p with current := none, started := false, rest := [] } }).endPayout
    | e :: es => ({ s with payout := some { p with current := some e, started := false, rest := es } }).startEntry

/-- The payout record at its start (R149). -/
def Payout.fresh (cause : PayoutCause) (amount : Money) : Payout :=
  { cause := cause, amount := amount, done := [], current := none, started := false, rest := [], replanned := false
    paid := Vector.replicate 4 0, faulted := Vector.replicate 4 false }

/-- A payout of the whole credit starts: C to Pp, PAYOUT, CREDIT, the plan, the first entry (R94, R150). -/
def State.startPayout (cause : PayoutCause) (s : State) : State :=
  let amount := s.retained.ledger.c
  let s := s.onLedger Move.startPayout
  let s := ({ s with purchase := .payout, payout := some (Payout.fresh cause amount) }).issueCredit 0 0
  (s.runPlan (s.plan amount.toNat).1).entryTest

/-- The current entry's coins are all counted: the motor stops, its window starts, and the next entry starts, or the
payout ends (R151). -/
def State.entryDone (s : State) : State :=
  match s.payout with
  | none => s
  | some p =>
    match p.current with
    | none => s
    | some e =>
      let s := s.onTube e.tube fun t => { t with dispenser := .trailing }
      ({ s with payout := some { p with done := p.done ++ [e], current := none } }).runPlan p.rest

/-- One more coin counted of the current entry (R151, R152). -/
def Payout.count (i : Fin 4) (p : Payout) : Payout :=
  { p with current := p.current.map fun (e : PlanEntry) => { e with counted := e.counted + 1 }
           paid := p.paid.set i (p.paid.get i + 1) }

/-- The current entry has as many coins counted as it takes. -/
def Payout.entryFull (p : Payout) : Bool :=
  match p.current with
  | none => false
  | some e => e.coins ≤ e.counted

/-- A paid coin at a RUNNING tube (R152). -/
def State.paidCoin (i : Fin 4) (s : State) : State :=
  let before := s
  let v := BitVec.ofNat 32 (s.tubes.get i).lastValue
  let s := (s.onLedger (Move.paidCoin v)).setTubeCount i (s.tubeCount i - 1)
  let s := ({ s with payout := s.payout.map (Payout.count i) }).tubesChanged before
  if (s.payout.map Payout.entryFull).getD false then s.entryDone else s

/-- An extra coin at a TRAILING tube (R152). -/
def State.extraCoin (i : Fin 4) (s : State) : State :=
  let v := BitVec.ofNat 32 (s.tubes.get i).lastValue
  ((s.onLedger (Move.extraCoin v)).setTubeCount i (s.tubeCount i - 1)).tubesChanged s

/-- EXIT_PULSE (R152). -/
def State.exitPulse (i : Fin 4) (s : State) : State :=
  match (s.tubes.get i).dispenser with
  | .running => s.paidCoin i
  | .trailing => s.extraCoin i
  | .off => s

/-- A tube jams: its motor stops, its window starts, it is faulted, and TUBES is issued (R153). -/
def State.jam (i : Fin 4) (s : State) : State :=
  let t := s.onTube i fun t => { t with faulted := true, dispenser := .trailing }
  ({ t with payout := t.payout.map fun (p : Payout) => { p with faulted := p.faulted.set i true } }).tubesChanged s

/-- After a jam: the one re-plan of the unpaid amount, or the payout's end (R153). -/
def State.afterJam (s : State) : State :=
  match s.payout with
  | none => s
  | some p =>
    if p.replanned then s.endPayout
    else
      ({ s with payout := some { p with replanned := true, current := none } }).runPlan
        (s.plan s.retained.ledger.pp.toNat).1

/-- JAM_TIMEOUT of a RUNNING dispenser (R153). -/
def State.jamTimeout (i : Fin 4) (s : State) : State :=
  if (s.tubes.get i).dispenser = .running then (s.jam i).afterJam else s

/-- TRAILING_WINDOW_END (R152). -/
def State.trailingEnds (i : Fin 4) (s : State) : State :=
  if (s.tubes.get i).dispenser = .trailing then s.onTube i fun t => { t with dispenser := .off } else s

/-! ## Door and lever (R65, R66) -/

/-- DOOR_CHANGE: a level that is no change is not taken (R65, R151). -/
def State.doorChange (isOpen : Bool) (s : State) : State :=
  if s.doorOpen = isOpen then s else (({ s with doorOpen := isOpen }).entryTest).startEntry

/-- A press is taken as a refund (R66). -/
def State.leverTaken (s : State) : Bool :=
  s.part == .ready && s.purchase == .opened && s.retained.ledger.c != 0 && s.chute.state == .idle && 0 < s.freeSlots

/-- LEVER_PRESS (R66, R156). -/
def State.leverPress (s : State) : State := if s.leverTaken then (s.reserve 1).startPayout .lever else s

/-! ## Operations (R91 to R93) -/

/-- What acceptance of an operation does (R91). -/
def State.acceptOp (o : OpRecord) (slots : Nat) (s : State) : State :=
  let s := (s.onRetained fun r => { r with txn := o.txn, op := some o }).onLedger (Move.commit o.amount)
  (({ s with purchase := .busy }).reserve slots).issueCredit 0 0

/-- The end of an operation: its money moves, its outcome report takes the first reservation, its record is cleared
(R92). -/
def State.endOp (move : Ledger → Ledger) (report : Report) (s : State) : State :=
  ((s.onLedger move).issueReserved report).onRetained fun r => { r with op := none }

/-- The purchase comes to rest after an end with no change due, and CREDIT is issued (R86, R93, R99). -/
def State.comeToRest (s : State) : State := (s.rest.issueCredit 0 0).entryTest

/-- After the end of a sale: change is due when it is not void, keep-credit is clear and C is above 0 (R93). -/
def State.afterSale (o : OpRecord) (void : Bool) (s : State) : State :=
  if !void ∧ !((o.sale.map SaleInfo.keepCredit).getD false) ∧ s.retained.ledger.c ≠ 0 then s.startPayout (.change o.txn)
  else s.release.comeToRest

/-- What SALE DONE and SALE VOID carry, from the operation record (R122). -/
def OpRecord.saleReport (o : OpRecord) : SaleReport :=
  ⟨o.txn, o.kind, o.sale.getD ⟨none, 0, 0, 0, none, false⟩, o.amount, o.fareGeneration.getD 0, o.stamp⟩

/-- What VOUCHER DONE and VOUCHER VOID carry (R158). -/
def OpRecord.voucherReport (o : OpRecord) : VoucherReport := ⟨o.txn, o.amount, o.stamp⟩

/-- A TICKET job's end settles or voids its sale (R119). -/
def State.ticketEnds (failure : Option VoidCause) (s : State) : State :=
  match s.retained.op with
  | none => s
  | some o =>
    match failure with
    | none => (s.endOp Move.settleSale (.saleDone o.saleReport)).afterSale o false
    | some c => (s.endOp Move.void (.saleVoid o.saleReport c)).afterSale o true

/-- A VOUCHER job's end settles or voids the voucher (R158). -/
def State.voucherEnds (failure : Option VoidCause) (s : State) : State :=
  match s.retained.op with
  | none => s
  | some o =>
    match failure with
    | none => (s.endOp Move.settleVoucher (.voucherDone o.voucherReport)).comeToRest
    | some c => (s.endOp Move.void (.voucherVoid o.voucherReport c)).comeToRest

/-! ## Requests on money and tubes -/

/-- CANCEL (R156). -/
def State.serveCancel (s : State) : State :=
  if s.part = .service then s.refuse Kind.cancel .service
  else if s.purchase ≠ .opened ∨ s.retained.ledger.c = 0 then s.refuse Kind.cancel .state
  else if s.freeSlots < 1 then s.refuse Kind.cancel .busy
  else
    let amount := s.retained.ledger.c
    let p := s.plan amount.toNat
    ((s.reserve 1).startPayout .cancel).reply Kind.cancel (.cancel amount (amount.toNat - p.2) p.2)

/-- A coin is in flight in the chute, as TUBE and SERVICE ask it (R20, R146). -/
def ChuteState.coinInFlight : ChuteState → Bool
  | .onA | .gap | .onB | .accepting | .returning => true
  | .idle | .fault => false

/-- TUBE (R146). -/
def State.serveTube (tube count : Nat) (s : State) : State :=
  if s.part ≠ .service then s.refuse Kind.tube .service
  else if h : 1 ≤ tube ∧ tube ≤ 4 then
    let i : Fin 4 := ⟨tube - 1, by omega⟩
    if s.retained.coin.isNone then s.refuse Kind.tube .table
    else if s.tubeCapacity i < count then s.refuse Kind.tube .range
    else if s.chute.state.coinInFlight then s.refuse Kind.tube .state
    else
      (((s.setTubeCount i count).onTube i fun t => { t with faulted := false }).tubesChanged s).reply Kind.tube
        (.tube (s.tubeCount i) (s.tubes.get i).faulted)
  else s.refuse Kind.tube .range

/-- C, K, Pp and H are all 0 (R100, R174). -/
def Ledger.noMoney (l : Ledger) : Bool := l.c == 0 && l.k == 0 && l.pp == 0 && l.h == 0

/-- CLEAR TOTALS (R100). -/
def State.serveClearTotals (s : State) : State :=
  if s.part ≠ .service then s.refuse Kind.clearTotals .service
  else if !s.retained.ledger.noMoney then s.refuse Kind.clearTotals .state
  else
    ((s.onLedger Move.clearCounters).onRetained fun r =>
      { r with accepted := Vector.replicate 12 0, returned := Vector.replicate 12 0 }).reply Kind.clearTotals
        (.clearTotals s.retained.ledger.totals)

end Sys2Proof.Machine
end

