-- ==== Sys2Proof/Machine/Print.lean ====
section
/-! DEFINITION. The print unit: field formats and composing (R160, R165), jobs and the frame owed (R164 to R168), printer
notices (R162, R163), receipts (R142, R169), VOUCHER (R157) and REPRINT (R170). -/

namespace Sys2Proof.Machine

/-! ## Field formats (R160) -/

/-- A decimal digit as a character. -/
def digitByte (d : Nat) : Byte := BitVec.ofNat 8 (0x30 + d)

/-- Decimal digits with no leading zeros; fuel bounds their number. -/
def decimal : Nat → Nat → List Byte
  | 0, _ => []
  | n + 1, v => if v < 10 then [digitByte v] else decimal n (v / 10) ++ [digitByte (v % 10)]

/-- The lowest n decimal digits, with leading zeros. -/
def digits : Nat → Nat → List Byte
  | 0, _ => []
  | n + 1, v => digits n (v / 10) ++ [digitByte (v % 10)]

/-- NUMBER: decimal digits with no leading zeros; a number has fewer digits than itself and one. -/
def numberText (v : Nat) : List Byte := decimal (v + 1) v

/-- MONEY: whole units, a full stop, two digits. -/
def moneyText (v : Nat) : List Byte := numberText (v / 100) ++ 0x2E :: digits 2 (v % 100)

/-- DATE: the day number as six digits. -/
def dateText (day : Nat) : List Byte := digits 6 day

/-- TIME: hh:mm. -/
def timeText (second : Nat) : List Byte := digits 2 (second / 3600) ++ 0x3A :: digits 2 (second % 3600 / 60)

/-- TEXT: the trailing spaces removed. -/
def trimmed (name : List Byte) : List Byte := (name.reverse.dropWhile (· == 0x20)).reverse

/-- A right-aligned text, or asterisks where it is wider than the field. -/
def rightAligned (width : Nat) (text : List Byte) : List Byte :=
  if width < text.length then List.replicate width 0x2A else List.replicate (width - text.length) 0x20 ++ text

/-- A left-aligned text, or asterisks where it is wider than the field. -/
def leftAligned (width : Nat) (text : List Byte) : List Byte :=
  if width < text.length then List.replicate width 0x2A else text ++ List.replicate (width - text.length) 0x20

/-- A value formatted and right-aligned, or spaces where the job has none. -/
def rightField {α : Type} (format : α → List Byte) (width : Nat) : Option α → List Byte
  | none => List.replicate width 0x20
  | some v => rightAligned width (format v)

/-- The text of a field mark (R160). DESIGN CHOICE, unsafe: a TIME and FOUR DIGITS in a wider field are right-aligned with leading spaces,
as numbers and dates are, since R160 states no alignment for the two (assumption 44). -/
def fieldText (v : FieldValues) (code width : Nat) : List Byte :=
  match code with
  | 1 => rightField moneyText width v.price
  | 2 => rightField moneyText width v.change
  | 3 => match v.productName with
    | none => List.replicate width 0x20
    | some n => leftAligned width (trimmed n)
  | 4 => rightField numberText width v.zones
  | 5 => rightField dateText width v.validFrom
  | 6 => rightField dateText width v.validTo
  | 7 => rightField dateText width v.day
  | 8 => rightField timeText width v.second
  | 9 => rightField numberText width v.txn
  | 10 => rightField numberText width v.machineId
  | 11 => rightField (digits 4) width v.last4
  | 12 => rightField moneyText width v.newBalance
  | 13 => rightField moneyText width v.bonus
  | 14 => rightField moneyText width v.voucher
  | 15 => rightField numberText width v.concession
  | _ => []

/-- A template line with every field mark replaced (R160). -/
def composeText (v : FieldValues) : List Byte → List Byte
  | [] => []
  | 0x7C#8 :: code :: width :: rest => fieldText v code.toNat width.toNat ++ composeText v rest
  | b :: rest => b :: composeText v rest

/-- A job with no values. -/
def FieldValues.none : FieldValues :=
  ⟨.none, .none, .none, .none, .none, .none, .none, .none, .none, .none, .none, .none, .none, .none, .none⟩

/-! ## The frame owed (R164 to R167) -/

/-- An exchange of a print frame is in progress. -/
def State.printInFlight (s : State) : Bool :=
  match s.exchange.map Exchange.owner with
  | some (.printLine _) | some (.printCut _) | some (.printAsk _) => true
  | some .cardWrite | some .hold | some .release | some .forward | some .poll | none => false

/-- A job in SENDING has composed lines left to send. -/
def Job.linesLeft (j : Job) : Bool := decide (j.next < j.lines.length)

/-- The frame the print unit owes as its job, its room count and its asking stand: an ASK owed for another reason goes
first; with lines left a LINE while there is room, and an ASK for room otherwise; after the last line the CUT. In
AWAIT_CUT and without a job nothing new becomes owed here (R164, R166). -/
def Printer.duty (p : Printer) : Printer :=
  match p.job with
  | none => p
  | some j =>
    if j.awaitCut ∨ p.owed = .ask false then p
    else if !j.linesLeft then { p with owed := .cut, askWait := false }
    else if 0 < p.room then { p with owed := .line, askWait := false }
    else if p.askWait then { p with owed := .none }
    else { p with owed := .ask true }

/-- Settle what is owed; while a print frame's exchange is in progress this waits for its outcome (R162, R164, R166). -/
def State.printDuty (s : State) : State := if s.printInFlight then s else s.onPrinter Printer.duty

/-! ## Jobs (R165 to R168) -/

/-- A job starts: the tag counter grows, the template's lines are composed, SENDING with the first line next, and what the
job needs first becomes owed at once, whatever print frame is on the line: an ASK with the room count at 0, else the first
LINE (R164 to R166). -/
def State.startJob (kind : JobKind) (txn template : Nat) (v : FieldValues) (s : State) : State :=
  let tag := (s.printer.tag + 1) % 256
  let job : Job :=
    { kind := kind, tag := tag, txn := txn, template := template, values := v
      lines := (s.templateLines template).map fun l => composeText v l.text, next := 0, awaitCut := false }
  s.onPrinter fun p => Printer.duty { p with job := some job, tag := tag, askWait := false }

/-- The receipt's end: the marker becomes none, and the RECEIPT report takes the reservation (R169). -/
def State.receiptEnds (txn : Nat) (failure : Option VoidCause) (s : State) : State :=
  (s.onRetained fun r => { r with receiptMarker := none }).issueReserved
    (.receipt txn (match failure with | none => .printed | some c => .lost c))

/-- The owning block is told that its job ended (R167, R168). -/
def State.tellOwner (j : Job) (failure : Option VoidCause) (s : State) : State :=
  match j.kind with
  | .ticket => s.ticketEnds failure
  | .voucher => s.voucherEnds failure
  | .receipt => s.receiptEnds j.txn failure
  | .reprint => s

/-- A job ends, complete or failed: the owed frame is withdrawn, the record cleared, the owner told, and a waiting
TEMPLATE activation takes place (R167, R168). -/
def State.jobEnds (failure : Option VoidCause) (s : State) : State :=
  match s.printer.job with
  | none => s
  | some j =>
    ((s.onPrinter fun p => { p with job := none, owed := .none, askWait := false }).tellOwner j failure).takeWaiting
      .template

/-- CUT_TIMEOUT in AWAIT_CUT fails the job (R168). -/
def State.cutTimeout (s : State) : State :=
  match s.printer.job with
  | none => s
  | some j => if j.awaitCut then s.jobEnds (some .cutLate) else s

/-- ROOM_ASK_DELAY: the waiting ASK becomes owed (R164). -/
def State.roomAskDelay (s : State) : State :=
  if s.printer.askWait then (s.onPrinter fun p => { p with askWait := false }).printDuty else s

/-! ## Notices (R162 to R168) -/

/-- The first failing item of a STATE notice, in the order of R168. -/
def stateFailure (paper : Paper) (head : Head) (fault : PrinterFault) : Option VoidCause :=
  if fault = .set then some .printerFault
  else if head = .opened then some .headOpen
  else if paper = .out then some .paperOut
  else none

/-- A STATE notice: the printer state and its report, then the failure of a job (R163, R168). -/
def State.takeState (paper : Paper) (head : Head) (fault : PrinterFault) (s : State) : State :=
  let p := s.printer
  let dp := p.paper != paper
  let dh := p.head != head
  let df := p.fault != fault
  let s := s.onPrinter fun p => { p with paper := paper, head := head, fault := fault }
  let s := if dp || dh || df then s.issuePrinter dp dh df 0 else s
  match stateFailure paper head fault with
  | none => s
  | some c => s.jobEnds (some c)

/-- A CUT DONE notice completes the job in AWAIT_CUT with its tag; any other is ignored (R167). -/
def State.takeCutDone (tag : Nat) (s : State) : State :=
  match s.printer.job with
  | none => s
  | some j => if j.awaitCut ∧ j.tag = tag then s.jobEnds none else s

/-- A job in SENDING has lines left to send (R164, R165). -/
def Printer.sendsLines (p : Printer) : Bool := p.job.any fun j => !j.awaitCut && j.linesLeft

/-- A ROOM notice while a print frame is on the line: the count takes its value. A count above 0 withdraws an ASK owed for room and
ends a wait for one; a count that falls to 0 with lines left owes an ASK at once; the rest waits for the exchange's outcome (R164). -/
def Printer.roomInExchange (n : Nat) (p : Printer) : Printer :=
  if 0 < n then { p with room := n, askWait := false, owed := if p.owed = .ask true then .none else p.owed }
  else if 0 < p.room ∧ p.owed ≠ .ask false ∧ p.sendsLines then { p with room := 0, askWait := false, owed := .ask true }
  else { p with room := 0 }

/-- A ROOM notice: the count takes its value, and what is owed follows (R164, R166). -/
def Printer.takeRoom (inFlight : Bool) (n : Nat) (p : Printer) : Printer :=
  if inFlight then p.roomInExchange n else Printer.duty { p with room := n }

/-- One notice is taken whole (R162). -/
def State.takeNotice (s : State) : Notice → State
  | .room n => s.onPrinter (Printer.takeRoom s.printInFlight n)
  | .cutDone t => s.takeCutDone t
  | .state p h f => s.takeState p h f

/-- The notices of one frame in the order they stand; a malformed frame has no effect (R162). -/
def State.takeNotices (kind : Byte) (payload : List Byte) (s : State) : State :=
  ((printerNotices kind payload).getD []).foldl State.takeNotice s

/-! ## Outcomes of print exchanges (R164, R166, R167) -/

/-- A PRINT LINE's exchange ends: delivered, or owed again. -/
def Job.lineEnds (tag : Nat) (valid : Bool) (j : Job) : Job :=
  if valid ∧ j.tag = tag then { j with next := j.next + 1 } else j

/-- The outcome of a PRINT LINE's exchange. -/
def State.lineOutcome (tag : Nat) (valid : Bool) (s : State) : State :=
  (s.onPrinter fun p => { p with job := p.job.map (Job.lineEnds tag valid) }).printDuty

/-- The outcome of a PRINT CUT's exchange: with no valid answer the CUT of a job still waiting is owed again (R167). -/
def State.cutOutcome (tag : Nat) (valid : Bool) (s : State) : State :=
  (s.onPrinter fun p =>
    if !valid ∧ p.job.any (fun j => j.awaitCut && j.tag == tag) then { p with owed := .cut } else p).printDuty

/-- The outcome of a PRINT ASK's exchange: with no valid answer it is owed again; with one, an ASK for room whose count is
still 0 with lines left lets the 100 ms wait run, unless the count fell to 0 in the answer, which owes the next ASK at once; after an
ASK of R163 a job that needs room owes its own at once (R164). -/
def State.askOutcome (forRoom valid : Bool) (s : State) : State :=
  (s.onPrinter fun p =>
    if !valid then { p with owed := .ask forRoom }
    else if forRoom ∧ p.room = 0 ∧ p.owed ≠ .ask true ∧ p.sendsLines then { p with askWait := true }
    else p).printDuty

/-- The exchange of a PRINT LINE begins: the room count falls by one (R164). -/
def Printer.lineBegins (p : Printer) : Printer := { p with owed := .none, room := p.room - 1 }

/-- The exchange of a PRINT CUT begins: AWAIT_CUT, with the cut timer running from the first send (R167). -/
def Printer.cutBegins (p : Printer) : Printer :=
  { p with owed := .none, job := p.job.map fun (j : Job) => { j with awaitCut := true } }

/-! ## The PRINTER slot (R163, R168) -/

/-- The PRINTER slot becomes PRESENT: an ASK becomes owed (R163). -/
def Printer.slotPresent (p : Printer) : Printer := { p with owed := .ask false }

/-- The PRINTER slot becomes ABSENT: state unknown, room 0, nothing owed, and a job fails (R163, R164, R168). -/
def State.printerAbsent (s : State) : State :=
  (s.onPrinter fun p =>
    { p with paper := .unknown, head := .unknown, fault := .unknown, room := 0, owed := .none, askWait := false }).jobEnds
    (some .printerAbsent)

/-! ## VOUCHER and REPRINT -/

/-- What a VOUCHER prints (R157). -/
def OpRecord.voucherValues (machineId : Nat) (o : OpRecord) : FieldValues :=
  { FieldValues.none with voucher := some o.amount.toNat, txn := some o.txn, day := some o.stamp.day
                          second := some o.stamp.second, machineId := some machineId }

/-- The first check of R157 that fails. -/
def State.voucherRefusal (s : State) : Option Reason :=
  if s.part = .service then some .service
  else if s.purchase ≠ .opened ∨ s.retained.ledger.c = 0 then some .state
  else if Config.lastTransaction ≤ s.retained.txn ∨ 65535 < s.credit then some .range
  else if !s.printPath 7 then some .printer
  else if s.freeSlots < 1 then some .busy
  else none

/-- VOUCHER (R157). -/
def State.serveVoucher (s : State) : State :=
  match s.voucherRefusal with
  | some r => s.refuse Kind.voucher r
  | none =>
    let o : OpRecord :=
      { kind := .voucher, txn := s.retained.txn + 1, stamp := s.clock.stamp, fareGeneration := none, sale := none
        amount := s.retained.ledger.c, bonus := 0, receipt := false, template := some 7, journalRef := none }
    (((s.acceptOp o 1).startJob .voucher o.txn 7 (o.voucherValues s.machineId)).entryTest).reply Kind.voucher
      (.voucher o.txn o.amount)

/-- What a receipt prints: the last-receipt record's values (R142, R169). -/
def LastReceipt.values (r : LastReceipt) : FieldValues :=
  { FieldValues.none with price := some r.amount.toNat, bonus := some r.bonus.toNat, newBalance := some r.newBalance
                          last4 := some r.last4, day := some r.stamp.day, second := some r.stamp.second
                          txn := some r.txn, machineId := some r.machineId }

/-- REPRINT (R170). -/
def State.serveReprint (s : State) : State :=
  match s.retained.lastReceipt with
  | none => s.refuse Kind.reprint .state
  | some r =>
    if s.printPath 6 then (s.startJob .reprint r.txn 6 r.values).reply Kind.reprint (.reprint r.txn)
    else s.refuse Kind.reprint .printer

end Sys2Proof.Machine
end

