-- ==== Sys2Proof/Machine/Card.lean ====
section
/-! DEFINITION. The card operation unit: presentations, resolution and binding (R126 to R129), departures and the CARD slot
(R130 to R132), the journal (R133), TOPUP (R134 to R136), the card write and its ends (R137 to R140), WRITE OFF (R141)
and the receipt of a settled top-up (R142). -/

namespace Sys2Proof.Machine

/-! ## The journal (R133) -/

/-- Change the journal. -/
def State.onJournal (f : List JournalRecord → List JournalRecord) (s : State) : State :=
  s.onRetained fun r => { r with journal := f r.journal }

/-- Remove a record from its place. -/
def dropRecord (txn : Nat) (j : List JournalRecord) : List JournalRecord := j.filter fun r => r.txn != txn

/-- A record becomes UNCERTAIN in its place. -/
def JournalRecord.mark (txn : Nat) (r : JournalRecord) : JournalRecord :=
  if r.txn = txn then { r with state := .uncertain } else r

/-- The UNCERTAIN record of a card (R127). -/
def State.uncertainOf (s : State) (card : Nat) : Option JournalRecord :=
  s.retained.journal.find? fun r => r.card == card && r.state == .uncertain

/-- What UNCERTAIN and RESOLVED carry of a record (R144). -/
def JournalRecord.report (r : JournalRecord) : RecordReport := ⟨r.txn, r.kind, r.card, r.amount, r.bonus, r.stamp⟩

/-! ## Presentations (R126 to R129) -/

/-- What the journal's record of the presented card comes to (R127). -/
def JournalRecord.finding (p : Presentation) (r : JournalRecord) : Option Resolution :=
  if p.history.contains (r.machineId, r.txn) then some .landed
  else if p.sequence = r.oldSequence then some .restored
  else none

/-- The money movement of a resolution (R96, R127). -/
def JournalRecord.resolution (r : JournalRecord) : Resolution → Ledger → Ledger
  | .landed => if r.kind = .topup then Move.landedTopup r.amount r.bonus else Move.landedSale r.amount
  | .restored => Move.restore r.amount

/-- A finding is carried out: the record removed, the money moved, RESOLVED issued (R127). -/
def State.carryOut (r : JournalRecord) (o : Resolution) (s : State) : State :=
  ((s.onJournal (dropRecord r.txn)).onLedger (r.resolution o)).issueFree (.resolved r.report o)

/-- The finding on the presented card, where the journal holds an UNCERTAIN record for it. -/
def State.findingOn (s : State) (p : Presentation) : Option (JournalRecord × Resolution) :=
  (s.uncertainOf p.card).bind fun r => (r.finding p).map fun o => (r, o)

/-- Resolution (R127). -/
def State.resolve (p : Presentation) (s : State) : State :=
  match s.findingOn p with
  | none => s
  | some (r, o) => s.carryOut r o

/-- Resolution restored money to credit (R127). -/
def State.restores (s : State) (p : Presentation) : Bool := ((s.findingOn p).map Prod.snd) == some .restored

/-- The binding of a presentation, the blocked mark from the hotlist search (R128, R129). -/
def State.bindingFor (s : State) (p : Presentation) : Binding :=
  { card := p.card, concession := p.concession, balance := p.balance, sequence := p.sequence, pass := p.pass
    blocked := s.hotlisted p.card, gone := false }

/-- A presentation is acted on: resolution, the hotlist search and binding (R126 to R129). -/
def State.bindCard (p : Presentation) (s : State) : State :=
  let opens := s.purchase == .idle
  let credit := s.restores p || opens
  let b := s.bindingFor p
  let s := (s.resolve p).onCard fun c => { c with binding := some b, owed := .hold }
  let s := if opens then { s with purchase := .opened } else s
  let s := if credit then s.issueCredit 0 0 else s
  (s.issueCard 0).entryTest

/-- The five conditions of R126. -/
def State.actsOn (s : State) (p : Presentation) : Bool :=
  s.card.binding.isNone && s.card.owed != .release && (s.purchase == .idle || s.purchase == .opened)
    && s.chute.state != .accepting && (!s.unresolved p.card || 0 < s.freeSlots)

/-! ## Departures (R131) -/

/-- The binding ends: it becomes absent, an owed HOLD is withdrawn, and CARD is issued (R131). -/
def State.unbind (s : State) : State :=
  (s.onCard fun c => { c with binding := none, owed := if c.owed = .hold then .none else c.owed }).issueCard 0

/-- After an unbinding: in OPEN the rest test, and CREDIT when it brings the purchase to IDLE (R131). -/
def State.afterUnbind (s : State) : State :=
  if s.purchase = .opened then
    let t := s.rest
    if t.purchase = .idle then (t.issueCredit 0 0).entryTest else t
  else s

/-- A card leaves (R131). -/
def State.cardLeaves (s : State) : State :=
  match s.card.binding with
  | none => s
  | some b =>
    match s.card.write with
    | .none => s.unbind.afterUnbind
    | .owed _ | .sent _ => s.onCard fun c => { c with binding := some { b with gone := true } }

/-- A presentation (R126, R131). -/
def State.takeSeen (p : Presentation) (s : State) : State :=
  match s.card.binding with
  | some b => if b.card = p.card then s else s.cardLeaves
  | none => if s.actsOn p then s.bindCard p else s

/-! ## The card write (R137) -/

/-- A card operation is accepted: the ISSUED record joins the journal and the write is owed (R137). -/
def State.startWrite (o : OpRecord) (b : Binding) (w : Written) (s : State) : State :=
  let r : JournalRecord :=
    { state := .issued, txn := o.txn, card := b.card, kind := o.kind, amount := o.amount, bonus := o.bonus
      oldSequence := b.sequence, machineId := s.machineId, content := w, stamp := o.stamp }
  (s.onJournal (· ++ [r])).onCard fun c =>
    { c with write := .owed ⟨b.card, b.sequence, w, s.machineId, o.txn⟩ }

/-- The exchange of the write frame begins: SENT, with the write timer running (R137). -/
def CardUnit.writeBegins (c : CardUnit) : CardUnit :=
  match c.write with
  | .owed w => { c with write := .sent w }
  | .none | .sent _ => c

/-! ## The receipt of a settled top-up (R142, R169) -/

/-- The receipt's values, fixed at settlement (R142). -/
def receiptOf (o : OpRecord) (w : CardWrite) (newBalance : Nat) : LastReceipt :=
  { txn := o.txn, amount := o.amount, bonus := o.bonus, newBalance := newBalance, last4 := w.card % 10000
    stamp := o.stamp, machineId := w.machineId }

/-- The second reservation of a settled top-up: a receipt job, a SKIPPED report, or its release (R142). -/
def State.handReceipt (o : OpRecord) (w : CardWrite) (newBalance : Nat) (s : State) : State :=
  if !o.receipt then s.release
  else
    let r := receiptOf o w newBalance
    let s := s.onRetained fun x => { x with lastReceipt := some r }
    if s.printPath 6 then
      (s.onRetained fun x => { x with receiptMarker := some o.txn }).startJob .receipt o.txn 6 r.values
    else s.issueReserved (.receipt o.txn .skipped)

/-! ## Ends of a write (R138 to R140) -/

/-- A binding after a DONE result (R139). -/
def Binding.written (newSequence : Nat) (w : Written) (b : Binding) : Binding :=
  match w with
  | .balance v => { b with sequence := newSequence, balance := v }
  | .pass product _ last => { b with sequence := newSequence, pass := some ⟨product, last⟩ }

/-- The write ends: its state is NONE, and a binding with the gone mark ends (R139, R140). -/
def State.writeEnds (s : State) : State :=
  let s := s.onCard fun c => { c with write := .none }
  if s.card.binding.any Binding.gone then s.unbind else s

/-- What TOPUP DONE and TOPUP VOID carry (R144). -/
def topupReport (o : OpRecord) (w : CardWrite) (newBalance newSequence : Nat) : TopupReport :=
  ⟨o.txn, w.card, o.amount, o.bonus, newBalance, newSequence, o.fareGeneration.getD 0, o.stamp⟩

/-- The new balance a write carries. -/
def Written.newBalance : Written → Nat
  | .balance v => v
  | .pass .. => 0

/-- A DONE result (R139). -/
def State.writeDone (o : OpRecord) (w : CardWrite) (newSequence : Nat) (s : State) : State :=
  let s := s.onJournal (dropRecord w.txn)
  let s := s.onCard fun c => { c with binding := c.binding.map (Binding.written newSequence w.content) }
  if o.kind = .topup then
    let v := w.content.newBalance
    let s := s.endOp (Move.settleTopup o.bonus) (.topupDone (topupReport o w v newSequence))
    ((s.issueCard 0).writeEnds.handReceipt o w v).comeToRest
  else
    (((s.endOp Move.settleSale (.saleDone o.saleReport)).issueCard 0).writeEnds).afterSale o false

/-- A FAIL result (R139). -/
def State.writeFail (o : OpRecord) (w : CardWrite) (s : State) : State :=
  let s := s.onJournal (dropRecord w.txn)
  if o.kind = .topup then
    ((s.endOp Move.void (.topupVoid (topupReport o w 0 0) .writeFail)).writeEnds.release).comeToRest
  else (s.endOp Move.void (.saleVoid o.saleReport .writeFail)).writeEnds.afterSale o true

/-- An uncertain end (R140); with cause ABSENT the binding ends too (R132). -/
def State.writeUncertain (o : OpRecord) (w : CardWrite) (cause : UncertainCause) (s : State) : State :=
  let s := s.onJournal (·.map (JournalRecord.mark w.txn))
  let s := s.endOp Move.hold (.uncertain ⟨o.txn, o.kind, w.card, o.amount, o.bonus, o.stamp⟩ cause)
  let s := s.onCard fun c => { c with write := .none }
  let s := if cause = .absent ∨ s.card.binding.any Binding.gone then s.unbind else s.issueCard 0
  if o.kind = .topup then s.release.comeToRest else s.afterSale o false

/-- The write in flight with its operation. -/
def State.writeInFlight (s : State) : Option (OpRecord × CardWrite) :=
  match s.retained.op, s.card.write with
  | some o, .sent w => some (o, w)
  | some o, .owed w => some (o, w)
  | some _, .none => none
  | none, _ => none

/-- The write is SENT (R126). -/
def WriteState.isSent : WriteState → Bool
  | .sent _ => true
  | .none | .owed _ => false

/-- A CARD WRITTEN (R138). -/
def State.takeWritten (txn : Nat) (r : WriteResult) (s : State) : State :=
  match s.writeInFlight with
  | none => s
  | some (o, w) =>
    if s.card.write.isSent ∧ w.txn = txn then
      match r with
      | .done n => s.writeDone o w n
      | .fail => s.writeFail o w
      | .unsure => s.writeUncertain o w .unsure
    else s

/-- WRITE_TIMEOUT of a SENT write (R138, R140). -/
def State.writeTimeout (s : State) : State :=
  match s.writeInFlight with
  | none => s
  | some (o, w) => if s.card.write.isSent then s.writeUncertain o w .timeout else s

/-! ## The CARD slot (R130, R132) -/

/-- The CARD slot becomes PRESENT: a RELEASE becomes owed (R130). -/
def CardUnit.slotPresent (c : CardUnit) : CardUnit := { c with owed := .release }

/-- The CARD slot becomes ABSENT (R132). -/
def State.cardAbsent (s : State) : State :=
  let s := s.onCard fun c => { c with owed := .none }
  match s.writeInFlight with
  | some (o, w) => s.writeUncertain o w .absent
  | none => if s.card.binding.isSome then s.unbind.afterUnbind else s

/-- The CARD kinds consumed from the CARD slot (R11, R125). -/
def State.takeCardFrame (kind : Byte) (p : List Byte) (s : State) : State :=
  if kind = Kind.cardSeen then
    match cardSeenOf p with
    | none => s
    | some x => s.takeSeen x
  else if kind = Kind.cardGone then (if p.isEmpty then s.cardLeaves else s)
  else
    match cardWrittenOf p with
    | none => s
    | some (txn, r) => s.takeWritten txn r

/-- The outcome of a HOLD's or RELEASE's exchange: with no valid answer the frame is owed again; a HOLD only while a card
is bound, since the end of the binding withdraws it (R130). -/
def CardUnit.class3Ends (f : Class3) (valid : Bool) (c : CardUnit) : CardUnit :=
  if valid ∨ (f = .hold ∧ c.binding.isNone) then c else { c with owed := f }

/-! ## TOPUP (R134 to R136) -/

/-- The bonus of an amount (R135). -/
def bonusOf (h : FareHeader) (amount : Nat) : Nat :=
  if h.bonusThreshold ≤ amount then amount * h.bonusPercent / 100 else 0

/-- The balance after a top-up passes (R134, step 9). -/
def FareHeader.fitsBalance (h : FareHeader) (balance amount : Nat) : Bool :=
  balance + amount + bonusOf h amount ≤ h.maxBalance

/-- The largest multiple of the step, from a number of steps down, at or above the minimum, that passes; 0 where none
does (R134). -/
def greatestFrom (h : FareHeader) (balance : Nat) : Nat → Nat
  | 0 => 0
  | n + 1 =>
    let a := (n + 1) * h.topupStep
    if a < h.minTopup then 0 else if h.fitsBalance balance a then a else greatestFrom h balance n

/-- The greatest amount that would pass (R134); no amount is above 65535 or above the room under the max balance. -/
def greatestTopup (h : FareHeader) (balance : Nat) : Nat :=
  greatestFrom h balance (min 65535 (h.maxBalance - balance) / h.topupStep)

/-- What a TOPUP that passes every check works with. -/
structure TopupTerms where
  fare : Active FareTable
  binding : Binding
  bonus : Nat
  deriving DecidableEq, Repr

/-- The checks of R134 in order. -/
def State.topupChecks (amount : Nat) (s : State) : Except ReplyBody TopupTerms :=
  if s.part = .service then .error (.refused .service)
  else if s.purchase ≠ .opened then .error (.refused .state)
  else if Config.lastTransaction ≤ s.retained.txn then .error (.refused .range)
  else match s.retained.fare with
    | none => .error (.refused .table)
    | some f =>
      match s.card.binding with
      | none => .error (.refused .noCard)
      | some b =>
        let h := f.content.header
        if b.blocked || s.hotlisted b.card then .error (.refused .blocked)
        else if !s.journalTakes b.card then .error (.refused .journal)
        else if amount < h.minTopup ∨ amount % h.topupStep ≠ 0 then .error (.refused .range)
        else if s.credit < amount then .error (.refusedSum .short amount)
        else if !h.fitsBalance b.balance amount then .error (.refusedLimit (greatestTopup h b.balance))
        else if s.freeSlots < 2 then .error (.refused .busy)
        else .ok ⟨f, b, bonusOf h amount⟩

/-- TOPUP (R134 to R137). -/
def State.serveTopup (amount : Word16) (receipt : Bool) (s : State) : State :=
  match s.topupChecks amount.toNat with
  | .error r => s.reply Kind.topup r
  | .ok t =>
    let balance := t.binding.balance + amount.toNat + t.bonus
    let o : OpRecord :=
      { kind := .topup, txn := s.retained.txn + 1, stamp := s.clock.stamp, fareGeneration := some t.fare.generation
        sale := none, amount := amount.zeroExtend 32, bonus := BitVec.ofNat 32 t.bonus, receipt := receipt
        template := if receipt then some 6 else none, journalRef := some (s.retained.txn + 1) }
    (((s.acceptOp o 2).startWrite o t.binding (.balance balance)).entryTest).reply Kind.topup
      (.topup o.txn o.amount o.bonus balance)

/-! ## WRITE OFF (R141) -/

/-- WRITE OFF (R141). -/
def State.serveWriteOff (txn : Nat) (s : State) : State :=
  if s.part ≠ .service then s.refuse Kind.writeOff .service
  else match s.retained.journal.find? fun r => r.txn == txn && r.state == .uncertain with
    | none => s.refuse Kind.writeOff .range
    | some r =>
      let s := (s.onJournal (dropRecord r.txn)).onLedger (Move.writeOff r.amount)
      let s := if s.card.binding.any fun b => b.card == r.card then s.issueCard 0 else s
      s.reply Kind.writeOff (.writeOff r.card r.kind r.amount r.bonus)

end Sys2Proof.Machine
end

