-- ==== Sys2Proof/Machine/Fare.lean ====
section
/-! DEFINITION. The fare unit: SELL's checks (R108 to R110, R116), the price (R111, R112), the dates of validity (R113 to
R115), acceptance and the start of the sale's work (R117, R118, R121). -/

namespace Sys2Proof.Machine

/-! ## The price (R111, R112) -/

/-- The raw fare R (R111). -/
def Product.rawFare (p : Product) (zones : Nat) : Nat := p.base + p.zoneStep * (zones - 1)

/-- The concession percent D: 0 where the product does not allow concession (R111). -/
def Product.discount (p : Product) (classes : List Nat) (concession : Nat) : Nat :=
  if p.concessionAllowed then classes.getD concession 0 else 0

/-- The scaled fare N = R × F × (100 − D), exact (R111). -/
def scaledFare (raw factor discount : Nat) : Nat := raw * factor * (100 - discount)

/-- The rounded count k′ (R112). -/
def roundedCount (mode : Rounding) (n q : Nat) : Nat :=
  let k := n / q
  let r := n % q
  match mode with
  | .nearest => if q ≤ 2 * r then k + 1 else k
  | .up => if 0 < r then k + 1 else k
  | .down => k

/-- The clamp to floor and cap (R112). -/
def clampPrice (floor cap rounded : Nat) : Nat := if rounded < floor then floor else if cap < rounded then cap else rounded

/-- The price of a scaled fare (R112). -/
def Product.priceOf (p : Product) (n : Nat) : Nat :=
  clampPrice p.floor p.cap (roundedCount p.rounding n (10000 * p.step) * p.step)

/-- The price of a product for zones, a factor and a concession class (R111, R112). -/
def Product.price (p : Product) (classes : List Nat) (zones factor concession : Nat) : Nat :=
  p.priceOf (scaledFare (p.rawFare zones) factor (p.discount classes concession))

/-! ## Validity (R113 to R115) -/

/-- The first valid day of a fresh pass (R113). -/
def Product.firstDay (p : Product) (t : Timestamp) : Nat :=
  match p.lateStart with
  | none => t.day
  | some late => if late ≤ t.second then t.day + 1 else t.day

/-- What the pass slot allows: another product's running pass holds the card, its own product's running pass is extended,
anything else is a fresh pass (R115). -/
inductive PassOutcome where
  | fresh
  | extend (lastDay : Nat)
  | held
  deriving DecidableEq, Repr

/-- The pass slot judged at a sale day (R115). -/
def judgePass (code saleDay : Nat) : Option PassSlot → PassOutcome
  | none => .fresh
  | some x => if x.lastDay < saleDay then .fresh else if x.product = code then .extend x.lastDay else .held

/-- The first and last valid days; none for a single journey (R113 to R115). -/
def Product.days (p : Product) (t : Timestamp) (o : PassOutcome) : Option (Nat × Nat) :=
  if p.validityDays = 0 then none
  else
    let first := match o with
      | .extend last => last + 1
      | .fresh | .held => p.firstDay t
    some (first, first + p.validityDays - 1)

/-! ## SELL -/

/-- A SELL's operands (R107). -/
structure SellRequest where
  product : Nat
  zones : Nat
  concession : Nat
  medium : Medium
  keepCredit : Bool
  deriving DecidableEq, Repr

/-- The product a SELL names, sold on its medium (R108, step 4). -/
def FareTable.product? (t : FareTable) (code : Nat) (m : Medium) : Option Product :=
  t.products.find? fun p => p.code == code &&
    match p.medium, m with
    | .both, _ | .printed, .printed | .card, .card => true
    | .printed, .card | .card, .printed => false

/-- Steps 8 to 11 for a card (R108, R110, R115): the binding and what its pass slot allows. -/
def State.cardChecks (s : State) (p : Product) (t : Timestamp) : Except ReplyBody (Binding × PassOutcome) :=
  match s.card.binding with
  | none => .error (.refused .noCard)
  | some b =>
    if b.blocked || s.hotlisted b.card then .error (.refused .blocked)
    else if !s.journalTakes b.card then .error (.refused .journal)
    else match judgePass p.code t.day b.pass with
      | .held => .error (.refused .passHeld)
      | .fresh => .ok (b, .fresh)
      | .extend d => .ok (b, .extend d)

/-- Steps 7 to 11: the print path for PRINTED, the card checks for CARD (R108). -/
def State.mediumChecks (s : State) (m : Medium) (p : Product) (t : Timestamp) :
    Except ReplyBody (Option Binding × PassOutcome) :=
  match m with
  | .printed => if s.printPath p.template then .ok (none, .fresh) else .error (.refused .printer)
  | .card =>
    match s.cardChecks p t with
    | .error r => .error r
    | .ok (b, o) => .ok (some b, o)

/-- What a SELL that passes every check works with. -/
structure SaleTerms where
  fare : Active FareTable
  product : Product
  binding : Option Binding
  stamp : Timestamp
  band : Option Nat
  concession : Nat
  days : Option (Nat × Nat)
  price : Nat
  change : Nat
  deriving DecidableEq, Repr

/-- Steps 12 to 16: the dates' limit, the price, the credit, the change and the report slots (R108). -/
def State.moneyChecks (s : State) (keep : Bool) (t : SaleTerms) : Except ReplyBody SaleTerms :=
  if t.days.any fun (d : Nat × Nat) => decide (65535 < d.2) then .error (.refused .range)
  else if s.credit < t.price then .error (.refusedSum .short t.price)
  else
    let change := s.credit - t.price
    if !keep ∧ (s.plan change).2 ≠ 0 then .error (.refusedSum .noChange change)
    else if s.freeSlots < 2 then .error (.refused .busy)
    else .ok { t with change := if keep then 0 else change }

/-- The checks of R108 in order. -/
def State.sellChecks (q : SellRequest) (s : State) : Except ReplyBody SaleTerms :=
  if s.part = .service then .error (.refused .service)
  else if !(s.purchase == .idle || s.purchase == .opened) then .error (.refused .state)
  else if Config.lastTransaction ≤ s.retained.txn then .error (.refused .range)
  else match s.retained.fare with
    | none => .error (.refused .table)
    | some f =>
      match f.content.product? q.product q.medium with
      | none => .error (.refused .product)
      | some p =>
        let stamp := s.clock.stamp
        if q.zones < 1 ∨ p.maxZones < q.zones then .error (.refused .zones)
        else if p.validityDays ≠ 0 ∧ !stamp.valid then .error (.refused .range)
        else match s.mediumChecks q.medium p stamp with
          | .error r => .error r
          | .ok (binding, outcome) =>
            let band := s.clock.band f.content
            let concession := (binding.map Binding.concession).getD q.concession
            s.moneyChecks q.keepCredit
              { fare := f, product := p, binding := binding, stamp := stamp, band := band, concession := concession
                days := p.days stamp outcome
                price := p.price f.content.classes q.zones (f.content.factor band) concession
                change := 0 }

/-- The operation record of an accepted SELL (R117). -/
def State.saleRecord (s : State) (q : SellRequest) (t : SaleTerms) : OpRecord :=
  { kind := match q.medium with | .printed => .printedSale | .card => .cardSale
    txn := s.retained.txn + 1, stamp := t.stamp, fareGeneration := some t.fare.generation
    sale := some ⟨t.band, q.product, q.zones, t.concession, t.days, q.keepCredit⟩
    amount := BitVec.ofNat 32 t.price, bonus := 0, receipt := false
    template := match q.medium with | .printed => some t.product.template | .card => none
    journalRef := match q.medium with | .printed => none | .card => some (s.retained.txn + 1) }

/-- The field values of a ticket (R118). -/
def ticketValues (q : SellRequest) (t : SaleTerms) (txn machineId : Nat) : FieldValues :=
  { FieldValues.none with
    price := some t.price, change := some t.change, productName := some t.product.name, zones := some q.zones
    concession := some t.concession, validFrom := t.days.map Prod.fst, validTo := t.days.map Prod.snd
    day := some t.stamp.day, second := some t.stamp.second, txn := some txn, machineId := some machineId }

/-- The work of an accepted sale: a TICKET job, or a card write (R118, R121). -/
def State.startSale (o : OpRecord) (q : SellRequest) (t : SaleTerms) (s : State) : State :=
  match t.binding with
  | none => s.startJob .ticket o.txn t.product.template (ticketValues q t o.txn s.machineId)
  | some b => s.startWrite o b (.pass q.product ((t.days.map Prod.fst).getD 0) ((t.days.map Prod.snd).getD 0))

/-- SELL (R107, R108, R117). -/
def State.serveSell (q : SellRequest) (s : State) : State :=
  match s.sellChecks q with
  | .error r => s.reply Kind.sell r
  | .ok t =>
    let o := s.saleRecord q t
    (((s.acceptOp o 2).startSale o q t).entryTest).reply Kind.sell
      (.sell ⟨o.txn, t.price, t.band, t.concession, t.days, t.fare.generation, t.change⟩)

end Sys2Proof.Machine
end

