-- ==== Sys2Proof/Machine/MLine.lean ====
section
/-! DEFINITION. The M-line scheduler and the passage unit: grants (R13, R14), exchanges and their ends (R12), presence (R15),
answers (R11) and downward frames (R8 to R10). -/

namespace Sys2Proof.Machine

/-! ## Passage (R8 to R11) -/

/-- A row of the active PASSAGE table passes a kind; without a table, and for a kind above 63, nothing passes (R9). -/
def State.passes (s : State) (row : Nat) (kind : Byte) : Bool :=
  match s.retained.passage with
  | none => false
  | some a => (a.content.rows.getD row 0).getLsbD kind.toNat

/-- The downward vocabulary of a role, with the line-control kinds that bind every slot (R10). DESIGN CHOICE, unsafe: R10 leaves open
whether a role's upward kinds are guarded too when they are sent down; only its downward kinds are (assumption 43). -/
def guardedDown (r : Role) (kind : Byte) : Bool :=
  kind == Kind.poll || kind == Kind.nil ||
    match r with
    | .card => 50 ≤ kind.toNat && kind.toNat ≤ 53
    | .printer => 58 ≤ kind.toNat && kind.toNat ≤ 60
    | .none | .other => false

/-- A frame from the terminal processor, and why it is refused: the checks of R8 in order. -/
def State.downRefusal (s : State) (f : Frame) : Option Reason :=
  match slotOf f.dest with
  | some i =>
    let slot := s.slots.get i
    if slot.role = .none ∨ !slot.present then some .absent
    else if guardedDown slot.role f.kind then some .guarded
    else if !s.passes i.val f.kind then some .guarded
    else if Config.frameQueueDepth ≤ s.forwardQ.length then some .queue
    else none
  | none =>
    if !s.otherPresent then some .absent
    else if guardedDown .none f.kind then some .guarded
    else if !s.passes 6 f.kind then some .guarded
    else if Config.frameQueueDepth ≤ s.forwardQ.length then some .queue
    else none

/-- The downward passage decision (R8). -/
def State.passDown (f : Frame) (s : State) : State :=
  match s.downRefusal f with
  | some r => s.refuse f.kind r
  | none => { s with forwardQ := s.forwardQ ++ [f] }

/-- A kind of the answering slot's upward vocabulary (R10). DESIGN CHOICE, unsafe: R10 leaves open whether a role's downward kinds are
consumed too when they come up; only its upward kinds are (assumption 43). -/
def consumedUp (r : Role) (kind : Byte) : Bool :=
  match r with
  | .card => 54 ≤ kind.toNat && kind.toNat ≤ 56
  | .printer => 61 ≤ kind.toNat && kind.toNat ≤ 63
  | .none | .other => false

/-- The unit that consumes a kind of its role's vocabulary takes it (R10, R11). -/
def State.consume (r : Role) (f : Frame) (s : State) : State :=
  match r with
  | .card => s.takeCardFrame f.kind f.payload
  | .printer => s.takeNotices f.kind f.payload
  | .none | .other => s

/-- A valid answer of a slot is disposed of (R11). -/
def State.disposeAnswer (i : Fin 6) (f : Frame) (s : State) : State :=
  let r := (s.slots.get i).role
  if f.kind = Kind.nil ∧ f.payload = [] then s
  else if consumedUp r f.kind then s.consume r f
  else if f.dest = terminal ∧ s.passes (7 + i.val) f.kind then { s with upwardQ := s.upwardQ ++ [f] }
  else s

/-! ## Grants (R13, R14) -/

/-- An exchange begins (R12). -/
def State.begin (t : Target) (o : Owner) (f : Frame) (s : State) : State := { s with exchange := some ⟨t, o, f⟩ }

/-- Candidate 1: the card write, not while a HOLD is owed (R13, R137). -/
def State.grantWrite (s : State) : Option State :=
  match s.card.write, s.presentOfRole .card with
  | .owed w, some i =>
    if s.card.owed = .hold then none
    else some ((s.onCard CardUnit.writeBegins).begin (.slot i) .cardWrite (cardWriteFrame i w))
  | .owed _, none | .none, _ | .sent _, _ => none

/-- Candidate 2: the frame the print unit owes (R13, R162). -/
def State.grantPrint (s : State) : Option State :=
  match s.presentOfRole .printer with
  | none => none
  | some i =>
    match s.printer.owed with
    | .none => none
    | .ask b =>
      some ((s.onPrinter fun p => { p with owed := .none }).begin (.slot i) (.printAsk b)
        (slotFrame i Kind.printAsk []))
    | .line =>
      s.printer.job.map fun j =>
        (s.onPrinter Printer.lineBegins).begin (.slot i) (.printLine j.tag)
          (printLineFrame i j.tag (j.next + 1) (j.lines.getD j.next []))
    | .cut =>
      s.printer.job.map fun j =>
        (s.onPrinter Printer.cutBegins).begin (.slot i) (.printCut j.tag)
          (slotFrame i Kind.printCut (leBytes 1 j.tag))

/-- Candidate 3: CARD HOLD or CARD RELEASE (R13, R124). -/
def State.grantClass3 (s : State) : Option State :=
  match s.presentOfRole .card with
  | none => none
  | some i =>
    match s.card.owed with
    | .none => none
    | .hold =>
      s.card.binding.map fun b =>
        (s.onCard fun c => { c with owed := .none }).begin (.slot i) .hold (slotFrame i Kind.cardHold (leBytes 4 b.card))
    | .release =>
      some ((s.onCard fun c => { c with owed := .none }).begin (.slot i) .release (slotFrame i Kind.cardRelease []))

/-- Candidate 4: the head of the forward queue leaves it (R13, R17). -/
def State.grantForward (s : State) : Option State :=
  match s.forwardQ with
  | [] => none
  | f :: rest =>
    match slotOf f.dest with
    | some i =>
      if (s.slots.get i).present then some (({ s with forwardQ := rest }).begin (.slot i) .forward f) else none
    | none => if s.otherPresent then some (({ s with forwardQ := rest }).begin .group .forward f) else none

/-- The lowest-numbered ABSENT slot whose re-probe is due (R14). -/
def State.dueReprobe (s : State) : Option (Fin 6) :=
  (List.finRange 6).find? fun i =>
    (s.slots.get i).role != .none && !(s.slots.get i).present && (s.slots.get i).reprobe == .due

/-- The next assigned PRESENT slot after the last slot polled, in the order 1, 2, ... 6, 1 (R14). -/
def State.nextPolled (s : State) : Option (Fin 6) :=
  ((List.finRange 6).map fun k => s.lastPolled + k + 1).find? fun i =>
    (s.slots.get i).role != .none && (s.slots.get i).present

/-- Candidate 5: a poll (R14). -/
def State.grantPoll (s : State) : Option State :=
  match s.dueReprobe with
  | some i =>
    some (({ s with slots := s.slots.set i { s.slots.get i with reprobe := .off } }).begin (.slot i) .poll
      (slotFrame i Kind.poll []))
  | none =>
    s.nextPolled.map fun i => ({ s with lastPolled := i }).begin (.slot i) .poll (slotFrame i Kind.poll [])

/-- The line may carry an exchange (R13). -/
def State.mayGrant (s : State) : Bool :=
  s.exchange.isNone && s.part != .unset && s.upwardQ.length < Config.frameQueueDepth

/-- EXCHANGE_GRANT: the first candidate that exists (R13). -/
def State.grant (s : State) : State :=
  if s.mayGrant then
    ((s.grantWrite.orElse fun _ => s.grantPrint.orElse fun _ => s.grantClass3.orElse fun _ =>
      s.grantForward.orElse fun _ => s.grantPoll).getD s)
  else s

/-! ## Presence (R15) -/

/-- The report that shows a slot's presence: PRINTER for the role PRINTER, CARD for CARD and OTHER (R15). -/
def State.issuePresence (r : Role) (discards : Nat) (s : State) : State :=
  match r with
  | .printer => s.issuePrinter false false false discards
  | .card | .other => s.issueCard discards
  | .none => s

/-- A forward frame that goes with a slot becoming ABSENT: one to the slot, and one to the group when no OTHER slot remains
PRESENT (R15). -/
def State.losesFrame (s : State) (i : Fin 6) (f : Frame) : Bool :=
  f.dest == slotAddress i || ((s.slots.get i).role == .other && f.dest == groupAddress && !s.otherPresent)

/-- The unit of a role is told that its slot is ABSENT (R15, R132, R168). -/
def State.tellAbsent (r : Role) (s : State) : State :=
  match r with
  | .card => s.cardAbsent
  | .printer => s.printerAbsent
  | .other | .none => s

/-- A slot becomes ABSENT (R15). -/
def State.slotAbsent (i : Fin 6) (s : State) : State :=
  let r := (s.slots.get i).role
  let s := { s with slots := s.slots.set i { s.slots.get i with present := false, miss := 0, reprobe := .waiting } }
  let lost := (s.forwardQ.filter (s.losesFrame i)).length
  (({ s with forwardQ := s.forwardQ.filter fun f => !s.losesFrame i f }).tellAbsent r).issuePresence r lost

/-- The unit of a role is told that its slot is PRESENT (R15, R130, R163). -/
def State.tellPresent (r : Role) (s : State) : State :=
  match r with
  | .card => s.onCard CardUnit.slotPresent
  | .printer => s.onPrinter Printer.slotPresent
  | .other | .none => s

/-- A slot becomes PRESENT (R15). -/
def State.slotPresent (i : Fin 6) (s : State) : State :=
  let r := (s.slots.get i).role
  (({ s with slots := s.slots.set i { s.slots.get i with present := true, miss := 0, reprobe := .off } }).tellPresent
    r).issuePresence r 0

/-- The presence rule after a valid answer (R15). -/
def State.answered (i : Fin 6) (s : State) : State :=
  if (s.slots.get i).present then { s with slots := s.slots.set i { s.slots.get i with miss := 0 } }
  else s.slotPresent i

/-- The presence rule after no valid answer (R15). -/
def State.missed (i : Fin 6) (s : State) : State :=
  let slot := s.slots.get i
  if !slot.present then { s with slots := s.slots.set i { slot with reprobe := .waiting } }
  else if slot.miss < 2 then { s with slots := s.slots.set i { slot with miss := slot.miss + 1 } }
  else s.slotAbsent i

/-- REPROBE_DUE: the 2 s wait of an ABSENT slot ends (R15). -/
def State.reprobeDue (i : Fin 6) (s : State) : State :=
  if (s.slots.get i).reprobe = .waiting then
    { s with slots := s.slots.set i { s.slots.get i with reprobe := .due } }
  else s

/-! ## Ends of an exchange (R12) -/

/-- The exchange ends: the M-line receiver stops accepting, its FIFO is emptied, its assembler is HUNTING (R12). -/
def State.endExchange (s : State) : State :=
  { s with exchange := none, mRx := { s.mRx with fifo := [], overrunNext := false, gapRunning := false, asm := .hunting } }

/-- The unit that owed the frame is told whether a valid answer came (R12). -/
def State.tellOutcome (o : Owner) (valid : Bool) (s : State) : State :=
  match o with
  | .printLine tag => s.lineOutcome tag valid
  | .printCut tag => s.cutOutcome tag valid
  | .printAsk b => s.askOutcome b valid
  | .hold => s.onCard (CardUnit.class3Ends .hold valid)
  | .release => s.onCard (CardUnit.class3Ends .release valid)
  | .cardWrite | .forward | .poll => s

/-- A single-slot exchange ends with a valid answer: the slot's presence, the answer's disposition, the owner told (R11,
R12, R15; the order is DEDUCED, assumption 23). -/
def State.endValid (i : Fin 6) (o : Owner) (f : Frame) (s : State) : State :=
  (((s.answered i).disposeAnswer i f).endExchange).tellOutcome o true

/-- A single-slot exchange ends with no valid answer: the owner is told, then the presence rule applies (R12, R15). -/
def State.endInvalid (i : Fin 6) (o : Owner) (s : State) : State := ((s.endExchange).tellOutcome o false).missed i

/-- A frame is an answer of a slot: its source is the slot addressed, its destination 0 or 14 (R12). -/
def isAnswer (i : Fin 6) (f : Frame) : Bool := f.src == slotAddress i && (f.dest == 0 || f.dest == terminal)

/-- The M-line assembler completes a valid frame (R12); outside a single-slot exchange nothing is accepted. -/
def State.moduleFrame (f : Frame) (s : State) : State :=
  match s.exchange with
  | some ⟨.slot i, o, _⟩ => if isAnswer i f then s.endValid i o f else s.endInvalid i o
  | some ⟨.group, _, _⟩ => s
  | none => s

/-- The frame in assembly of a single-slot exchange is discarded, or its window passes (R12). -/
def State.noAnswer (s : State) : State :=
  match s.exchange with
  | some ⟨.slot i, o, _⟩ => s.endInvalid i o
  | some ⟨.group, _, _⟩ => s
  | none => s

/-- The M-line receiver accepts characters: a single-slot exchange is in progress (R12). -/
def State.mAccepts (s : State) : Bool :=
  match s.exchange with
  | some ⟨.slot _, _, _⟩ => true
  | some ⟨.group, _, _⟩ => false
  | none => false

/-- ANSWER_WINDOW_EXPIRY: 25 ms with no LEAD taken into ASSEMBLING (R12). -/
def State.windowPasses (s : State) : State := if s.mRx.asm = .hunting then s.noAnswer else s

/-- GROUP_EXCHANGE_END (R12). -/
def State.groupEnds (s : State) : State :=
  match s.exchange with
  | some ⟨.group, _, _⟩ => s.endExchange
  | some ⟨.slot _, _, _⟩ => s
  | none => s

end Sys2Proof.Machine
end

