-- ==== Sys2Proof/WellFormed.lean ====
section
/-! DEFINITION. Which commands a partner can send at all: a payload fits its COUNT, a downward frame goes to a slot or
to the group, and a LOAD's table check and entry count stand in segment 0 alone. Every other operand is well formed by its type. -/

namespace Sys2Proof

/-- The payload fits the COUNT byte's range (R3, R176). -/
def Frame.wf (f : Frame) : Bool := f.payload.length ≤ Config.maxPayload

/-- The destinations of a downward frame: slots 1..6 and the group address 15 (R8). -/
def isDownwardDest (d : BitVec 4) : Bool := (1 ≤ d.toNat && d.toNat ≤ 6) || d.toNat == 15

/-- A LOAD's payload: 5 bytes, 9 for segment 0, and the entries (R178). -/
def loadLength (index : Byte) (entries : List Byte) : Nat :=
  (if index.toNat = 0 then 9 else 5) + entries.length

/-- The command is one that the spec's partners, pins and timers can produce. -/
def Instr.wf : Instr → Bool
  | .cLineFrame f => f.wf
  | .moduleAnswer f => f.wf
  | .downwardFrame d _ p => isDownwardDest d && p.length ≤ Config.maxPayload
  | .load _ _ index _ check count entries =>
    loadLength index entries ≤ Config.maxPayload && (index == 0 || (check == 0 && count == 0))
  | .characterArrival .. | .lineBreak .. | .gapExpiry .. | .silenceTimeout | .transmitFrameEnd | .setup ..
  | .alive | .query .. | .service .. | .inhibit .. | .discard .. | .activate .. | .clock .. | .sell ..
  | .topup .. | .cancel | .voucher | .reprint | .chuteClear | .tube .. | .writeOff .. | .clearTotals
  | .clearAll | .restart | .startAfterReply .. | .exchangeGrant | .answerWindowExpiry | .groupExchangeEnd
  | .reprobeDue .. | .secondAdvance | .oscillatorStop | .sensorRise .. | .sensorFall .. | .aLimitExpiry
  | .gapLimitExpiry | .acceptWaitExpiry | .returnWaitExpiry | .idleWaitExpiry | .doorChange .. | .leverPress
  | .pwmPeriod .. | .pullInCheck .. | .diverterChangeover | .exitPulse .. | .jamTimeout ..
  | .trailingWindowEnd .. | .writeTimeout | .cutTimeout | .roomAskDelay | .powerReturn .. | .mainPowerLoss
  | .resetHeld | .resetRelease .. | .hundredthAdvance | .timeBaseRunsAgain | .backupSupplyFailure => true

end Sys2Proof
end

