-- ==== Sys2Proof/Machine/Requests.lean ====
section
/-! DEFINITION. C-line frames: what every valid frame does (R7), its disposition (R5), the reading of request payloads
(R177, R178), and the requests of the part state, the clock and the queries (R18 to R21, R29, R36, R172, R174). -/

namespace Sys2Proof.Machine

/-! ## Line receivers' stores (R2, R4) -/

/-- One more in a tally (R4). -/
def bump (n : Nat) : Nat := satAdd n 1

/-- The characters a receive FIFO holds; breaks and gap expiries stand between them and take no entry (R2). -/
def charCount (q : List RxItem) : Nat :=
  (q.filter fun x => match x with | .char .. => true | .brk | .gap => false).length

/-- The tallies of a character as it arrives (R4). -/
def Tallies.ofChar (parityError framingError : Bool) (t : Tallies) : Tallies :=
  { t with parity := if parityError then bump t.parity else t.parity
           framing := if framingError then bump t.framing else t.framing }

/-- A character arrives: it is stored with its marks, or discarded at a full FIFO (R2, R4). -/
def Receiver.store (value : Byte) (parityError framingError : Bool) (r : Receiver) : Receiver :=
  let t := r.tallies.ofChar parityError framingError
  if Config.fifoDepth ≤ charCount r.fifo then
    { r with tallies := { t with overrun := bump t.overrun }, overrunNext := true, gapRunning := true }
  else
    { r with fifo := r.fifo ++ [.char value parityError framingError r.overrunNext], overrunNext := false
             gapRunning := true, tallies := t }

/-- The characters of a whole frame arrive without an error (R2, R176). -/
def State.storeFrame (f : Frame) (s : State) : State :=
  { s with cRx := (frameBytes f).foldl (fun r b => r.store b false false) s.cRx }

/-! ## What every valid frame does (R7) -/

/-- A valid C-line frame ends DETACHED and restarts the silence timer, before it is disposed of (R7). -/
def State.frameSeen (s : State) : State :=
  let t := { s with detached := false, silenceRunning := s.silenceLimit != 0 }
  if s.detached then t.entryTest else t

/-! ## The part state's requests -/

/-- A request other than SETUP, QUERY or ALIVE is refused SETUP in UNSET; any other goes to its owner (R5, R18). -/
def State.gated (kind : Byte) (serve : State → State) (s : State) : State :=
  if s.part = .unset then s.refuse kind .setup else serve s

/-- The six roles that six codes name; none where one names no role (R19). -/
def rolesOf (codes : Vector Byte 6) : Option (Vector Role 6) :=
  if codes.toList.all fun c => (roleOf c).isSome then some (codes.map fun c => (roleOf c).getD .none) else none

/-- How many slots have a role. -/
def roleCount (r : Role) (v : Vector Role 6) : Nat := (v.toList.filter (· == r)).length

/-- A slot as SETUP leaves it: an assigned slot ABSENT with its re-probe due (R16). -/
def Slot.assigned (r : Role) : Slot := if r = .none then .unassigned else ⟨r, false, 0, .due⟩

/-- A silence limit is 0 or 2..60 seconds (R7, R19). -/
def silenceOk (n : Nat) : Bool := n == 0 || (2 ≤ n && n ≤ 60)

/-- An accepted SETUP (R19). -/
def State.setUp (id rate : Nat) (roles : Vector Role 6) (silence : Nat) (s : State) : State :=
  ({ s with part := .ready, machineId := id, mRate := rate, slots := roles.map Slot.assigned, lastPolled := 5
            silenceLimit := silence, silenceRunning := silence != 0 }).entryTest

/-- SETUP (R16, R19). -/
def State.serveSetup (id : Word16) (rate : Byte) (codes : Vector Byte 6) (silence : Byte) (s : State) : State :=
  if s.part ≠ .unset then s.refuse Kind.setup .state
  else match mRateOf rate, rolesOf codes with
    | some r, some roles =>
      if id = 0 ∨ 1 < roleCount .card roles ∨ 1 < roleCount .printer roles ∨ !silenceOk silence.toNat then
        s.refuse Kind.setup .range
      else (s.setUp id.toNat r roles silence.toNat).reply Kind.setup .accepted
    | none, _ | _, none => s.refuse Kind.setup .range

/-- ALIVE (R5). -/
def State.serveAlive (s : State) : State := s.reply Kind.alive .alive

/-- SERVICE ON is refused STATE in READY (R20). -/
def State.serviceRefused (s : State) : Bool := s.purchase != .idle || s.chute.state.coinInFlight

/-- SERVICE (R20). -/
def State.serveService (on : Bool) (s : State) : State :=
  if on then
    if s.part = .ready ∧ s.serviceRefused then s.refuse Kind.service .state
    else (({ s with part := .service }).entryTest).reply Kind.service (.service .service)
  else (({ s with part := .ready }).entryTest).reply Kind.service (.service .ready)

/-- INHIBIT (R21). -/
def State.serveInhibit (on : Bool) (s : State) : State :=
  (({ s with inhibit := on }).entryTest).reply Kind.inhibit (.inhibit s.inhibit)

/-- RESTART (R172). -/
def State.serveRestart (s : State) : State := s.replyThenStart Kind.restart .accepted .restart

/-- CLEAR ALL (R174). -/
def State.serveClearAll (s : State) : State :=
  if s.part ≠ .service then s.refuse Kind.clearAll .service
  else if !s.retained.ledger.noMoney then s.refuse Kind.clearAll .state
  else if !s.retained.journal.isEmpty then s.refuse Kind.clearAll .state
  else s.replyThenStart Kind.clearAll (.clearAll s.retained.ledger.totals s.retained.txn) .clearAll

/-! ## The clock (R36) -/

/-- The clock set by CLOCK (R36). -/
def Clock.setTo (day second dayOfWeek : Nat) (c : Clock) : Clock :=
  { c with day := day, second := second, hundredth := 0, dayOfWeek := dayOfWeek, valid := true }

/-- CLOCK (R36, R43). -/
def State.serveClock (day second dayOfWeek : Nat) (s : State) : State :=
  if 86399 < second ∨ dayOfWeek < 1 ∨ 7 < dayOfWeek then s.refuse Kind.clock .range
  else
    let p := ({ s with clock := s.clock.setTo day second dayOfWeek }).testSchedules
    p.2.reply Kind.clock (.clock s.clock p.1)

/-! ## QUERY (R29) -/

/-- The state header (R29). -/
def State.header (s : State) : StateHeader := ⟨s.part, s.detached, s.inhibit, s.freeSlots⟩

/-- The tubes as QUERY TUBES shows them (R29). -/
def State.tubesView (s : State) : Vector TubeView 4 :=
  Vector.ofFn fun i => ⟨s.tubeCount i, s.tubeCapacity i, s.tubeLowMark i, (s.tubes.get i).faulted⟩

/-- A kind as QUERY TABLES shows it (R29). -/
def State.tableView (s : State) (k : TableKind) : TableView :=
  let l := s.loads.get k
  ⟨s.retained.generation k, l.st, l.generation, l.total, l.segments.length, if l.st = .bad then l.bad else none, l.due,
    l.fallen⟩

/-- The purchase as QUERY PURCHASE shows it (R29). -/
def State.purchaseView (s : State) : PurchaseView :=
  let l := s.retained.ledger
  { state := s.purchase, c := l.c, k := l.k, pp := l.pp, h := l.h
    op := s.retained.op.map fun o => (o.kind, o.txn, o.amount)
    bound := s.card.binding.map fun b => (b.card, b.blocked) }

/-- What a QUERY of a topic and an index shows; none for an index outside the topic's range or an unknown topic (R29). -/
def State.queryBody (topic index : Nat) (s : State) : Option QueryBody :=
  match topic, index with
  | 0, 0 => some (.totals s.retained.ledger.totals)
  | 0, 1 => some (.coinCounts s.retained.accepted s.retained.returned)
  | 1, 0 => some (.tubes s.tubesView)
  | 2, i => if i ≤ 7 then some (.journal s.retained.journal[i]?) else none
  | 3, 0 => some (.lines s.cRx.tallies s.mRx.tallies)
  | 4, 0 => some (.tables (s.tableView .coin))
  | 4, 1 => some (.tables (s.tableView .fare))
  | 4, 2 => some (.tables (s.tableView .hotlist))
  | 4, 3 => some (.tables (s.tableView .passage))
  | 4, 4 => some (.tables (s.tableView .template))
  | 5, 0 => some (.clock s.clock)
  | 6, 0 => some (.purchase s.purchaseView)
  | _, _ => none

/-- The ten tallies become 0 (R4). -/
def State.clearTallies (s : State) : State :=
  { s with cRx := { s.cRx with tallies := .zero }, mRx := { s.mRx with tallies := .zero } }

/-- QUERY (R4, R29). -/
def State.serveQuery (topic index : Byte) (s : State) : State :=
  match s.queryBody topic.toNat index.toNat with
  | none => s.refuse Kind.query .range
  | some b => (if topic = 3 then s.clearTallies else s).reply Kind.query (.query s.header b)

/-! ## Each request as it is taken (R5) -/

/-- SETUP. -/
def State.takeSetup (id : Word16) (rate : Byte) (roles : Vector Byte 6) (silence : Byte) (s : State) : State :=
  s.serveSetup id rate roles silence

/-- LOAD: the FORMAT checks of its entries come first, and a refusal adds the load state fields (R5, R177, R178). -/
def State.takeLoad (kind : TableKind) (generation : Word16) (index total : Byte) (check count : Word16)
    (entries : List Byte) (s : State) : State :=
  if !loadFormatOk kind generation.toNat index.toNat entries (s.loads.get kind) then s.refuseLoad kind .format
  else if s.part = .unset then s.refuseLoad kind .setup
  else s.serveLoad kind generation.toNat index.toNat total.toNat check.toNat count.toNat entries

/-- ACTIVATE; a due point outside its encodings is the operand's own (R177). -/
def State.takeActivate (kind : TableKind) (generation : Word16) (due : Due) (s : State) : State :=
  s.gated Kind.activate (State.serveActivate kind generation due)

/-- SELL. -/
def State.takeSell (product zones : Byte) (concession : Fin 8) (medium : Medium) (keep : Bool) (s : State) : State :=
  s.gated Kind.sell (State.serveSell ⟨product.toNat, zones.toNat, concession.val, medium, keep⟩)

/-- CLOCK. -/
def State.takeClock (day : Word16) (second : Word32) (dayOfWeek : Byte) (s : State) : State :=
  s.gated Kind.clock (State.serveClock day.toNat second.toNat dayOfWeek.toNat)

/-- TUBE. -/
def State.takeTube (tube count : Byte) (s : State) : State :=
  s.gated Kind.tube (State.serveTube tube.toNat count.toNat)

/-- A request goes to the block that owns it (R5); a command that is no request does nothing here. -/
def State.takeRequest (i : Instr) (s : State) : State :=
  match i with
  | .setup id rate roles silence => s.takeSetup id rate roles silence
  | .alive => s.serveAlive
  | .query topic index => s.serveQuery topic index
  | .service on => s.gated Kind.service (State.serveService on)
  | .inhibit on => s.gated Kind.inhibit (State.serveInhibit on)
  | .load k g i t c n es => s.takeLoad k g i t c n es
  | .discard k => s.gated Kind.discard (State.serveDiscard k)
  | .activate k g d => s.takeActivate k g d
  | .clock d sec dow => s.takeClock d sec dow
  | .sell p z c m keep => s.takeSell p z c m keep
  | .topup a r => s.gated Kind.topup (State.serveTopup a r)
  | .cancel => s.gated Kind.cancel State.serveCancel
  | .voucher => s.gated Kind.voucher State.serveVoucher
  | .reprint => s.gated Kind.reprint State.serveReprint
  | .chuteClear => s.gated Kind.chuteClear State.serveChuteClear
  | .tube t n => s.takeTube t n
  | .writeOff txn => s.gated Kind.writeOff (State.serveWriteOff txn.toNat)
  | .clearTotals => s.gated Kind.clearTotals State.serveClearTotals
  | .clearAll => s.gated Kind.clearAll State.serveClearAll
  | .restart => s.gated Kind.restart State.serveRestart
  | .characterArrival .. | .lineBreak .. | .gapExpiry .. | .cLineFrame .. | .silenceTimeout | .transmitFrameEnd
  | .downwardFrame .. | .startAfterReply .. | .exchangeGrant | .moduleAnswer .. | .answerWindowExpiry
  | .groupExchangeEnd | .reprobeDue .. | .secondAdvance | .oscillatorStop | .sensorRise .. | .sensorFall ..
  | .aLimitExpiry | .gapLimitExpiry | .acceptWaitExpiry | .returnWaitExpiry | .idleWaitExpiry | .doorChange ..
  | .leverPress | .pwmPeriod .. | .pullInCheck .. | .diverterChangeover | .exitPulse .. | .jamTimeout ..
  | .trailingWindowEnd .. | .writeTimeout | .cutTimeout | .roomAskDelay | .powerReturn .. | .mainPowerLoss
  | .resetHeld | .resetRelease .. | .hundredthAdvance | .timeBaseRunsAgain | .backupSupplyFailure => s

/-! ## Reading a request (R177, R178) -/

/-- Two bytes as a 16-bit number. -/
def word16 (a b : Byte) : Word16 := b ++ a

/-- Four bytes as a 32-bit number. -/
def word32 (a b c d : Byte) : Word32 := d ++ (c ++ (b ++ a))

/-- A request with no payload. -/
def bare (i : Instr) (p : List Byte) : Option Instr := if p.isEmpty then some i else none

/-- SETUP's payload. -/
def setupOf : List Byte → Option Instr
  | [a, b, rate, r1, r2, r3, r4, r5, r6, silence] =>
    some (.setup (word16 a b) rate #v[r1, r2, r3, r4, r5, r6] silence)
  | _ => none

/-- LOAD's payload; segment 0 carries the table check and the entry count. -/
def loadOf : List Byte → Option Instr
  | k :: a :: b :: index :: total :: rest =>
    (tableKindOf k).bind fun kind =>
      if index = 0 then
        match rest with
        | c :: d :: m :: n :: entries => some (.load kind (word16 a b) index total (word16 c d) (word16 m n) entries)
        | _ => none
      else some (.load kind (word16 a b) index total 0 0 rest)
  | _ => none

/-- ACTIVATE's payload; NOW carries day and second 0. -/
def activateOf : List Byte → Option Instr
  | [k, a, b, due, d0, d1, s0, s1, s2, s3] =>
    (tableKindOf k).bind fun kind =>
      if due = 0 then
        if [d0, d1, s0, s1, s2, s3].all (· == 0) then some (.activate kind (word16 a b) .now) else none
      else if due = 1 then some (.activate kind (word16 a b) (.at (word16 d0 d1) (word32 s0 s1 s2 s3)))
      else none
  | _ => none

/-- SELL's payload. -/
def sellOf : List Byte → Option Instr
  | [product, zones, concession, medium, keep] =>
    if h : concession.toNat < 8 then
      (mediumOf medium).bind fun m => (flagOf keep).map fun k => .sell product zones ⟨concession.toNat, h⟩ m k
    else none
  | _ => none

/-- The requests that carry one flag. -/
def flagRequest (i : Bool → Instr) : List Byte → Option Instr
  | [b] => (flagOf b).map i
  | _ => none

/-- The requests that carry a few bytes. -/
def shortOf (kind : Nat) (p : List Byte) : Option Instr :=
  match kind, p with
  | 4, [topic, index] => some (.query topic index)
  | 8, [k] => (tableKindOf k).map .discard
  | 10, [a, b, s0, s1, s2, s3, dow] => some (.clock (word16 a b) (word32 s0 s1 s2 s3) dow)
  | 12, [a, b, r] => (flagOf r).map (.topup (word16 a b))
  | 17, [t, n] => some (.tube t n)
  | 18, [a, b, c, d] => some (.writeOff (word32 a b c d))
  | _, _ => none

/-- The request that a KIND and a payload spell; none is REFUSED FORMAT (R5, R177). -/
def requestOf (kind : Byte) (p : List Byte) : Option Instr :=
  match kind.toNat with
  | 2 => setupOf p
  | 3 => bare .alive p
  | 5 => flagRequest .service p
  | 6 => flagRequest .inhibit p
  | 7 => loadOf p
  | 9 => activateOf p
  | 11 => sellOf p
  | 13 => bare .cancel p
  | 14 => bare .voucher p
  | 15 => bare .reprint p
  | 16 => bare .chuteClear p
  | 19 => bare .clearTotals p
  | 20 => bare .clearAll p
  | 21 => bare .restart p
  | k => shortOf k p

/-! ## Disposition (R5) -/

/-- REFUSED FORMAT of a request; a LOAD naming a table kind adds the load state fields (R177, assumption 20). -/
def State.refuseFormat (kind : Byte) (p : List Byte) (s : State) : State :=
  match if kind = Kind.load then p.head?.bind tableKindOf else none with
  | some k => s.refuseLoad k .format
  | none => s.refuse kind .format

/-- A frame to 0 from the terminal processor (R5, disposition 2). -/
def State.disposeRequest (kind : Byte) (p : List Byte) (s : State) : State :=
  match requestOf kind p with
  | some i => s.takeRequest i
  | none => s.refuseFormat kind p

/-- A frame to a slot or to the group from the terminal processor (R5, disposition 3). -/
def State.disposeDownward (f : Frame) (s : State) : State :=
  if s.part = .unset then s.refuse f.kind .setup else s.passDown f

/-- The disposition of a valid C-line frame (R5). -/
def State.disposeFrame (f : Frame) (s : State) : State :=
  if f.src ≠ terminal then s.refuse f.kind .format
  else if f.dest = 0 then s.disposeRequest f.kind f.payload
  else if isDownwardDest f.dest then s.disposeDownward f
  else s.refuse f.kind .format

/-- A whole frame arrives on the C-line: it is taken at once, or its characters wait in the FIFO while the assembler takes
none (R5, assumption 8). -/
def State.onCLine (f : Frame) (serve : State → State) (s : State) : State :=
  if !s.running then s else if s.cStalled then s.storeFrame f else serve s.frameSeen

/-- A request command: its frame arrives on the C-line, and its owner serves it. -/
def State.onRequest (i : Instr) (serve : State → State) (s : State) : State :=
  match frameOfRequest i with
  | some f => s.onCLine f serve
  | none => s

end Sys2Proof.Machine
end

