-- ==== Sys2Proof/Machine/Lines.lean ====
section
/-! DEFINITION. The line receivers and frame assemblers at work (R2 to R4, R12), the C-line transmitter (R6) and the silence
timer's expiry (R7). -/

namespace Sys2Proof.Machine

/-! ## The frame assembler (R3) -/

/-- What taking one item from the FIFO comes to. -/
inductive AsmEvent where
  | none
  | frame (f : Frame)
  /-- The frame in assembly is discarded. -/
  | discarded
  deriving DecidableEq, Repr

/-- The check tally grows (R4). -/
def Tallies.bumpCheck (t : Tallies) : Tallies := { t with check := bump t.check }

/-- The timeout tally grows (R4). -/
def Tallies.bumpTimeout (t : Tallies) : Tallies := { t with timeout := bump t.timeout }

/-- The framing tally grows (R4). -/
def Tallies.bumpFraming (t : Tallies) : Tallies := { t with framing := bump t.framing }

/-- The outcome of one item taken: the assembler, what it comes to, the tallies. -/
structure AsmStep where
  asm : Assembler
  event : AsmEvent
  tallies : Tallies
  deriving DecidableEq, Repr

/-- The CHECK character has been taken: a damaged frame is discarded without further tally, a frame whose sum fails is
discarded and tallied, any other is valid (R3). -/
def frameComplete (taken : List Byte) (damaged : Bool) (t : Tallies) : AsmStep :=
  if damaged then ⟨.hunting, .discarded, t⟩
  else if byteSum taken % 256 ≠ 0 then ⟨.hunting, .discarded, t.bumpCheck⟩
  else ⟨.hunting, .frame (frameOf taken), t⟩

/-- A character taken in ASSEMBLING, as the last of those taken after LEAD (R3). -/
def assemble (taken : List Byte) (damaged : Bool) (t : Tallies) : AsmStep :=
  let count := (taken.getD 2 0).toNat
  if taken.length = 3 ∧ Config.maxPayload < count then ⟨.hunting, .discarded, t.bumpCheck⟩
  else if taken.length = count + 4 then frameComplete taken damaged t
  else ⟨.assembling taken damaged, .none, t⟩

/-- The assembler takes the next item of its FIFO (R3). -/
def asmTake (x : RxItem) (a : Assembler) (t : Tallies) : AsmStep :=
  match a, x with
  | .hunting, .char v pe fe _ =>
    if v = leadByte ∧ !pe ∧ !fe then ⟨.assembling [] false, .none, t⟩ else ⟨.hunting, .none, t⟩
  | .hunting, .brk => ⟨.hunting, .none, t⟩
  | .hunting, .gap => ⟨.hunting, .none, t⟩
  | .assembling taken d, .char v pe fe ov => assemble (taken ++ [v]) (d || pe || fe || ov) t
  | .assembling _ _, .brk => ⟨.hunting, .discarded, t⟩
  | .assembling _ _, .gap => ⟨.hunting, .discarded, t.bumpTimeout⟩

/-- A receiver after one item is taken from it. -/
def Receiver.took (rest : List RxItem) (o : AsmStep) (r : Receiver) : Receiver :=
  { r with fifo := rest, asm := o.asm, tallies := o.tallies }

/-- The C-line assembler takes characters until its FIFO is empty or it may take none (R3, R5); fuel bounds the items. -/
def State.pumpC : Nat → State → State
  | 0, s => s
  | n + 1, s =>
    if s.cStalled then s
    else match s.cRx.fifo with
      | [] => s
      | x :: rest =>
        let o := asmTake x s.cRx.asm s.cRx.tallies
        let s := { s with cRx := s.cRx.took rest o }
        match o.event with
        | .none | .discarded => s.pumpC n
        | .frame f => (s.frameSeen.disposeFrame f).pumpC n

/-- The M-line assembler takes characters while the receiver accepts them (R3, R12). -/
def State.pumpM : Nat → State → State
  | 0, s => s
  | n + 1, s =>
    if !s.mAccepts then s
    else match s.mRx.fifo with
      | [] => s
      | x :: rest =>
        let o := asmTake x s.mRx.asm s.mRx.tallies
        let s := { s with mRx := s.mRx.took rest o }
        match o.event with
        | .none => s.pumpM n
        | .discarded => s.noAnswer.pumpM n
        | .frame f => (s.moduleFrame f).pumpM n

/-- Run the C-line assembler over what its FIFO holds. -/
def State.runC (s : State) : State := s.pumpC s.cRx.fifo.length

/-- Run the M-line assembler over what its FIFO holds. -/
def State.runM (s : State) : State := s.pumpM s.mRx.fifo.length

/-! ## Receivers (R2) -/

/-- The parity bit gives even parity over the 8 data bits and itself (R1, R2). -/
def evenParity (value : Byte) (parity : Bool) : Bool :=
  ((List.range 8).foldl (fun p i => xor p (value.getLsbD i)) parity) == false

/-- An item joins the FIFO where it arose (R2). -/
def Receiver.deliver (x : RxItem) (r : Receiver) : Receiver := { r with fifo := r.fifo ++ [x] }

/-- A break is delivered; it tallies as framing, and the gap timer restarts at its end (R2, R4). -/
def Receiver.takeBreak (r : Receiver) : Receiver :=
  { r.deliver .brk with gapRunning := true, tallies := r.tallies.bumpFraming }

/-- The gap timer expires (R2). -/
def Receiver.takeGap (r : Receiver) : Receiver := { r.deliver .gap with gapRunning := false }

/-- Something happens at a line's receiver, and its assembler runs; an M-line receiver that is not accepting delivers
nothing (R2, R12). -/
def State.onReceiver (l : Line) (f : Receiver → Receiver) (s : State) : State :=
  match l with
  | .cLine => ({ s with cRx := f s.cRx }).runC
  | .mLine => if s.mAccepts then ({ s with mRx := f s.mRx }).runM else s

/-- CHARACTER_ARRIVAL (R2 to R4). -/
def State.characterArrives (l : Line) (value : Byte) (parity stopMark : Bool) (s : State) : State :=
  s.onReceiver l (Receiver.store value (!evenParity value parity) (!stopMark))

/-- BREAK (R2). -/
def State.breakArrives (l : Line) (s : State) : State := s.onReceiver l Receiver.takeBreak

/-- A line's gap timer runs. -/
def State.gapRuns (s : State) : Line → Bool
  | .cLine => s.cRx.gapRunning
  | .mLine => s.mRx.gapRunning

/-- GAP_EXPIRY of a running gap timer (R2, R3). -/
def State.gapExpires (l : Line) (s : State) : State := if s.gapRuns l then s.onReceiver l Receiver.takeGap else s

/-! ## The C-line transmitter (R6) -/

/-- An idle transmitter takes its next frame: the oldest reply, the upward queue's head, the report queue's head (R6). -/
def State.takeNext (s : State) : State :=
  match s.replies, s.upwardQ, s.reports with
  | r :: rs, _, _ => { s with replies := rs, sending := some ⟨r.frame, r.start⟩ }
  | [], f :: fs, _ => { s with upwardQ := fs, sending := some ⟨f, none⟩ }
  | [], [], r :: rs => { s with reports := rs, sending := some ⟨r.frame, none⟩ }
  | [], [], [] => { s with sending := none }

/-- The reply being sent is one that a start follows (R172). -/
def State.startReplySent (s : State) : Option StartCause := s.sending.bind Sending.start

/-- A frame waits for the transmitter (R6). -/
def State.frameWaits (s : State) : Bool := !(s.replies.isEmpty && s.upwardQ.isEmpty && s.reports.isEmpty)

/-- The transmitter, each time it is idle, takes its next frame where one waits, and the C-line assembler then takes what it
may; every event that can leave a frame waiting ends so, the event itself being taken whole first (R5, R6, assumption 10). -/
def State.transmit (s : State) : State :=
  if s.running && s.sending.isNone && s.frameWaits then s.takeNext.runC else s

/-- TRANSMIT_FRAME_END: the frame being sent is finished, and the transmitter is idle; the reply that a start follows ends
by START_AFTER_REPLY instead (R6, R172, assumption 11). -/
def State.transmitEnds (s : State) : State := if s.startReplySent.isSome then s else { s with sending := none }

/-- SILENCE_TIMEOUT (R7). -/
def State.silenceExpires (s : State) : State :=
  if s.silenceRunning then ({ s with detached := true, silenceRunning := false }).entryTest else s

end Sys2Proof.Machine
end

