-- ==== Sys2Proof/Machine/Start.lean ====
section
/-! DEFINITION. The depot clock's count (R33 to R35, R43), retained memory's check (R171), and the starts: their causes
(R172), the warm resolution (R101, R173), the cold start (R174), the start values and the START report (R175). -/

namespace Sys2Proof.Machine

/-! ## The depot clock (R33 to R35) -/

/-- The day roll: the day and the day of week advance, and the roll from day 65535 clears the valid flag (R34). -/
def Clock.dayRoll (c : Clock) : Clock :=
  { c with day := if 65535 ≤ c.day then 0 else c.day + 1
           dayOfWeek := if 7 ≤ c.dayOfWeek then 1 else c.dayOfWeek + 1
           valid := c.valid && decide (c.day < 65535) }

/-- The hundredth passes to 0 and the second advances (R33). -/
def Clock.nextSecond (c : Clock) : Clock :=
  if 86399 ≤ c.second then { c.dayRoll with second := 0, hundredth := 0 }
  else { c with second := c.second + 1, hundredth := 0 }

/-- SECOND_ADVANCE: the clock counts while its time base runs, on either supply; the schedules are tested while the part
takes events (R33, R43, R172). -/
def State.secondAdvances (s : State) : State :=
  if !s.clock.running then s
  else
    let s := { s with clock := s.clock.nextSecond }
    if s.running then s.testSchedules.2 else s

/-- HUNDREDTH_ADVANCE: within the second one more; from 99 the second advances (R33). -/
def State.hundredthAdvances (s : State) : State :=
  if !s.clock.running then s
  else if s.clock.hundredth < 99 then { s with clock := { s.clock with hundredth := s.clock.hundredth + 1 } }
  else s.secondAdvances

/-- The detector latches a stop of the time base; with main power on it clears the valid flag at once (R35). -/
def Clock.stop (power : Bool) (c : Clock) : Clock :=
  if power then { c with running := false, valid := false, stopLatched := false }
  else { c with running := false, stopLatched := true }

/-- OSCILLATOR_STOP (R35). -/
def State.oscillatorStops (s : State) : State :=
  if s.clock.running then { s with clock := s.clock.stop s.power } else s

/-- TIME_BASE_RUNS_AGAIN: the fields count on from the values they held (R35). -/
def State.timeBaseRuns (s : State) : State := { s with clock := { s.clock with running := true } }

/-- The clock at a warm start: a latched stop clears the valid flag and is released (R35). -/
def Clock.warm (c : Clock) : Clock := if c.stopLatched then { c with valid := false, stopLatched := false } else c

/-- The clock at a cold start (R35, R174). -/
def Clock.cold (c : Clock) : Clock := ⟨0, 0, 0, 1, false, c.running, false⟩

/-! ## The warm resolution (R101, R173) -/

/-- What a start resolved, as START carries it (R175). -/
structure Resolved where
  retained : Retained
  operation : Option (OpKind × Nat × Interruption)
  payout : Option Money
  receipt : Option Nat
  deriving DecidableEq, Repr

/-- The interrupted operation: K to C as a void, or K to H with the ISSUED record made UNCERTAIN (R101, R173). -/
def resolveOp (r : Retained) : Retained × Option (OpKind × Nat × Interruption) :=
  match r.op with
  | none => (r, none)
  | some o =>
    match o.kind with
    | .printedSale | .voucher => ({ r with ledger := Move.void r.ledger, op := none }, some (o.kind, o.txn, .voided))
    | .cardSale | .topup =>
      ({ r with ledger := Move.hold r.ledger, op := none, journal := r.journal.map (JournalRecord.mark o.txn) },
       some (o.kind, o.txn, .uncertain))

/-- The interrupted payout: the whole of Pp to C (R101, R173). -/
def resolvePayout (r : Retained) : Retained × Option Money :=
  if r.ledger.pp = 0 then (r, none) else ({ r with ledger := Move.endPayout r.ledger }, some r.ledger.pp)

/-- The warm start's resolution, in the order of R173. -/
def warmResolve (r : Retained) : Resolved :=
  let p := resolveOp r
  let q := resolvePayout p.1
  ⟨{ q.1 with receiptMarker := none }, p.2, q.2, q.1.receiptMarker⟩

/-- A cold start's content, with nothing found (R174, R175). -/
def coldResolve : Resolved := ⟨.cleared, none, none, none⟩

/-! ## Start values -/

/-- The generations of the five active copies, in kind order. -/
def Retained.generations (r : Retained) : List (Option Nat) := allKinds.map r.generation

/-- The START report (R175). -/
def startReport (cold : Bool) (cause : StartCause) (r : Resolved) (c : Clock) : StartReport :=
  { cold := cold, cause := cause, c := r.retained.ledger.c, h := r.retained.ledger.h
    records := r.retained.journal.length, txn := r.retained.txn, clockValid := c.valid
    generations := r.retained.generations, operation := r.operation, payout := r.payout, receipt := r.receipt }

/-- Every block at its start values over a resolved content: the values of State.reset but for what a start keeps or
samples, with the transmitter idle (R1, R6, R44, R65, R83, R101, R145, R172). -/
def State.startValues (r : Resolved) (c : Clock) (pins : Pins) (s : State) : State :=
  { State.reset with
    power := s.power, resetHeld := s.resetHeld, retained := r.retained, cRate := cRateOf pins.rate1 pins.rate0, sending := none
    clock := c, chute := { State.reset.chute with active := pins.sensors }, doorOpen := pins.doorOpen
    purchase := if r.retained.ledger.c = 0 then .idle else .opened, pending := s.pending }

/-- The first PWM period begins at the start, with a COIN table (R83). -/
def State.firstPeriod (s : State) : State :=
  match s.coinTable with
  | none => s
  | some t => s.onCoils (·.periodStart t.header)

/-- A start, warm or cold: the low flags and the failing entry conditions are derived without a report, and START is
issued into the empty queue (R64, R147, R172, R175). -/
def State.boot (cold : Bool) (cause : StartCause) (pins : Pins) (s : State) : State :=
  let r := if cold then coldResolve else warmResolve s.retained
  let c := if cold then s.clock.cold else s.clock.warm
  let t := (s.startValues r c pins).withLows.firstPeriod
  { t with causes := t.failing, reports := [.start (startReport cold cause r c)] }

/-- A start that retained memory's check decides: warm where it is good, cold with cause CHECK where it is bad (R172). -/
def State.checkedStart (cause : StartCause) (pins : Pins) (s : State) : State :=
  if s.retainedGood then s.boot false cause pins else s.boot true .check pins

/-! ## Power and RESET (R172) -/

/-- The part takes no event: the lines are quiet, every coil and motor output is off (R172). -/
def State.quiet (s : State) : State :=
  { s with coils := s.coils.releaseAll, sending := none, exchange := none
           tubes := s.tubes.map fun t => { t with dispenser := .off } }

/-- POWER_RETURN: with RESET held, the start waits for its release (R172, assumption 13). -/
def State.powerReturns (pins : Pins) (s : State) : State :=
  if s.power then s
  else
    let s := { s with power := true }
    if s.resetHeld then s else s.checkedStart .power pins

/-- MAIN_POWER_LOSS (R172). -/
def State.powerFails (s : State) : State := if s.power then { s.quiet with power := false } else s

/-- RESET_HELD (R172). -/
def State.resetHolds (s : State) : State := { s.quiet with resetHeld := true }

/-- RESET_RELEASE: with main power off, the start waits for its return (R172, assumption 13). -/
def State.resetReleases (pins : Pins) (s : State) : State :=
  if !s.resetHeld then s
  else
    let s := { s with resetHeld := false }
    if s.power then s.checkedStart .reset pins else s

/-- BACKUP_SUPPLY_FAILURE damages retained memory only while main power is off (R171). -/
def State.backupFails (s : State) : State := if s.power then s else { s with retainedGood := false }

/-- START_AFTER_REPLY: the RESTART or CLEAR ALL reply has been sent to its end (R172, R174). -/
def State.startAfterReply (pins : Pins) (s : State) : State :=
  match s.startReplySent with
  | none => s
  | some .clearAll => s.boot true .clearAll pins
  | some c => s.boot false c pins

end Sys2Proof.Machine
end

