-- ==== Sys2Proof/Machine/Commands.lean ====
section
/-! DEFINITION. The meaning of every command, one definition for each row of spec/opcode_table.json, over the operations of
the blocks. An event finds the part unchanged while it takes no event (R172). -/

namespace Sys2Proof.Machine

/-- The outcome of a command: the state it leaves, in which an idle transmitter has taken what waits for it (R6). -/
def State.done (s : State) : Host.Outcome State Fault Refusal := .next s.transmit

/-- An event at a pin, a line or a timer: it is taken while the part takes events, and lost while main power is off or the
RESET pin is held (R172). -/
def State.event (f : State → State) (s : State) : Host.Outcome State Fault Refusal :=
  if s.running then (f s).done else .next s

/-- CHARACTER_ARRIVAL (R2 to R4). -/
def execCharacterArrival (line : Line) (value : Byte) (parity stopMark : Bool)
    (s : State) : Host.Outcome State Fault Refusal :=
  s.event (State.characterArrives line value parity stopMark)

/-- BREAK (R2, R3). -/
def execLineBreak (line : Line) (s : State) : Host.Outcome State Fault Refusal :=
  s.event (State.breakArrives line)

/-- GAP_EXPIRY (R2, R3). -/
def execGapExpiry (line : Line) (s : State) : Host.Outcome State Fault Refusal :=
  s.event (State.gapExpires line)

/-- C_LINE_FRAME (R5, R7). -/
def execCLineFrame (f : Frame) (s : State) : Host.Outcome State Fault Refusal :=
  (s.onCLine f (State.disposeFrame f)).done

/-- SILENCE_TIMEOUT (R7). -/
def execSilenceTimeout (s : State) : Host.Outcome State Fault Refusal :=
  s.event State.silenceExpires

/-- TRANSMIT_FRAME_END (R6). -/
def execTransmitFrameEnd (s : State) : Host.Outcome State Fault Refusal :=
  s.event State.transmitEnds

/-- DOWNWARD_FRAME: a frame from 14 to a slot or to the group (R5, R8). -/
def execDownwardFrame (dest : BitVec 4) (kind : Byte) (payload : List Byte)
    (s : State) : Host.Outcome State Fault Refusal :=
  (s.onCLine ⟨dest, terminal, kind, payload⟩ (State.disposeFrame ⟨dest, terminal, kind, payload⟩)).done

/-- SETUP (R16, R19). -/
def execSetup (machineId : Word16) (rate : Byte) (roles : Vector Byte 6) (silence : Byte)
    (s : State) : Host.Outcome State Fault Refusal :=
  (s.onRequest (.setup machineId rate roles silence) (State.takeSetup machineId rate roles silence)).done

/-- ALIVE (R5). -/
def execAlive (s : State) : Host.Outcome State Fault Refusal :=
  (s.onRequest .alive State.serveAlive).done

/-- QUERY (R4, R29). -/
def execQuery (topic index : Byte) (s : State) : Host.Outcome State Fault Refusal :=
  (s.onRequest (.query topic index) (State.serveQuery topic index)).done

/-- SERVICE (R20). -/
def execService (on : Bool) (s : State) : Host.Outcome State Fault Refusal :=
  (s.onRequest (.service on) (State.gated Kind.service (State.serveService on))).done

/-- INHIBIT (R21). -/
def execInhibit (on : Bool) (s : State) : Host.Outcome State Fault Refusal :=
  (s.onRequest (.inhibit on) (State.gated Kind.inhibit (State.serveInhibit on))).done

/-- LOAD (R23, R24). -/
def execLoad (kind : TableKind) (generation : Word16) (index total : Byte) (check count : Word16) (entries : List Byte)
    (s : State) : Host.Outcome State Fault Refusal :=
  (s.onRequest (.load kind generation index total check count entries)
    (State.takeLoad kind generation index total check count entries)).done

/-- DISCARD (R25). -/
def execDiscard (kind : TableKind) (s : State) : Host.Outcome State Fault Refusal :=
  (s.onRequest (.discard kind) (State.gated Kind.discard (State.serveDiscard kind))).done

/-- ACTIVATE (R26 to R28). -/
def execActivate (kind : TableKind) (generation : Word16) (due : Due)
    (s : State) : Host.Outcome State Fault Refusal :=
  (s.onRequest (.activate kind generation due) (State.takeActivate kind generation due)).done

/-- CLOCK (R36, R37, R43). -/
def execClock (day : Word16) (second : Word32) (dayOfWeek : Byte) (s : State) : Host.Outcome State Fault Refusal :=
  (s.onRequest (.clock day second dayOfWeek) (State.takeClock day second dayOfWeek)).done

/-- SELL (R107, R108, R117). -/
def execSell (product zones : Byte) (concession : Fin 8) (medium : Medium) (keepCredit : Bool)
    (s : State) : Host.Outcome State Fault Refusal :=
  (s.onRequest (.sell product zones concession medium keepCredit)
    (State.takeSell product zones concession medium keepCredit)).done

/-- TOPUP (R134 to R137). -/
def execTopup (amount : Word16) (receipt : Bool) (s : State) : Host.Outcome State Fault Refusal :=
  (s.onRequest (.topup amount receipt) (State.gated Kind.topup (State.serveTopup amount receipt))).done

/-- CANCEL (R156). -/
def execCancel (s : State) : Host.Outcome State Fault Refusal :=
  (s.onRequest .cancel (State.gated Kind.cancel State.serveCancel)).done

/-- VOUCHER (R157). -/
def execVoucher (s : State) : Host.Outcome State Fault Refusal :=
  (s.onRequest .voucher (State.gated Kind.voucher State.serveVoucher)).done

/-- REPRINT (R170). -/
def execReprint (s : State) : Host.Outcome State Fault Refusal :=
  (s.onRequest .reprint (State.gated Kind.reprint State.serveReprint)).done

/-- CHUTE CLEAR (R55, R81). -/
def execChuteClear (s : State) : Host.Outcome State Fault Refusal :=
  (s.onRequest .chuteClear (State.gated Kind.chuteClear State.serveChuteClear)).done

/-- TUBE (R146). -/
def execTube (tube count : Byte) (s : State) : Host.Outcome State Fault Refusal :=
  (s.onRequest (.tube tube count) (State.takeTube tube count)).done

/-- WRITE OFF (R141). -/
def execWriteOff (txn : Word32) (s : State) : Host.Outcome State Fault Refusal :=
  (s.onRequest (.writeOff txn) (State.gated Kind.writeOff (State.serveWriteOff txn.toNat))).done

/-- CLEAR TOTALS (R100). -/
def execClearTotals (s : State) : Host.Outcome State Fault Refusal :=
  (s.onRequest .clearTotals (State.gated Kind.clearTotals State.serveClearTotals)).done

/-- CLEAR ALL (R174). -/
def execClearAll (s : State) : Host.Outcome State Fault Refusal :=
  (s.onRequest .clearAll (State.gated Kind.clearAll State.serveClearAll)).done

/-- RESTART (R172). -/
def execRestart (s : State) : Host.Outcome State Fault Refusal :=
  (s.onRequest .restart (State.gated Kind.restart State.serveRestart)).done

/-- START_AFTER_REPLY (R172 to R175). -/
def execStartAfterReply (pins : Pins) (s : State) : Host.Outcome State Fault Refusal :=
  s.event (State.startAfterReply pins)

/-- EXCHANGE_GRANT (R12 to R14). -/
def execExchangeGrant (s : State) : Host.Outcome State Fault Refusal :=
  s.event State.grant

/-- MODULE_ANSWER (R11, R12, R15). -/
def execModuleAnswer (f : Frame) (s : State) : Host.Outcome State Fault Refusal :=
  s.event (State.moduleFrame f)

/-- ANSWER_WINDOW_EXPIRY (R12, R15). -/
def execAnswerWindowExpiry (s : State) : Host.Outcome State Fault Refusal :=
  s.event State.windowPasses

/-- GROUP_EXCHANGE_END (R12). -/
def execGroupExchangeEnd (s : State) : Host.Outcome State Fault Refusal :=
  s.event State.groupEnds

/-- REPROBE_DUE (R15). -/
def execReprobeDue (slot : Fin 6) (s : State) : Host.Outcome State Fault Refusal :=
  s.event (State.reprobeDue slot)

/-- SECOND_ADVANCE; the clock also counts while main power is off (R33, R34, R43). -/
def execSecondAdvance (s : State) : Host.Outcome State Fault Refusal :=
  s.secondAdvances.done

/-- OSCILLATOR_STOP; the detector also works while main power is off (R35). -/
def execOscillatorStop (s : State) : Host.Outcome State Fault Refusal :=
  .next s.oscillatorStops

/-- SENSOR_RISE (R45, R47 to R54, R62). -/
def execSensorRise (sensor : Sensor) (elapsed : Nat) (s : State) : Host.Outcome State Fault Refusal :=
  s.event (State.sensorRise sensor elapsed)

/-- SENSOR_FALL (R45, R47, R49, R54, R57 to R61). -/
def execSensorFall (sensor : Sensor) (elapsed : Nat) (s : State) : Host.Outcome State Fault Refusal :=
  s.event (State.sensorFall sensor elapsed)

/-- A_LIMIT_EXPIRY (R47, R49). -/
def execALimitExpiry (s : State) : Host.Outcome State Fault Refusal :=
  s.event State.aLimitPasses

/-- GAP_LIMIT_EXPIRY (R48). -/
def execGapLimitExpiry (s : State) : Host.Outcome State Fault Refusal :=
  s.event State.gapLimitPasses

/-- ACCEPT_WAIT_EXPIRY (R50). -/
def execAcceptWaitExpiry (s : State) : Host.Outcome State Fault Refusal :=
  s.event State.acceptWaitPasses

/-- RETURN_WAIT_EXPIRY (R51). -/
def execReturnWaitExpiry (s : State) : Host.Outcome State Fault Refusal :=
  s.event State.returnWaitPasses

/-- IDLE_WAIT_EXPIRY (R54). -/
def execIdleWaitExpiry (s : State) : Host.Outcome State Fault Refusal :=
  s.event State.idleWaitPasses

/-- DOOR_CHANGE (R65, R151). -/
def execDoorChange (isOpen : Bool) (s : State) : Host.Outcome State Fault Refusal :=
  s.event (State.doorChange isOpen)

/-- LEVER_PRESS (R66, R156). -/
def execLeverPress (s : State) : Host.Outcome State Fault Refusal :=
  s.event State.leverPress

/-- PWM_PERIOD (R70, R72, R75, R79). -/
def execPwmPeriod (sense : PerCoil Sense) (s : State) : Host.Outcome State Fault Refusal :=
  s.event (State.pwmPeriod sense)

/-- PULL_IN_CHECK (R79, R80). -/
def execPullInCheck (ends : PerCoil Bool) (sense : PerCoil Sense) (s : State) : Host.Outcome State Fault Refusal :=
  s.event (State.pullInCheck ends sense)

/-- DIVERTER_CHANGEOVER (R75). -/
def execDiverterChangeover (s : State) : Host.Outcome State Fault Refusal :=
  s.event State.diverterChangeover

/-- EXIT_PULSE (R95, R152). -/
def execExitPulse (tube : Fin 4) (s : State) : Host.Outcome State Fault Refusal :=
  s.event (State.exitPulse tube)

/-- JAM_TIMEOUT (R153). -/
def execJamTimeout (tube : Fin 4) (s : State) : Host.Outcome State Fault Refusal :=
  s.event (State.jamTimeout tube)

/-- TRAILING_WINDOW_END (R152). -/
def execTrailingWindowEnd (tube : Fin 4) (s : State) : Host.Outcome State Fault Refusal :=
  s.event (State.trailingEnds tube)

/-- WRITE_TIMEOUT (R138, R140). -/
def execWriteTimeout (s : State) : Host.Outcome State Fault Refusal :=
  s.event State.writeTimeout

/-- CUT_TIMEOUT (R168). -/
def execCutTimeout (s : State) : Host.Outcome State Fault Refusal :=
  s.event State.cutTimeout

/-- ROOM_ASK_DELAY (R164). -/
def execRoomAskDelay (s : State) : Host.Outcome State Fault Refusal :=
  s.event State.roomAskDelay

/-- POWER_RETURN (R172 to R175). -/
def execPowerReturn (pins : Pins) (s : State) : Host.Outcome State Fault Refusal :=
  (s.powerReturns pins).done

/-- MAIN_POWER_LOSS (R172). -/
def execMainPowerLoss (s : State) : Host.Outcome State Fault Refusal :=
  .next s.powerFails

/-- RESET_HELD (R172). -/
def execResetHeld (s : State) : Host.Outcome State Fault Refusal :=
  .next s.resetHolds

/-- RESET_RELEASE (R172 to R175). -/
def execResetRelease (pins : Pins) (s : State) : Host.Outcome State Fault Refusal :=
  (s.resetReleases pins).done

/-- HUNDREDTH_ADVANCE; the clock also counts while main power is off (R33). -/
def execHundredthAdvance (s : State) : Host.Outcome State Fault Refusal :=
  s.hundredthAdvances.done

/-- TIME_BASE_RUNS_AGAIN (R35). -/
def execTimeBaseRunsAgain (s : State) : Host.Outcome State Fault Refusal :=
  .next s.timeBaseRuns

/-- BACKUP_SUPPLY_FAILURE (R171). -/
def execBackupSupplyFailure (s : State) : Host.Outcome State Fault Refusal :=
  .next s.backupFails

end Sys2Proof.Machine
end

