-- ==== Sys2Proof/Machine/Dispatch.lean ====
section
/-! DEFINITION. The dispatch of a command to its meaning, one arm for each constructor of Instr. -/

namespace Sys2Proof.Machine

/-- A command's effect on everything but the queue. -/
def exec (i : Instr) (s : State) : Host.Outcome State Fault Refusal :=
  match i with
  | .characterArrival line value parity stopMark => Sys2Proof.Machine.execCharacterArrival line value parity stopMark s
  | .lineBreak line => Sys2Proof.Machine.execLineBreak line s
  | .gapExpiry line => Sys2Proof.Machine.execGapExpiry line s
  | .cLineFrame f => Sys2Proof.Machine.execCLineFrame f s
  | .silenceTimeout => Sys2Proof.Machine.execSilenceTimeout s
  | .transmitFrameEnd => Sys2Proof.Machine.execTransmitFrameEnd s
  | .downwardFrame dest kind payload => Sys2Proof.Machine.execDownwardFrame dest kind payload s
  | .setup machineId rate roles silence => Sys2Proof.Machine.execSetup machineId rate roles silence s
  | .alive => Sys2Proof.Machine.execAlive s
  | .query topic index => Sys2Proof.Machine.execQuery topic index s
  | .service on => Sys2Proof.Machine.execService on s
  | .inhibit on => Sys2Proof.Machine.execInhibit on s
  | .load kind generation index total check count entries => Sys2Proof.Machine.execLoad kind generation index total check count entries s
  | .discard kind => Sys2Proof.Machine.execDiscard kind s
  | .activate kind generation due => Sys2Proof.Machine.execActivate kind generation due s
  | .clock day second dayOfWeek => Sys2Proof.Machine.execClock day second dayOfWeek s
  | .sell product zones concession medium keepCredit => Sys2Proof.Machine.execSell product zones concession medium keepCredit s
  | .topup amount receipt => Sys2Proof.Machine.execTopup amount receipt s
  | .cancel => Sys2Proof.Machine.execCancel s
  | .voucher => Sys2Proof.Machine.execVoucher s
  | .reprint => Sys2Proof.Machine.execReprint s
  | .chuteClear => Sys2Proof.Machine.execChuteClear s
  | .tube tube count => Sys2Proof.Machine.execTube tube count s
  | .writeOff txn => Sys2Proof.Machine.execWriteOff txn s
  | .clearTotals => Sys2Proof.Machine.execClearTotals s
  | .clearAll => Sys2Proof.Machine.execClearAll s
  | .restart => Sys2Proof.Machine.execRestart s
  | .startAfterReply pins => Sys2Proof.Machine.execStartAfterReply pins s
  | .exchangeGrant => Sys2Proof.Machine.execExchangeGrant s
  | .moduleAnswer f => Sys2Proof.Machine.execModuleAnswer f s
  | .answerWindowExpiry => Sys2Proof.Machine.execAnswerWindowExpiry s
  | .groupExchangeEnd => Sys2Proof.Machine.execGroupExchangeEnd s
  | .reprobeDue slot => Sys2Proof.Machine.execReprobeDue slot s
  | .secondAdvance => Sys2Proof.Machine.execSecondAdvance s
  | .oscillatorStop => Sys2Proof.Machine.execOscillatorStop s
  | .sensorRise sensor elapsed => Sys2Proof.Machine.execSensorRise sensor elapsed s
  | .sensorFall sensor elapsed => Sys2Proof.Machine.execSensorFall sensor elapsed s
  | .aLimitExpiry => Sys2Proof.Machine.execALimitExpiry s
  | .gapLimitExpiry => Sys2Proof.Machine.execGapLimitExpiry s
  | .acceptWaitExpiry => Sys2Proof.Machine.execAcceptWaitExpiry s
  | .returnWaitExpiry => Sys2Proof.Machine.execReturnWaitExpiry s
  | .idleWaitExpiry => Sys2Proof.Machine.execIdleWaitExpiry s
  | .doorChange isOpen => Sys2Proof.Machine.execDoorChange isOpen s
  | .leverPress => Sys2Proof.Machine.execLeverPress s
  | .pwmPeriod sense => Sys2Proof.Machine.execPwmPeriod sense s
  | .pullInCheck ends sense => Sys2Proof.Machine.execPullInCheck ends sense s
  | .diverterChangeover => Sys2Proof.Machine.execDiverterChangeover s
  | .exitPulse tube => Sys2Proof.Machine.execExitPulse tube s
  | .jamTimeout tube => Sys2Proof.Machine.execJamTimeout tube s
  | .trailingWindowEnd tube => Sys2Proof.Machine.execTrailingWindowEnd tube s
  | .writeTimeout => Sys2Proof.Machine.execWriteTimeout s
  | .cutTimeout => Sys2Proof.Machine.execCutTimeout s
  | .roomAskDelay => Sys2Proof.Machine.execRoomAskDelay s
  | .powerReturn pins => Sys2Proof.Machine.execPowerReturn pins s
  | .mainPowerLoss => Sys2Proof.Machine.execMainPowerLoss s
  | .resetHeld => Sys2Proof.Machine.execResetHeld s
  | .resetRelease pins => Sys2Proof.Machine.execResetRelease pins s
  | .hundredthAdvance => Sys2Proof.Machine.execHundredthAdvance s
  | .timeBaseRunsAgain => Sys2Proof.Machine.execTimeBaseRunsAgain s
  | .backupSupplyFailure => Sys2Proof.Machine.execBackupSupplyFailure s

end Sys2Proof.Machine
end

