-- ==== Sys2Proof/Safety.lean ====
section
/-! DEFINITION. What holds of the machine in every state its commands can reach: the conservation of money (R98), the money
state (R85, R88, R89), the journal (R133), the bounds of every queue (R5, R6, R17, R30, R31), the coin entry (R64), the coil drives
(R46, R75) and the chute record (R46, R62); and the shapes that the statements about the commands share. -/

namespace Sys2Proof.Machine

/-! ## Conservation (R98) -/

/-- What INSERTED exceeds the nine terms of R98 by, modulo 2^32. -/
def Ledger.balance (l : Ledger) : Money :=
  l.inserted - (l.sold + l.topped + l.paid + l.vouchered + l.writtenOff + l.h + l.c + l.k + l.pp)

/-- INSERTED equals SOLD + TOPPED + PAID + VOUCHERED + WRITTEN_OFF + held + credit + committed + payout pending, modulo
2^32 (R98). -/
def Conserved (s : State) : Prop :=
  s.retained.ledger.inserted =
    s.retained.ledger.sold + s.retained.ledger.topped + s.retained.ledger.paid + s.retained.ledger.vouchered
      + s.retained.ledger.writtenOff + s.retained.ledger.h + s.retained.ledger.c + s.retained.ledger.k
      + s.retained.ledger.pp

/-! ## The money state (R85, R88, R89) -/

/-- The operation record is present exactly while the purchase is BUSY, and K is 0 without it; the payout record is present
exactly while the purchase is PAYOUT, and Pp is 0 without it (R85, R88, R89, R149). -/
structure MoneyState (op : Option OpRecord) (k pp : Money) (p : PurchaseState) (x : Option Payout) : Prop where
  busy : op.isSome = true ↔ p = .busy
  payout : x.isSome = true ↔ p = .payout
  committed : op = none → k = 0
  pending : x = none → pp = 0

/-! ## The report queue (R30, R31) -/

/-- How many reports of one KIND the queue holds. -/
def kindCount (k : Byte) (q : List Report) : Nat := (q.filter fun r => r.kind == k).length

/-- General reports queued plus reservations never exceed 11, and the queue holds at most one report of each fixed kind
(R31); the fixed kinds are CREDIT to CARD, 32 to 36 (R176). -/
structure QueueBounds (q : List Report) (reserved : Nat) : Prop where
  general : generalCount q + reserved ≤ Config.generalSlots
  fixed : ∀ k : Byte, 32 ≤ k.toNat → k.toNat ≤ 36 → kindCount k q ≤ 1

/-! ## The journal (R133) -/

/-- An operation that writes a card (R89). -/
def OpRecord.onCard (o : OpRecord) : Prop := o.kind = .cardSale ∨ o.kind = .topup

/-- The transaction number of the card write in flight (R126). -/
def writeTxn : WriteState → Option Nat
  | .none => none
  | .owed w => some w.txn
  | .sent w => some w.txn

/-- The sum of the amounts of a journal's UNCERTAIN records, modulo 2^32. -/
def uncertainSum (j : List JournalRecord) : Money := ((j.filter fun r => r.state == .uncertain).map JournalRecord.amount).sum

/-- The journal with the operation and the card write it belongs to (R90, R126, R133): at most 8 records, no two of one card or of one
transaction number, none numbered above the last one given; H is the sum of the UNCERTAIN amounts and K the amount of the
operation; a record is ISSUED exactly while its card operation, of its amount, and the write of its number are in progress; and a
TICKET or VOUCHER job prints for the operation it belongs to. -/
structure JournalKept (s : State) : Prop where
  depth : s.retained.journal.length ≤ 8
  cards : (s.retained.journal.map JournalRecord.card).Nodup
  numbers : (s.retained.journal.map JournalRecord.txn).Nodup
  given : ∀ r ∈ s.retained.journal, r.txn ≤ s.retained.txn
  held : s.retained.ledger.h = uncertainSum s.retained.journal
  committed : ∀ o, s.retained.op = some o → s.retained.ledger.k = o.amount ∧ o.txn ≤ s.retained.txn
  issued : ∀ r ∈ s.retained.journal, r.state = .issued → ∃ o, s.retained.op = some o ∧ o.onCard ∧ o.txn = r.txn
  writes : ∀ o, s.retained.op = some o → o.onCard →
    writeTxn s.card.write = some o.txn ∧ ∃ r ∈ s.retained.journal, r.state = .issued ∧ r.txn = o.txn ∧ r.amount = o.amount
  written : s.card.write ≠ .none → ∃ o, s.retained.op = some o ∧ o.onCard
  prints : ∀ j, s.printer.job = some j → (j.kind = .ticket → ∃ o, s.retained.op = some o ∧ o.kind = .printedSale) ∧
    (j.kind = .voucher → ∃ o, s.retained.op = some o ∧ o.kind = .voucher)

/-! ## The queues of the lines (R5, R6, R13, R17) -/

/-- No frame waits for an idle transmitter (R6). -/
def NoneWaits (s : State) : Prop := s.sending = none → s.replies = [] ∧ s.upwardQ = [] ∧ s.reports = []

/-- The reply list holds at most 4 replies and each frame queue at most 8 frames; while an exchange is in progress the upward queue has
room for its answer; and no frame waits for an idle transmitter (R5, R6, R13, R17). -/
structure LineQueues (s : State) : Prop where
  replies : s.replies.length ≤ 4
  forward : s.forwardQ.length ≤ 8
  upward : s.upwardQ.length ≤ 8
  room : s.exchange ≠ none → s.upwardQ.length < 8
  taken : s.running = true → NoneWaits s

/-! ## The reservations (R31) -/

/-- The general slots that what is in progress holds: of an operation its outcome and, a voucher apart, what follows it; one of a payout,
of a RECEIPT job and of each SCHEDULED kind (R31, R142, R150). -/
def reservedFor (s : State) : Nat :=
  (match s.retained.op with
    | none => 0
    | some o => if o.kind = .voucher then 1 else 2)
  + (if s.payout.isSome = true then 1 else 0)
  + (if s.printer.job.any (fun j => j.kind == .receipt) = true then 1 else 0)
  + ([TableKind.coin, .fare, .hotlist, .passage, .template].filter fun k => (s.loads.get k).st == .scheduled).length

/-- The reservation count is that of what is in progress (R31). -/
def ReservationsHeld (s : State) : Prop := s.reserved = reservedFor s

/-! ## The coin entry (R64) -/

/-- While the part takes events, the failing entry-block conditions are those last tested, and EB is commanded on exactly
while none fails (R64). -/
def EntryTested (s : State) : Prop :=
  s.running = true → s.causes = s.failing ∧ s.coils.coils.eb.on = s.failing.clear

/-! ## The coil drives (R46, R74, R75) -/

/-- The two diverter sides are never driven together, a side named as target has the other released, and the accept gate is
driven only in ACCEPTING (R46, R74, R75). -/
structure DriveSafe (d : CoilDriver) (c : ChuteState) : Prop where
  sides : (d.coils.dvt.on && d.coils.dvk.on) = false
  towardTubes : d.target = some true → d.coils.dvk.on = false
  towardCashBox : d.target = some false → d.coils.dvt.on = false
  gate : d.coils.ag.on = true → c = .accepting

/-! ## The chute (R46, R50 to R54, R61, R62) -/

/-- The chute record with the money of the customer (R46, R62): a fault kind exactly in FAULT; the chute timer stopped in IDLE, running in
the states of a passage, and in FAULT as the idle wait exactly where the kind clears by itself and all sensors are idle (R54); a coin in
flight exactly in ACCEPTING and RETURNING (a gap-limit return has one, assumption 49), with an accept decision exactly in ACCEPTING; and
credit, committed and payout pending with its value within the ceiling kept at that decision. -/
structure ChuteKept (c : Chute) (l : Ledger) : Prop where
  fault : c.fault.isSome = true ↔ c.state = .fault
  stopped : c.state = .idle → c.timer = none
  runs : c.state ≠ .idle → c.state ≠ .fault → c.timer.isSome = true
  idleWait : ∀ k, c.fault = some k → (c.timer.isSome = true ↔ k.selfClears = true ∧ ∀ x, c.active.get x = false)
  flight : c.coin.isSome = true ↔ c.state = .accepting ∨ c.state = .returning
  decided : ∀ x, c.coin = some x → (x.accepted.isSome = true ↔ c.state = .accepting)
  within : ∀ x a, c.coin = some x → x.accepted = some a → l.c.toNat + l.k.toNat + l.pp.toNat + a.value ≤ a.ceiling

/-! ## Lines (R2, R3, R5) -/

/-- A whole frame that arrives on the C-line is taken at once: the part takes events, and its C-line assembler takes
characters (R5, R172). -/
def TakesFrames (s : State) : Prop := s.running = true ∧ s.cStalled = false

/-- The parity bit a sender adds to a byte (R1). -/
def evenParityBit (b : Byte) : Bool := !evenParity b false

/-- The characters of a frame as a sender puts them on a line (R1, R176). -/
def frameCharacters (l : Line) (f : Frame) : List Instr :=
  (frameBytes f).map fun b => .characterArrival l b (evenParityBit b) true

/-- The assembler over the characters of some bytes, none marked (R3). -/
def assembleBytes (bs : List Byte) (a : Assembler) (t : Tallies) : AsmStep :=
  bs.foldl (fun o b => asmTake (.char b false false false) o.asm o.tallies) ⟨a, .none, t⟩

/-- The COUNT of a request's KIND; LOAD's varies (R177, R178). -/
def requestLength : Nat → Option Nat
  | 2 | 9 => some 10
  | 3 | 13 | 14 | 15 | 16 | 19 | 20 | 21 => some 0
  | 4 | 17 => some 2
  | 5 | 6 | 8 => some 1
  | 10 => some 7
  | 11 => some 5
  | 12 => some 3
  | 18 => some 4
  | _ => none

/-- A KIND and a payload that spell no request, a LOAD's entries apart (R5, R177, R178). -/
inductive Malformed : Byte → List Byte → Prop where
  /-- No request has the KIND. -/
  | unknown (kind : Byte) (p : List Byte) (h : kind.toNat < 2 ∨ 21 < kind.toNat) : Malformed kind p
  /-- The COUNT is not the KIND's. -/
  | count (kind : Byte) (p : List Byte) (n : Nat) (h : requestLength kind.toNat = some n) (h' : p.length ≠ n) : Malformed kind p
  /-- A LOAD is shorter than its fields. -/
  | loadShort (p : List Byte) (h : p.length < 5) : Malformed Kind.load p
  /-- A LOAD of segment 0 is shorter than the table check and the entry count. -/
  | firstShort (k a b total : Byte) (rest : List Byte) (h : rest.length < 4) : Malformed Kind.load (k :: a :: b :: 0 :: total :: rest)
  /-- LOAD, DISCARD or ACTIVATE names no table kind. -/
  | table (kind k : Byte) (rest : List Byte) (h : 7 ≤ kind.toNat ∧ kind.toNat ≤ 9) (h' : 4 < k.toNat) : Malformed kind (k :: rest)
  /-- SERVICE's or INHIBIT's flag has no meaning. -/
  | switch (kind b : Byte) (h : kind.toNat = 5 ∨ kind.toNat = 6) (h' : 1 < b.toNat) : Malformed kind [b]
  /-- TOPUP's flag has no meaning. -/
  | receipt (a b r : Byte) (h : 1 < r.toNat) : Malformed Kind.topup [a, b, r]
  /-- SELL's concession class, medium or flag has no meaning. -/
  | sale (product zones concession medium keep : Byte) (h : 7 < concession.toNat ∨ 1 < medium.toNat ∨ 1 < keep.toNat) :
      Malformed Kind.sell [product, zones, concession, medium, keep]
  /-- ACTIVATE's due has no meaning. -/
  | due (k a b x : Byte) (rest : List Byte) (h : 1 < x.toNat) : Malformed Kind.activate (k :: a :: b :: x :: rest)
  /-- ACTIVATE's due is NOW and its point is not 0. -/
  | point (k a b y : Byte) (rest : List Byte) (h : y ∈ rest) (h' : y ≠ 0) : Malformed Kind.activate (k :: a :: b :: 0 :: rest)

/-- What a receiver becomes by a character that arrives (R2, R4): the marks, the tallies that saturate at 65535, and the FIFO
of 64 characters. -/
structure Stored (v : Byte) (parityBit stopMark : Bool) (q r : Receiver) : Prop where
  fifo : r.fifo = if charCount q.fifo < 64 then
    q.fifo ++ [.char v (!evenParity v parityBit) (!stopMark) q.overrunNext] else q.fifo
  overrunNext : r.overrunNext = !decide (charCount q.fifo < 64)
  gap : r.gapRunning = true
  asm : r.asm = q.asm
  parity : r.tallies.parity = if evenParity v parityBit then q.tallies.parity else min (q.tallies.parity + 1) 65535
  framing : r.tallies.framing = if stopMark then q.tallies.framing else min (q.tallies.framing + 1) 65535
  overrun : r.tallies.overrun = if charCount q.fifo < 64 then q.tallies.overrun else min (q.tallies.overrun + 1) 65535
  check : r.tallies.check = q.tallies.check
  timeout : r.tallies.timeout = q.tallies.timeout

/-- A receiver after a break, but for the break itself: tallied as framing, the gap timer running (R2, R4). -/
def Receiver.broken (r : Receiver) : Receiver :=
  { r with gapRunning := true, tallies := { r.tallies with framing := min (r.tallies.framing + 1) 65535 } }

/-- The C-line assembler takes an item that came to an empty FIFO, with r the receiver that has its marks, tallies and gap timer: a frame
it completes is disposed of as a whole frame's command does it, and nothing else happens where it completes none (R3, R5). -/
def TakenOnC (x : RxItem) (r : Receiver) (s : State) (out : Host.Outcome State Fault Refusal) : Prop :=
  let o := asmTake x r.asm r.tallies
  let u : State := { s with cRx := { r with asm := o.asm, tallies := o.tallies } }
  ((∀ f, o.event ≠ .frame f) → out = .next u.transmit) ∧ (∀ f, o.event = .frame f → out = exec (.cLineFrame f) u)

/-- The M-line assembler takes an item that came to an empty FIFO while the receiver accepts: a frame it completes does what
MODULE_ANSWER of the frame does, a frame that is discarded ends the exchange with no valid answer as ANSWER_WINDOW_EXPIRY does, and
anything else leaves the exchange as it is (R3, R12). -/
def TakenOnM (x : RxItem) (r : Receiver) (s : State) (out : Host.Outcome State Fault Refusal) : Prop :=
  let o := asmTake x r.asm r.tallies
  let u : State := { s with mRx := { r with asm := o.asm, tallies := o.tallies } }
  (o.event = .none → out = .next u.transmit) ∧ (o.event = .discarded → out = exec .answerWindowExpiry u) ∧
    (∀ f, o.event = .frame f → out = exec (.moduleAnswer f) u)

/-- What a receiver becomes by the characters of some bytes that arrive one by one without an error (R1, R2). -/
def StoredAll : List Byte → Receiver → Receiver → Prop
  | [], q, r => r = q
  | b :: bs, q, r => ∃ m, Stored b (evenParityBit b) true q m ∧ StoredAll bs m r

/-! ## The layouts of replies and reports (R29, R176, R177) -/

/-- Fields one after another with no gaps, each a size and a number sent least significant byte first (R177). -/
def fieldBytes (fs : List (Nat × Nat)) : List Byte :=
  fs.flatMap fun p => (List.range p.1).map fun i => BitVec.ofNat 8 (p.2 / 256 ^ i)

/-- Fields that may be absent together: a presence byte, then their values, 0 where absent (R177, assumption 19). -/
def optionalFields (sizes : List Nat) : Option (List Nat) → List (Nat × Nat)
  | none => (1, 0) :: sizes.map fun n => (n, 0)
  | some vs => (1, 1) :: sizes.zip vs

/-- A set of up to eight members, member n at bit n (R177). -/
def memberSet : List Bool → Nat
  | [] => 0
  | b :: bs => b.toNat + 2 * memberSet bs

/-- The operation kinds in the order the manual lists them (R89, assumption 19). -/
def opKinds : List OpKind := [.printedSale, .cardSale, .topup, .voucher]

/-- The purchase states in the order of R85. -/
def purchaseStates : List PurchaseState := [.idle, .opened, .busy, .payout]

/-- The load states in the order of R22. -/
def loadStates : List LoadState := [.none, .filling, .ready, .bad, .scheduled]

/-- The drive phases in the order of R72. -/
def phases : List Phase := [.off, .pullIn, .hold]

/-- The failure causes in the order of R122, for TOPUP VOID, VOUCHER VOID and RECEIPT too (assumption 19). -/
def voidCauses : List VoidCause := [.paperOut, .headOpen, .printerFault, .printerAbsent, .cutLate, .writeFail]

/-- The refusal reasons in the order of R177. -/
def reasons : List Reason :=
  [.busy, .state, .short, .noChange, .product, .zones, .noCard, .blocked, .limit, .journal, .table, .format, .guarded, .absent, .queue,
    .setup, .service, .printer, .range, .passHeld]

/-- A timestamp's fields (R177). -/
def stampFields (t : Timestamp) : List (Nat × Nat) := [(2, t.day), (4, t.second), (1, t.hundredth), (1, t.valid.toNat)]

/-- First and last valid day, or none (R117, R122). -/
def dayFields (d : Option (Nat × Nat)) : List (Nat × Nat) := optionalFields [2, 2] (d.map fun p => [p.1, p.2])

/-- A pass slot, or none (R125, R144). -/
def passFields (p : Option PassSlot) : List (Nat × Nat) := optionalFields [1, 2] (p.map fun x => [x.product, x.lastDay])

/-- A BAD reason and its entry position, or none (R24). -/
def badFields (b : Option (BadReason × Nat)) : List (Nat × Nat) :=
  optionalFields [1, 2] (b.map fun p => [[BadReason.check, .count, .field, .window, .order, .floor].idxOf p.1, p.2])

/-- The load state fields (R23). -/
def loadFields (v : LoadView) : List (Nat × Nat) := [(1, loadStates.idxOf v.st), (1, v.held)] ++ badFields v.bad

/-- The eight counters (R29). -/
def totalFields (v : TotalsView) : List (Nat × Nat) :=
  [v.inserted, v.sold, v.topped, v.paid, v.vouchered, v.writtenOff, v.overpaid, v.bonus].map fun x => (4, x.toNat)

/-- The clock's fields (R33). -/
def clockFields (c : Clock) : List (Nat × Nat) :=
  [(2, c.day), (4, c.second), (1, c.hundredth), (1, c.dayOfWeek), (1, c.valid.toNat)]

/-- The five tallies of a line (R4). -/
def tallyFields (t : Tallies) : List (Nat × Nat) := [t.parity, t.framing, t.overrun, t.check, t.timeout].map fun n => (2, n)

/-- What a card write writes: the new balance, the product and its days, those of the other kind 0 (assumption 19). -/
def writtenFields : Written → List Nat
  | .balance v => [v, 0, 0, 0]
  | .pass product first last => [0, product, first, last]

/-- A journal record's fields (R29, R133; assumption 19). -/
def recordFields (r : JournalRecord) : List Nat :=
  [[RecordState.issued, .uncertain].idxOf r.state, r.txn, r.card, opKinds.idxOf r.kind, r.amount.toNat, r.bonus.toNat, r.oldSequence,
    r.machineId] ++ writtenFields r.content ++ [r.stamp.day, r.stamp.second, r.stamp.hundredth, r.stamp.valid.toNat]

/-- A coil of the coil status: its drive phase and its sensed state, CURRENT or NONE (R84). -/
def coilFields (p : Phase) (sensed : Bool) : List (Nat × Nat) := [(1, phases.idxOf p), (1, (!sensed).toNat)]

/-- A measurement's fields: the five figures, the result as its kind and the coin kind, the decision (R46, assumption 19). -/
def measurementFields (m : Measurement) : List Nat :=
  [m.wA, m.fAB, m.wB, m.rA, m.rB] ++
    (match m.result with
      | .none => [0, 0]
      | .ambiguous => [1, 0]
      | .kind k => [2, k]) ++ [[Decision.accept, .giveBack].idxOf m.decision]

/-- A sale's fields (R122). -/
def saleFields (r : SaleReport) : List (Nat × Nat) :=
  [(4, r.txn), (1, opKinds.idxOf r.kind), (1, r.sale.product), (1, r.sale.zones), (1, r.sale.concession)] ++
    optionalFields [1] (r.sale.band.map fun b => [b]) ++ [(2, r.price.toNat), (2, r.fareGeneration)] ++ dayFields r.sale.days ++
    stampFields r.stamp

/-- A report's KIND and its fields in order (R176, R177 and the rule that gives each report's content). Where a rule leaves an order or a
form open they stand as assumptions 19 and 46 say. -/
def Report.layout : Report → Byte × List (Nat × Nat)
  | .credit r => (32, [(4, r.credit.toNat), (1, purchaseStates.idxOf r.purchase), (2, r.accepted), (2, r.returned), (2, r.renewals)])
  | .chute r => (33, [(1, [ChuteState.idle, .onA, .gap, .onB, .accepting, .returning, .fault].idxOf r.state)] ++
      optionalFields [1] (r.fault.map fun k =>
        [[FaultKind.jamA, .jamB, .order, .crowd, .strayC, .acceptLost, .returnLost, .coil].idxOf k]) ++
      [(1, (!r.causes.clear).toNat), (1, memberSet [r.causes.chute, r.causes.purchase, r.causes.state, r.causes.detached,
        r.causes.inhibit, r.causes.door, r.causes.table, r.causes.ceiling])] ++
      optionalFields [2, 2, 2, 2, 2, 1, 1, 1] (r.last.map measurementFields) ++
      coilFields r.coils.phases.eb r.coils.sensed.eb ++ coilFields r.coils.phases.ag r.coils.sensed.ag ++
      coilFields r.coils.phases.dvt r.coils.sensed.dvt ++ coilFields r.coils.phases.dvk r.coils.sensed.dvk ++
      [(1, [DiverterCommand.cashBox, .tubes, .none].idxOf r.coils.command), (1, r.coils.faulted.toNat),
        (1, memberSet [r.coils.failed.eb, r.coils.failed.ag, r.coils.failed.dvt, r.coils.failed.dvk])])
  | .tubes v => (34, v.toList.flatMap fun t => [(1, t.count), (1, t.faulted.toNat), (1, t.low.toNat)])
  | .printer r => (35, [(1, [Paper.ok, .low, .out, .unknown].idxOf r.paper), (1, [Head.closed, .opened, .unknown].idxOf r.head),
      (1, [PrinterFault.set, .clear, .unknown].idxOf r.fault), (1, r.paperDelta.toNat), (1, r.headDelta.toNat), (1, r.faultDelta.toNat),
      (1, memberSet r.presence.toList), (2, r.discards)])
  | .card r => (36, (match r.binding with
      | none => [(1, 0), (4, 0), (1, 0), (2, 0), (1, 0), (1, 0), (2, 0), (1, 0), (1, 0)]
      | some b => [(1, 1), (4, b.card), (1, b.concession), (2, b.balance)] ++ passFields b.pass ++
          [(1, b.blocked.toNat), (1, b.unresolved.toNat)]) ++ [(1, memberSet r.presence.toList), (2, r.discards)])
  | .saleDone r => (37, saleFields r)
  | .saleVoid r c => (38, saleFields r ++ [(1, voidCauses.idxOf c)])
  | .topupDone r => (39, [(4, r.txn), (4, r.card), (2, r.amount.toNat), (2, r.bonus.toNat), (2, r.newBalance), (2, r.newSequence),
      (2, r.fareGeneration)] ++ stampFields r.stamp)
  | .topupVoid r c => (40, [(4, r.txn), (4, r.card), (2, r.amount.toNat), (2, r.bonus.toNat)] ++ stampFields r.stamp ++
      [(1, voidCauses.idxOf c)])
  | .uncertain r c => (41, [(4, r.txn), (1, opKinds.idxOf r.kind), (4, r.card), (2, r.amount.toNat), (2, r.bonus.toNat)] ++
      stampFields r.stamp ++ [(1, [UncertainCause.unsure, .timeout, .absent].idxOf c)])
  | .resolved r o => (42, [(4, r.txn), (1, opKinds.idxOf r.kind), (4, r.card), (2, r.amount.toNat), (2, r.bonus.toNat),
      (1, [Resolution.landed, .restored].idxOf o)] ++ stampFields r.stamp)
  | .payoutDone r => (43, (match r.cause with
      | .change txn => [(1, 0), (4, txn)]
      | .cancel => [(1, 1), (4, 0)]
      | .lever => [(1, 2), (4, 0)]) ++ [(4, r.amount.toNat), (4, r.paid.toNat), (4, r.shortfall.toNat)] ++
      (r.coins.toList.map fun n => (2, n)) ++ [(1, memberSet r.faulted.toList)])
  | .voucherDone r => (44, [(4, r.txn), (2, r.amount.toNat)] ++ stampFields r.stamp)
  | .voucherVoid r c => (45, [(4, r.txn), (2, r.amount.toNat)] ++ stampFields r.stamp ++ [(1, voidCauses.idxOf c)])
  | .receipt txn o => (46, (4, txn) :: (match o with
      | .skipped => [(1, 0), (1, 0), (1, 0)]
      | .printed => [(1, 1), (1, 0), (1, 0)]
      | .lost c => [(1, 2), (1, 1), (1, voidCauses.idxOf c)]))
  | .table r => (47, [(1, [TableKind.coin, .fare, .hotlist, .passage, .template].idxOf r.kind), (2, r.generation),
      (2, r.replaced.getD 0), (2, r.day), (4, r.second), (1, r.valid.toNat), (1, r.waited.toNat)])
  | .start r => (48, [(1, r.cold.toNat), (1, [StartCause.power, .reset, .restart, .check, .clearAll].idxOf r.cause), (4, r.c.toNat),
      (4, r.h.toNat), (1, r.records), (4, r.txn), (1, r.clockValid.toNat)] ++ (r.generations.map fun g => (2, g.getD 0)) ++
      optionalFields [1, 4, 1] (r.operation.map fun o =>
        [opKinds.idxOf o.1, o.2.1, [Interruption.voided, .uncertain].idxOf o.2.2]) ++
      optionalFields [4] (r.payout.map fun x => [x.toNat]) ++ optionalFields [4] (r.receipt.map fun n => [n]))

/-- What a QUERY reply carries after its state header (R29; assumptions 19 and 46). -/
def QueryBody.layout : QueryBody → List (Nat × Nat)
  | .totals v => totalFields v
  | .coinCounts a r => (List.finRange 12).flatMap fun k => [(2, a.get k), (2, r.get k)]
  | .tubes v => v.toList.flatMap fun t => [(1, t.count), (1, t.capacity), (1, t.lowMark), (1, t.faulted.toNat)]
  | .journal r => optionalFields [1, 4, 4, 1, 2, 2, 2, 2, 2, 1, 2, 2, 2, 4, 1, 1] (r.map recordFields)
  | .lines c m => tallyFields c ++ tallyFields m
  | .tables v => [(2, v.active.getD 0), (1, loadStates.idxOf v.st), (2, v.generation), (1, v.total), (1, v.held)] ++ badFields v.bad ++
      (match v.due with
        | .now => [(1, 0), (2, 0), (4, 0)]
        | .at d s => [(1, 1), (2, d), (4, s)]) ++ [(1, v.fallen.toNat)]
  | .clock c => clockFields c
  | .purchase v => [(1, purchaseStates.idxOf v.state), (4, v.c.toNat), (4, v.k.toNat), (4, v.pp.toNat), (4, v.h.toNat)] ++
      optionalFields [1, 4, 2] (v.op.map fun o => [opKinds.idxOf o.1, o.2.1, o.2.2.toNat]) ++
      optionalFields [4, 1] (v.bound.map fun b => [b.1, b.2.toNat])

/-- A reply's fields: the result byte, 0 for ACCEPTED and the reason's place from 1 for REFUSED, and what its rule adds; ALIVE has none
(R177; assumptions 19 and 46). -/
def ReplyBody.layout : ReplyBody → List (Nat × Nat)
  | .alive => []
  | .refused r => [(1, reasons.idxOf r + 1)]
  | .refusedSum r amount => [(1, reasons.idxOf r + 1), (4, amount)]
  | .refusedLimit greatest => [(1, 9), (2, greatest)]
  | .refusedLoad r v => (1, reasons.idxOf r + 1) :: loadFields v
  | .accepted => [(1, 0)]
  | .query h b => [(1, 0), (1, [PartState.unset, .ready, .service].idxOf h.part), (1, h.detached.toNat), (1, h.inhibit.toNat),
      (1, h.free)] ++ b.layout
  | .service p => [(1, 0), (1, [PartState.unset, .ready, .service].idxOf p)]
  | .inhibit b => [(1, 0), (1, b.toNat)]
  | .load v => (1, 0) :: loadFields v
  | .discard st => [(1, 0), (1, loadStates.idxOf st)]
  | .activate st o => [(1, 0), (1, loadStates.idxOf st), (1, [ActivateOutcome.done, .deferred, .scheduled].idxOf o)]
  | .clock c n => (1, 0) :: clockFields c ++ [(1, n)]
  | .sell v => [(1, 0), (4, v.txn), (2, v.price)] ++ optionalFields [1] (v.band.map fun b => [b]) ++ [(1, v.concession)] ++
      dayFields v.days ++ [(2, v.fareGeneration), (4, v.change)]
  | .topup txn amount bonus balance => [(1, 0), (4, txn), (2, amount.toNat), (2, bonus.toNat), (2, balance)]
  | .cancel amount planned short => [(1, 0), (4, amount.toNat), (4, planned), (4, short)]
  | .voucher txn amount => [(1, 0), (4, txn), (2, amount.toNat)]
  | .reprint txn => [(1, 0), (4, txn)]
  | .chuteClear k => [(1, 0), (1, [FaultKind.jamA, .jamB, .order, .crowd, .strayC, .acceptLost, .returnLost, .coil].idxOf k)]
  | .tube n f => [(1, 0), (1, n), (1, f.toNat)]
  | .writeOff card k amount bonus => [(1, 0), (4, card), (1, opKinds.idxOf k), (2, amount.toNat), (2, bonus.toNat)]
  | .clearTotals v => (1, 0) :: totalFields v
  | .clearAll v txn => (1, 0) :: totalFields v ++ [(4, txn)]

/-! ## Load validation (R40, R67 to R69, R103 to R106, R159) -/

/-- COIN entry 0 is in range (R68). -/
def CoinHeaderInRange (e : List Byte) : Prop :=
  byteAt e 0 ≤ 3 ∧ (field 1 2 e = 0 ∨ (20 ≤ field 1 2 e ∧ field 1 2 e ≤ 1000)) ∧
    (field 3 2 e = 0 ∨ (10 ≤ field 3 2 e ∧ field 3 2 e ≤ 1000)) ∧ (field 5 2 e = 0 ∨ (50 ≤ field 5 2 e ∧ field 5 2 e ≤ 2000)) ∧
    (field 7 2 e = 0 ∨ (50 ≤ field 7 2 e ∧ field 7 2 e ≤ 2000)) ∧ 100 ≤ field 9 2 e ∧ field 9 2 e ≤ 10000 ∧ byteAt e 11 ≤ 15 ∧
    ∀ p ∈ [12, 17, 22, 27], field p 2 e ≤ 10000 ∧ field (p + 2) 2 e ≤ 10000 ∧ 1 ≤ byteAt e (p + 4) ∧ byteAt e (p + 4) ≤ 100

/-- A coin entry is in range (R67). -/
def CoinEntryInRange (e : List Byte) : Prop :=
  byteAt e 0 ≤ 1 ∧ 1 ≤ field 1 2 e ∧ (∀ p ∈ [3, 5, 7, 9], field p 2 e ≤ 1023) ∧ field 11 2 e ≤ 65534 ∧ field 13 2 e ≤ 65534

/-- A tube entry is in range, and no tube entry before it names its coin kind (R69; the later of two, assumption 17). -/
def TubeEntryInRange (es : List (List Byte)) (n : Nat) (e : List Byte) : Prop :=
  byteAt e 0 ≤ 12 ∧ byteAt e 1 ≤ 250 ∧ (byteAt e 1 = 0 ↔ byteAt e 0 = 0) ∧ byteAt e 2 ≤ byteAt e 1 ∧
    (byteAt e 0 ≠ 0 → ∀ m, 13 ≤ m → m < n → byteAt (es.getD m []) 0 ≠ byteAt e 0)

/-- The FARE header is in range (R40, R103). -/
def FareHeaderInRange (e : List Byte) : Prop :=
  100 ≤ field 0 2 e ∧ field 0 2 e ≤ 65000 ∧ byteAt e 2 ≤ 48 ∧ byteAt e 3 ≤ 6 ∧ 1 ≤ field 6 2 e ∧ 1 ≤ field 8 2 e ∧ byteAt e 12 ≤ 20

/-- A product entry is in range, no product before it has its code, and one sold to a card is a pass of at least a day (R105, R106). -/
def ProductInRange (es : List (List Byte)) (n : Nat) (e : List Byte) : Prop :=
  1 ≤ byteAt e 0 ∧ (∀ b ∈ (e.drop 1).take 16, 0x20 ≤ b.toNat ∧ b.toNat ≤ 0x7E) ∧ byteAt e 17 ≤ 2 ∧ 1 ≤ byteAt e 22 ∧ byteAt e 22 ≤ 9 ∧
    field 27 2 e ∈ [1, 5, 10, 20, 50, 100, 200, 500] ∧ byteAt e 29 ≤ 2 ∧ field 30 2 e ≤ 366 ∧ byteAt e 32 ≤ 1 ∧
    field 33 4 e ≤ 86399 ∧ byteAt e 37 ≤ 7 ∧ byteAt e 38 < 4 ∧ (∀ m, 9 ≤ m → m < n → byteAt (es.getD m []) 0 ≠ byteAt e 0) ∧
    (byteAt e 17 ≠ 0 → 1 ≤ field 30 2 e)

/-- A band entry is in range (R40). -/
def BandInRange (e : List Byte) : Prop :=
  byteAt e 0 < 128 ∧ field 1 4 e ≤ 86399 ∧ 1 ≤ field 5 4 e ∧ field 5 4 e ≤ 86400 ∧ byteAt e 9 ≤ 250

/-- A template text of literal characters and whole field marks with the codes of R160, and its printed width (R159, R160). -/
inductive Printed : List Byte → Nat → Prop where
  | nil : Printed [] 0
  | mark (code width : Byte) (rest : List Byte) (w : Nat) (hc : 1 ≤ code.toNat ∧ code.toNat ≤ 15)
      (hw : 1 ≤ width.toNat ∧ width.toNat ≤ 16) (h : Printed rest w) : Printed (0x7C#8 :: code :: width :: rest) (width.toNat + w)
  | literal (b : Byte) (rest : List Byte) (w : Nat) (hb : 0x20 ≤ b.toNat ∧ b.toNat ≤ 0x7E) (hm : b ≠ 0x7C#8) (h : Printed rest w) :
      Printed (b :: rest) (1 + w)

/-- A TEMPLATE entry is in range, its text prints in 40 characters, and no entry before it has its template and line number (R159). -/
def LineInRange (es : List (List Byte)) (n : Nat) (e : List Byte) : Prop :=
  byteAt e 0 ≤ 7 ∧ 1 ≤ byteAt e 1 ∧ byteAt e 1 ≤ 12 ∧ byteAt e 2 ≤ 40 ∧
    (∃ w, w ≤ 40 ∧ Printed ((e.drop 3).take (byteAt e 2)) w) ∧
    ∀ m, m < n → ¬(byteAt (es.getD m []) 0 = byteAt e 0 ∧ byteAt (es.getD m []) 1 = byteAt e 1)

/-- The first place after a FARE table's products (R102). -/
def bandsFrom (es : List (List Byte)) : Nat := 9 + byteAt (es.headD []) 2

/-- The FIELD check of the entry at a place (R24, R40, R67 to R69, R103 to R106, R159); HOTLIST and PASSAGE entries have no range (R9, R128). -/
def InRange (k : TableKind) (es : List (List Byte)) (n : Nat) (e : List Byte) : Prop :=
  match k with
  | .coin => if n = 0 then CoinHeaderInRange e else if n ≤ 12 then CoinEntryInRange e else TubeEntryInRange es n e
  | .fare =>
    if n = 0 then FareHeaderInRange e
    else if n ≤ 8 then byteAt e 0 ≤ 100 ∧ (n = 1 → byteAt e 0 = 0)
    else if n < bandsFrom es then ProductInRange es n e
    else BandInRange e
  | .template => LineInRange es n e
  | .hotlist | .passage => True

/-- The WINDOW check of the entry at a place: the windows of a coin entry and the times of a band (R24, R40, R67). -/
def WindowsInOrder (k : TableKind) (es : List (List Byte)) (n : Nat) (e : List Byte) : Prop :=
  (k = .coin → 1 ≤ n → n ≤ 12 → field 3 2 e ≤ field 5 2 e ∧ field 7 2 e ≤ field 9 2 e ∧ field 11 2 e ≤ field 13 2 e) ∧
    (k = .fare → 9 ≤ n → bandsFrom es ≤ n → field 1 4 e < field 5 4 e)

/-- The FLOOR check of the entry at a place: a product's floor at most its cap, and above 0 unless zero is allowed (R24, R106). -/
def FloorsKept (k : TableKind) (es : List (List Byte)) (n : Nat) (e : List Byte) : Prop :=
  k = .fare → 9 ≤ n → n < bandsFrom es →
    field 23 2 e ≤ field 25 2 e ∧ (field 23 2 e = 0 → byteAt e 38 / 2 % 2 = 1)

/-! ## The plan of a payout (R148) -/

/-- The candidates: each tube in use, not faulted and not empty, with its value and count, by value with the highest first, and by tube
number with the lowest first where values are equal (R148). -/
structure CandidatesOf (s : State) (cs : List Candidate) : Prop where
  members : ∀ (i : Fin 4) (v n : Nat), (⟨i, v, n⟩ : Candidate) ∈ cs ↔
    ∃ a t k, s.retained.coin = some a ∧ a.content.tubes[i.val]? = some t ∧ t.coinKind ≠ 0 ∧
      a.content.coins[t.coinKind - 1]? = some k ∧ v = k.value ∧ (s.tubes.get i).faulted = false ∧ n = s.retained.tubeCounts.get i ∧ 0 < n
  order : cs.Pairwise fun a b => b.value < a.value ∨ (a.value = b.value ∧ a.tube < b.tube)

/-- One pass over candidates from a remainder: each gives the smaller of its count and the remainder divided by its value, and an entry
where that is not 0; the plan and the remainder it ends at (R148). -/
inductive Pass : List Candidate → Nat → List PlanEntry → Nat → Prop where
  | done (r : Nat) : Pass [] r [] r
  | takes (c : Candidate) (cs : List Candidate) (r n : Nat) (es : List PlanEntry) (q : Nat) (hn : n = min c.count (r / c.value))
      (h0 : 0 < n) (h : Pass cs (r - n * c.value) es q) : Pass (c :: cs) r (⟨c.tube, c.value, n, 0⟩ :: es) q
  | skips (c : Candidate) (cs : List Candidate) (r : Nat) (es : List PlanEntry) (q : Nat) (hn : min c.count (r / c.value) = 0)
      (h : Pass cs r es q) : Pass (c :: cs) r es q

/-- A plan and its shortfall for an amount: pass i skips the first i candidates; the first pass that ends at 0 gives the plan, and where
none does it is that of the pass that skips none (R148). -/
def Planned (s : State) (amount : Nat) (plan : List PlanEntry) (short : Nat) : Prop :=
  ∃ cs, CandidatesOf s cs ∧
    ((short = 0 ∧ ∃ i, i < cs.length ∧ Pass (cs.drop i) amount plan 0 ∧ ∀ j, j < i → ∀ es, ¬Pass (cs.drop j) amount es 0) ∨
      ((∀ j, j < cs.length → ∀ es, ¬Pass (cs.drop j) amount es 0) ∧ Pass cs amount plan short))

/-! ## The reach of an entry test (R64) -/

/-- What an entry test makes of a state (R64, R56): its failing conditions are tested; where they are those last tested nothing
changes, and where they are not, EB is commanded accordingly and the CHUTE report is issued. -/
structure Tested (u t : State) : Prop where
  frame : t = { u with causes := t.causes, reports := t.reports
                       coils := { u.coils with coils := { u.coils.coils with eb := t.coils.coils.eb } } }
  causes : t.causes = t.failing
  same : u.failing = u.causes → t = u
  opens : u.failing ≠ u.causes → u.failing.clear = true → t.coils.coils.eb = u.coils.coils.eb.energise
  closes : u.failing ≠ u.causes → u.failing.clear = false → t.coils.coils.eb = u.coils.coils.eb.release
  report : u.failing ≠ u.causes → t.reports =
    putFixed (.chute ⟨u.chute.state, u.chute.fault, u.failing, u.chute.last, t.coils.status⟩) u.reports

/-! ## What the shared parts of an operation leave (R91, R94, R150, R154, R165) -/

/-- A state after an operation's acceptance: its record filled, its amount from credit to committed, its slots reserved, the purchase
BUSY and the CREDIT report issued (R91). -/
def State.accepted (o : OpRecord) (slots : Nat) (u : State) : State :=
  { u with
    retained := { u.retained with
      txn := o.txn, op := some o
      ledger := { u.retained.ledger with c := u.retained.ledger.c - o.amount, k := u.retained.ledger.k + o.amount } }
    purchase := .busy, reserved := u.reserved + slots
    reports := putFixed (.credit ⟨u.retained.ledger.c - o.amount, .busy, 0, 0, 0⟩) u.reports }

/-- A state after the start of a payout of the whole credit whose plan is not empty: the credit to payout pending, PAYOUT, CREDIT
issued, the plan's first entry current and, with the door closed, its motor on (R94, R150, R151). -/
def State.payoutBegun (cause : PayoutCause) (e : PlanEntry) (es : List PlanEntry) (u : State) : State :=
  { u with
    retained := { u.retained with
      ledger := { u.retained.ledger with pp := u.retained.ledger.pp + u.retained.ledger.c, c := 0 } }
    purchase := .payout
    payout := some ⟨cause, u.retained.ledger.c, [], some e, !u.doorOpen, es, false, Vector.replicate 4 0,
      Vector.replicate 4 false⟩
    tubes := if u.doorOpen then u.tubes
      else u.tubes.set e.tube { u.tubes.get e.tube with dispenser := .running, lastValue := e.value }
    reports := putFixed (.credit ⟨0, .payout, 0, 0, 0⟩) u.reports }

/-- A state after a payout's end: what remained of Pp back to credit, PAYOUT DONE in the reservation the payout held, the purchase at
rest, CREDIT issued (R94, R154, R86). -/
def State.payoutEnded (p : Payout) (u : State) : State :=
  let l := u.retained.ledger
  let rest : PurchaseState := if u.card.binding.isSome = true ∨ l.c + l.pp ≠ 0 then .opened else .idle
  { u with
    retained := { u.retained with ledger := { l with c := l.c + l.pp, pp := 0 } }
    purchase := rest, payout := none, reserved := u.reserved - 1
    reports := putFixed (.credit ⟨l.c + l.pp, rest, 0, 0, 0⟩)
      (u.reports ++ [Report.payoutDone ⟨p.cause, p.amount, p.amount - l.pp, l.pp, p.paid, p.faulted⟩]) }

/-! ## What a template line prints (R159, R160) -/

/-- Every character is a decimal digit. -/
def AllDigits (t : List Byte) : Prop := ∀ b ∈ t, 0x30 ≤ b.toNat ∧ b.toNat ≤ 0x39

/-- The number that decimal digits spell. -/
def spelled (t : List Byte) : Nat := t.foldl (fun n b => 10 * n + (b.toNat - 0x30)) 0

/-- A number as decimal digits with no leading zeros; 0 is the single digit 0 (R160). -/
structure NumberText (v : Nat) (t : List Byte) : Prop where
  digits : AllDigits t
  value : spelled t = v
  nonempty : t ≠ []
  lead : t.head? = some 0x30 → t = [0x30]

/-- The lowest n digits of a number, leading zeros kept (R160). -/
structure FixedText (n v : Nat) (t : List Byte) : Prop where
  digits : AllDigits t
  value : spelled t = v % 10 ^ n
  length : t.length = n

/-- Money: whole units, a full stop, two digits (R160). -/
def MoneyText (v : Nat) (t : List Byte) : Prop := ∃ a b, t = a ++ 0x2E :: b ∧ NumberText (v / 100) a ∧ FixedText 2 (v % 100) b

/-- A date: the day number as six digits (R160). -/
def DateText (day : Nat) (t : List Byte) : Prop := FixedText 6 day t

/-- A time: the second of day as hh:mm (R160). -/
def TimeText (second : Nat) (t : List Byte) : Prop :=
  ∃ a b, t = a ++ 0x3A :: b ∧ FixedText 2 (second / 3600) a ∧ FixedText 2 (second % 3600 / 60) b

/-- A formatted text put into a field of a width, asterisks where it is wider (R160). -/
structure Fitted (toRight : Bool) (width : Nat) (t out : List Byte) : Prop where
  asterisks : width < t.length → out = List.replicate width 0x2A
  right : t.length ≤ width → toRight = true → out = List.replicate (width - t.length) 0x20 ++ t
  left : t.length ≤ width → toRight = false → out = t ++ List.replicate (width - t.length) 0x20

/-- A value in a format, right-aligned in its field, and spaces where the job has none (R160). -/
def RightPrinted (format : Nat → List Byte → Prop) (width : Nat) (v : Option Nat) (out : List Byte) : Prop :=
  (v = none → out = List.replicate width 0x20) ∧ ∀ x, v = some x → ∃ t, format x t ∧ Fitted true width t out

/-- What a field mark of a code and a width prints for a job's values (R160). That a time and the four digits are right-aligned, as numbers
and dates are, is the model's choice (assumption 44). -/
def FieldPrinted (v : FieldValues) (code width : Nat) (out : List Byte) : Prop :=
  match code with
  | 1 => RightPrinted MoneyText width v.price out
  | 2 => RightPrinted MoneyText width v.change out
  | 3 => (v.productName = none → out = List.replicate width 0x20) ∧
      ∀ n, v.productName = some n → ∃ t k, n = t ++ List.replicate k 0x20 ∧ t.getLast? ≠ some 0x20 ∧ Fitted false width t out
  | 4 => RightPrinted NumberText width v.zones out
  | 5 => RightPrinted DateText width v.validFrom out
  | 6 => RightPrinted DateText width v.validTo out
  | 7 => RightPrinted DateText width v.day out
  | 8 => RightPrinted TimeText width v.second out
  | 9 => RightPrinted NumberText width v.txn out
  | 10 => RightPrinted NumberText width v.machineId out
  | 11 => RightPrinted (FixedText 4) width v.last4 out
  | 12 => RightPrinted MoneyText width v.newBalance out
  | 13 => RightPrinted MoneyText width v.bonus out
  | 14 => RightPrinted MoneyText width v.voucher out
  | 15 => RightPrinted NumberText width v.concession out
  | _ => False

/-- A line composed of a template text: literal characters stand, and every field mark is replaced by what it prints (R159, R160). -/
inductive Composed (v : FieldValues) : List Byte → List Byte → Prop where
  | nil : Composed v [] []
  | mark (code width : Byte) (rest out outs : List Byte) (hf : FieldPrinted v code.toNat width.toNat out) (h : Composed v rest outs) :
      Composed v (0x7C#8 :: code :: width :: rest) (out ++ outs)
  | literal (b : Byte) (rest outs : List Byte) (hm : b ≠ 0x7C#8) (h : Composed v rest outs) : Composed v (b :: rest) (b :: outs)

/-- The composed lines of a template under a TEMPLATE table: one for each of its entries, in ascending line number; each entry whose text
is well-formed prints what Composed says, as wide as its printed width (R159, R160, R165). -/
def LinesComposed (table : List TemplateLine) (template : Nat) (v : FieldValues) (lines : List (List Byte)) : Prop :=
  ∃ ls : List TemplateLine, ls.Perm (table.filter fun l => l.template == template) ∧ (ls.Pairwise fun a b => a.line ≤ b.line) ∧
    lines.length = ls.length ∧ ∀ (n : Nat) (l : TemplateLine) (x : List Byte) (w : Nat), ls[n]? = some l → lines[n]? = some x →
      Printed l.text w → Composed v l.text x ∧ x.length = w

/-- What the start of a print job changes: the job, with its lines composed of the active TEMPLATE table, and the tag, and the frame owed: an
ASK that the slot's presence owes goes first, and without one a LINE is owed where there is room and an ASK for room where there is none
(R159, R160, R163 to R166). Which ASK is owed, and that the one for presence is kept as one not for room, is read from R164 by inference
(assumption 26). -/
structure JobStarted (kind : JobKind) (txn template : Nat) (values : FieldValues) (u t : State) : Prop where
  frame : t = { u with printer := t.printer }
  job : t.printer.job = some ⟨kind, (u.printer.tag + 1) % 256, txn, template, values,
    (u.templateLines template).map fun l => composeText values l.text, 0, false⟩
  lines : LinesComposed ((u.retained.template.map Active.content).getD []) template values
    ((u.templateLines template).map fun l => composeText values l.text)
  tag : t.printer.tag = (u.printer.tag + 1) % 256
  state : t.printer.paper = u.printer.paper ∧ t.printer.head = u.printer.head ∧ t.printer.fault = u.printer.fault ∧
    t.printer.room = u.printer.room
  line : u.printer.owed ≠ .ask false → u.templateLines template ≠ [] → 0 < u.printer.room →
    t.printer.owed = .line ∧ t.printer.askWait = false
  asks : u.printer.owed ≠ .ask false → u.templateLines template ≠ [] → u.printer.room = 0 →
    t.printer.owed = .ask true ∧ t.printer.askWait = false
  presence : u.printer.owed = .ask false → t.printer.owed = .ask false ∧ t.printer.askWait = false

/-- A state after the start of a card write: the ISSUED record at the journal's tail and the write owed (R133, R137). -/
def State.writeStarted (o : OpRecord) (b : Binding) (content : Written) (u : State) : State :=
  { u with
    retained := { u.retained with
      journal := u.retained.journal ++
        [⟨.issued, o.txn, b.card, o.kind, o.amount, o.bonus, b.sequence, u.machineId, content, o.stamp⟩] }
    card := { u.card with write := .owed ⟨b.card, b.sequence, content, u.machineId, o.txn⟩ } }

/-- What follows a change of a tube's count or fault: every low flag is that of the new state, and the TUBES report is issued exactly where
a low or faulted flag differs from the state before the event (R147). -/
structure FlagsTested (before u t : State) : Prop where
  frame : t = { u with tubes := t.tubes, reports := t.reports }
  tubes : ∀ i : Fin 4, t.tubes.get i = { u.tubes.get i with low := u.isLow i }
  same : (∀ i : Fin 4, (t.tubes.get i).low = (before.tubes.get i).low ∧
    (t.tubes.get i).faulted = (before.tubes.get i).faulted) → t.reports = u.reports
  moved : (¬∀ i : Fin 4, (t.tubes.get i).low = (before.tubes.get i).low ∧
    (t.tubes.get i).faulted = (before.tubes.get i).faulted) →
    t.reports = putFixed (.tubes (Vector.ofFn fun i => ⟨u.tubeCount i, (t.tubes.get i).faulted, (t.tubes.get i).low⟩)) u.reports

/-! ## Validation (R24) -/

/-- Every entry passes a check. -/
def AllPass (ok : List (List Byte) → Nat → List Byte → Bool) (es : List (List Byte)) : Prop :=
  ∀ (n : Nat) (h : n < es.length), ok es n es[n] = true

/-- The entry at a position is the first that fails a check. -/
def FirstFails (ok : List (List Byte) → Nat → List Byte → Bool) (es : List (List Byte)) (n : Nat) : Prop :=
  ∃ h : n < es.length, ok es n es[n] = false ∧ ∀ (m : Nat) (hm : m < n), ok es m es[m] = true

/-! ## Activations (R27, R28, R43, R82) -/

/-- An activation of the kind has fallen due and waits for its block (R27). -/
def State.waits (k : TableKind) (u : State) : Bool := decide ((u.loads.get k).st = .scheduled) && (u.loads.get k).fallen

/-- A state after the pending copy of a kind became its active copy, its pending state NONE: TABLE in the reserved slot, or without a
reservation in a free one (R28, R31; assumption 35; the NONE copy's total, assumption 46). -/
def State.installed (k : TableKind) (waited : Bool) (u : State) : State :=
  let l := u.loads.get k
  let report : Report := .table ⟨k, l.generation, u.retained.generation k, u.clock.day, u.clock.second, u.clock.valid, waited⟩
  let held := decide (0 < u.reserved)
  { u with
    retained := Retained.install k l u.retained, loads := u.loads.set ⟨.none, 0, 0, [], none, none, .now, false⟩ k
    reports := if held || decide (generalCount u.reports < 11) then u.reports ++ [report] else u.reports
    reserved := if held then u.reserved - 1 else u.reserved }

/-- What a COIN activation makes of the coils: DVT released, the diverter commanded to CASHBOX, and the first period of the new P begun, in
which EB, AG and DVK begin a fresh PULL-IN where they are in drive, and DVK also where it is not and the quiet count has reached the
new N; the sensed states are kept (R72, R74, R75, R82; assumptions 25 and 47). -/
structure Reprofiled (h : CoinHeader) (d p : CoilDriver) : Prop where
  frame : p = { d with coils := p.coils, command := .cashBox, target := p.target, quiet := p.quiet, driven := p.driven }
  eb : p.coils.eb = if d.coils.eb.phase = .off then d.coils.eb else ⟨.pullIn, true, pullInCount h .eb, d.coils.eb.sensed⟩
  ag : p.coils.ag = if d.coils.ag.phase = .off then d.coils.ag else ⟨.pullIn, true, pullInCount h .ag, d.coils.ag.sensed⟩
  dvt : p.coils.dvt = ⟨.off, false, 0, d.coils.dvt.sensed⟩
  driven : d.coils.dvk.phase ≠ .off →
    p.coils.dvk = ⟨.pullIn, true, pullInCount h .dvk, d.coils.dvk.sensed⟩ ∧ p.target = none ∧ p.quiet = d.quiet ∧ p.driven = true
  begins : d.coils.dvk.phase = .off → d.faulted = false → h.nonOverlap ≤ d.quiet →
    p.coils.dvk = ⟨.pullIn, true, pullInCount h .dvk, d.coils.dvk.sensed⟩ ∧ p.target = none ∧ p.quiet = 0 ∧ p.driven = true
  waits : d.coils.dvk.phase = .off → (d.faulted = true ∨ d.quiet < h.nonOverlap) →
    p.coils.dvk = d.coils.dvk ∧ p.target = some false ∧ p.quiet = d.quiet ∧ p.driven = false

/-- An activation that takes place: the copy installed; FARE then tests the entry; COIN recomputes the low flags, tests the entry, gives
the coils the new profile, and where the failing conditions changed the CHUTE report shows the coils after it (R28, R56, R64, R82,
R147). -/
def Activated (k : TableKind) (waited : Bool) (u t : State) : Prop :=
  match k with
  | .hotlist | .passage | .template => t = u.installed k waited
  | .fare => Tested (u.installed k waited) t
  | .coin => ∃ (v w : State) (p : CoilDriver), FlagsTested u (u.installed k waited) v ∧ Tested v w ∧
      Reprofiled (parseCoinHeader ((u.loads.get .coin).entries.headD [])) w.coils p ∧
      (w.causes = u.causes → t = { w with coils := p }) ∧
      (w.causes ≠ u.causes → t = { w with
        coils := p
        reports := putFixed (.chute ⟨w.chute.state, w.chute.fault, w.causes, w.chute.last, p.status⟩) w.reports })

/-- A kind's owning block makes its activation wait: COIN while the chute is not IDLE, TEMPLATE during a print job (R27). -/
def State.defers (k : TableKind) (u : State) : Bool :=
  match k with
  | .coin => decide (u.chute.state ≠ .idle)
  | .template => u.printer.job.isSome
  | .fare | .hotlist | .passage => false

/-- A schedule falls due: its activation takes place at once, or waits for its block (R27, R43). -/
def FellDue (k : TableKind) (u t : State) : Prop :=
  let v : State := { u with loads := u.loads.set { u.loads.get k with fallen := true } k }
  (u.defers k = true → t = v) ∧ (u.defers k = false → Activated k false v t)

/-- A kind's AT schedule falls due at a test: the clock is valid and at or past its point, and it has not fallen due before (R43). -/
def State.dueNow (k : TableKind) (u : State) : Bool :=
  match (u.loads.get k).due with
  | .now => false
  | .at d sec => decide ((u.loads.get k).st = .scheduled ∧ (u.loads.get k).fallen = false ∧ u.clock.valid = true ∧
      (d < u.clock.day ∨ (d = u.clock.day ∧ sec ≤ u.clock.second)))

/-- The test of the schedules of some kinds one after another, and how many fell due (R43). -/
def KindsTested : List TableKind → Nat → State → State → Prop
  | [], n, u, t => n = 0 ∧ t = u
  | k :: ks, n, u, t =>
    (u.dueNow k = true → ∃ m v, n = m + 1 ∧ FellDue k u v ∧ KindsTested ks m v t) ∧
      (u.dueNow k = false → KindsTested ks n u t)

/-- The test of every schedule in kind order: COIN, FARE, HOTLIST, PASSAGE, TEMPLATE (R43). -/
def SchedulesTested (n : Nat) (u t : State) : Prop := KindsTested [.coin, .fare, .hotlist, .passage, .template] n u t

/-- The activation that waits for a block takes place now that the block allows it; without one nothing happens (R27). -/
def WaitingTaken (k : TableKind) (u t : State) : Prop :=
  (u.waits k = true → Activated k true u t) ∧ (u.waits k = false → t = u)

/-! ## The chute (R53, R61) -/

/-- The coils with AG released and the diverter commanded to its cash-box rest: DVT released, DVK the target unless it is in drive already
(R53, R74). -/
def CoilDriver.atRest (d : CoilDriver) : CoilDriver :=
  { d with coils := { d.coils with ag := d.coils.ag.release, dvt := d.coils.dvt.release }
           command := .cashBox, target := if d.coils.dvk.phase = .off then some false else none }

/-- A state, then its CHUTE report issued as it stands (R56, R84). -/
def State.chuteReported (v : State) : State :=
  { v with reports := putFixed (.chute ⟨v.chute.state, v.chute.fault, v.causes, v.chute.last, v.coils.status⟩) v.reports }

/-- The chute's entry into FAULT: the coin in flight cleared, the idle wait running where the kind clears by itself and all sensors are
idle, the coils as the cause leaves them, the entry tested, the CHUTE report issued (R53, R54). -/
def Faulted (k : FaultKind) (coils : CoilDriver) (u t : State) : Prop :=
  ∃ v, Tested { u with
      chute := { u.chute with state := .fault, fault := some k, coin := none
                              timer := if k.selfClears = true ∧ allIdle u.chute.active = true then some 2000 else none }
      coils := coils } v ∧ t = v.chuteReported

/-! ## Ends of exchanges, of chute passages and of operations (R12, R50, R93) -/

/-- The M-line exchange has ended: the receiver accepts nothing, its FIFO is empty, its assembler HUNTING (R12). -/
def State.exchangeEnded (u : State) : State :=
  { u with exchange := none
           mRx := { u.mRx with fifo := [], overrunNext := false, gapRunning := false, asm := .hunting } }

/-- The chute idle: no fault, no coin in flight, no timer (R50, R51, R54). -/
def Chute.idled (c : Chute) : Chute := { c with state := .idle, fault := none, coin := none, timer := none }

/-- The event that brings the chute to IDLE: a COIN activation that waited takes place, and the entry is tested (R27, R50, R51, R54,
R64). -/
def ToIdle (u t : State) : Prop := ∃ v, WaitingTaken .coin { u with chute := u.chute.idled } v ∧ Tested v t

/-- A state after a payout of the whole credit whose plan is empty: it has ended at once with the whole as shortfall (R150, R154). -/
def State.payoutEmpty (cause : PayoutCause) (u : State) : State :=
  let l := u.retained.ledger
  { u with
    retained := { u.retained with ledger := { l with c := 0, pp := l.pp + l.c } }
    reports := putFixed (.credit ⟨0, .payout, 0, 0, 0⟩) u.reports }.payoutEnded
      ⟨cause, l.c, [], none, false, [], false, Vector.replicate 4 0, Vector.replicate 4 false⟩

/-- A payout of the whole credit has started, or with an empty plan ended, and the entry is tested (R94, R150, R154). -/
def PaidOut (cause : PayoutCause) (u t : State) : Prop :=
  (∀ e es, (u.plan u.retained.ledger.c.toNat).1 = e :: es → Tested (u.payoutBegun cause e es) t) ∧
    ((u.plan u.retained.ledger.c.toNat).1 = [] → Tested (u.payoutEmpty cause) t)

/-- The purchase at rest with CREDIT issued: OPEN with a card bound or credit, IDLE otherwise (R86, R99). -/
def State.rested (u : State) : State :=
  let rest : PurchaseState := if u.card.binding.isSome = true ∨ u.retained.ledger.c ≠ 0 then .opened else .idle
  { u with purchase := rest, reports := putFixed (.credit ⟨u.retained.ledger.c, rest, 0, 0, 0⟩) u.reports }

/-- What follows the end of a sale: change where it is due, else the second reservation is released and the purchase comes to rest
(R93). -/
def AfterSale (o : OpRecord) (isVoid : Bool) (u t : State) : Prop :=
  (isVoid = false → (∃ x, o.sale = some x ∧ x.keepCredit = false) → u.retained.ledger.c ≠ 0 → PaidOut (.change o.txn) u t) ∧
    ((isVoid = true ∨ (∃ x, o.sale = some x ∧ x.keepCredit = true) ∨ u.retained.ledger.c = 0) →
      Tested { u with reserved := u.reserved - 1 }.rested t)

/-- A state after an operation's end: its money moved, its record cleared, its outcome report in the first reservation (R92). -/
def State.opEnded (l : Ledger) (r : Report) (u : State) : State :=
  { u with retained := { u.retained with ledger := l, op := none }, reports := u.reports ++ [r], reserved := u.reserved - 1 }

/-- A state with its CARD report issued as it stands (R144). -/
def State.cardReported (u : State) : State :=
  { u with reports := putFixed (.card ⟨u.bindingReport, u.slots.map Slot.present, 0⟩) u.reports }

/-- What follows the end of a card operation whose outcome report is issued: a top-up releases its second reservation and comes to rest, a
sale goes on as AfterSale says (R93, R139, R140). -/
def AfterCard (o : OpRecord) (isVoid : Bool) (u t : State) : Prop :=
  (o.kind = .topup → Tested { u with reserved := u.reserved - 1 }.rested t) ∧ (o.kind ≠ .topup → AfterSale o isVoid u t)

/-! ## The end of a binding (R131) -/

/-- A state with its binding ended: an owed HOLD withdrawn, the CARD report issued (R131). -/
def State.unbound (u : State) : State :=
  { u with card := { u.card with
      binding := none, owed := if u.card.owed = Class3.hold then .none else u.card.owed } }.cardReported

/-- A state with its card write ended: the binding ends too where the card has gone (R131, R139). -/
def State.writeClosed (u : State) : State :=
  let v : State := { u with card := { u.card with write := .none } }
  if u.card.binding.any Binding.gone then v.unbound else v

/-- A binding ends with no write in flight: OPEN without credit comes to rest as IDLE, with CREDIT issued and the entry tested (R86,
R131). -/
def Departed (u t : State) : Prop :=
  (u.purchase = .opened → u.retained.ledger.c = 0 → Tested { u.unbound with
    purchase := .idle, reports := putFixed (.credit ⟨u.retained.ledger.c, .idle, 0, 0, 0⟩) u.unbound.reports } t) ∧
    ((u.purchase ≠ .opened ∨ u.retained.ledger.c ≠ 0) → t = u.unbound)

/-- A card leaves: without a binding nothing happens; with no write in flight the binding ends; with one the gone mark is set (R131). -/
def CardLeft (u t : State) : Prop :=
  (u.card.binding = none → t = u) ∧
    (∀ b, u.card.binding = some b → u.card.write = .none → Departed u t) ∧
    (∀ b, u.card.binding = some b → u.card.write ≠ .none →
      t = { u with card := { u.card with binding := some { b with gone := true } } })

/-- A card write of an operation ends uncertain: its record UNCERTAIN in its place, K to H, UNCERTAIN in the first reservation, the binding
ended where the card has gone or its slot is ABSENT and kept otherwise, CARD issued, then what follows (R93, R132, R140). -/
def WriteUncertain (o : OpRecord) (w : CardWrite) (cause : UncertainCause) (u t : State) : Prop :=
  let l := u.retained.ledger
  let ended : State := { u with
      retained := { u.retained with
        journal := u.retained.journal.map fun (r : JournalRecord) =>
          if r.txn = w.txn then { r with state := RecordState.uncertain } else r } }.opEnded
    { l with h := l.h + l.k, k := 0 } (.uncertain ⟨o.txn, o.kind, w.card, o.amount, o.bonus, o.stamp⟩ cause)
  let closed : State := { ended with card := { u.card with write := .none } }
  AfterCard o false (if cause = .absent ∨ u.card.binding.any Binding.gone = true then closed.unbound else closed.cardReported) t

/-- A state with a presented card bound: its fields as shown, the blocked mark by the hotlist, HOLD owed, the purchase OPEN, CREDIT issued
where asked for, and CARD issued (R126, R128, R129). -/
def State.boundTo (p : Presentation) (credit : Bool) (u : State) : State :=
  let b : Binding := ⟨p.card, p.concession, p.balance, p.sequence, p.pass, u.hotlisted p.card, false⟩
  { u with
    card := { u.card with binding := some b, owed := .hold }, purchase := .opened
    reports := if credit then putFixed (.credit ⟨u.retained.ledger.c, .opened, 0, 0, 0⟩) u.reports
      else u.reports }.cardReported

/-- The first four conditions of R126 for acting on a presentation. -/
def State.presentable (u : State) : Prop :=
  u.card.binding = none ∧ u.card.owed ≠ .release ∧ (u.purchase = .idle ∨ u.purchase = .opened) ∧ u.chute.state ≠ .accepting

/-! ## The end of a print job (R119, R158, R167 to R169) -/

/-- The reservations of the print job in progress: two for a TICKET, one for a VOUCHER or a RECEIPT (R31). -/
def State.jobReserved (u : State) : Prop :=
  ∀ j, u.printer.job = some j → (j.kind = .ticket → 2 ≤ u.reserved) ∧ (j.kind ≠ .reprint → 1 ≤ u.reserved)

/-- The block that owns a job is told of its end, complete or failed: a TICKET settles or voids its sale, a VOUCHER its voucher, a RECEIPT
ends PRINTED or LOST, a REPRINT has no further effect (R92, R93, R119, R158, R169). -/
def OwnerTold (j : Job) (failure : Option VoidCause) (u t : State) : Prop :=
  let l := u.retained.ledger
  match j.kind with
  | .reprint => t = u
  | .receipt => t = { u with
      retained := { u.retained with receiptMarker := none }, reserved := u.reserved - 1
      reports := u.reports ++ [.receipt j.txn (match failure with
        | none => .printed
        | some c => .lost c)] }
  | .ticket => ∀ o, u.retained.op = some o →
      (failure = none → AfterSale o false (u.opEnded { l with sold := l.sold + l.k, k := 0 } (.saleDone o.saleReport)) t) ∧
      (∀ c, failure = some c → AfterSale o true (u.opEnded { l with c := l.c + l.k, k := 0 } (.saleVoid o.saleReport c)) t)
  | .voucher => ∀ o, u.retained.op = some o →
      (failure = none → Tested
        (u.opEnded { l with vouchered := l.vouchered + l.k, k := 0 } (.voucherDone ⟨o.txn, o.amount, o.stamp⟩)).rested t) ∧
      (∀ c, failure = some c → Tested
        (u.opEnded { l with c := l.c + l.k, k := 0 } (.voucherVoid ⟨o.txn, o.amount, o.stamp⟩ c)).rested t)

/-- A print job ends: the frame owed is withdrawn and the record cleared, its owner is told, and a TEMPLATE activation that waited takes
place (R27, R167, R168). -/
def JobEnded (j : Job) (failure : Option VoidCause) (u t : State) : Prop :=
  ∃ v, OwnerTold j failure { u with printer := { u.printer with job := none, owed := .none, askWait := false } } v ∧
    WaitingTaken .template v t

/-! ## Outcomes of exchanges (R12, R130, R164, R166, R167) -/

/-- What the print unit owes with no print frame on the line: in SENDING, with no ASK owed for another reason, the CUT after the last line,
the next LINE while there is room, and an ASK while there is none, except while the 100 ms wait for it runs (R164, R166). -/
structure PrintOwes (p q : Printer) : Prop where
  frame : q = { p with owed := q.owed, askWait := q.askWait }
  idle : p.job = none → q = p
  waiting : ∀ j, p.job = some j → (j.awaitCut = true ∨ p.owed = .ask false) → q = p
  cut : ∀ j, p.job = some j → j.awaitCut = false → p.owed ≠ .ask false → j.lines.length ≤ j.next →
    q.owed = .cut ∧ q.askWait = false
  line : ∀ j, p.job = some j → j.awaitCut = false → p.owed ≠ .ask false → j.next < j.lines.length → 0 < p.room →
    q.owed = .line ∧ q.askWait = false
  asks : ∀ j, p.job = some j → j.awaitCut = false → p.owed ≠ .ask false → j.next < j.lines.length → p.room = 0 →
    p.askWait = false → q.owed = .ask true ∧ q.askWait = false
  delays : ∀ j, p.job = some j → j.awaitCut = false → p.owed ≠ .ask false → j.next < j.lines.length → p.room = 0 →
    p.askWait = true → q.owed = .none ∧ q.askWait = true

/-- The unit that owed the frame of an exchange is told whether a valid answer came. A HOLD or RELEASE without one is owed again, a HOLD
only while its card is bound; a LINE with one moves the job it belongs to on; a CUT without one is owed again while its job waits;
an ASK without one is owed again, and one for room with one starts the 100 ms wait where the count is still 0 and no ASK became owed
meanwhile; the print unit then owes what it does (R12, R130, R164, R166, R167; assumption 26). -/
def Told (o : Owner) (valid : Bool) (u t : State) : Prop :=
  match o with
  | .cardWrite | .forward | .poll => t = u
  | .hold => t = if valid = true ∨ u.card.binding = none then u else { u with card := { u.card with owed := .hold } }
  | .release => t = if valid = true then u else { u with card := { u.card with owed := .release } }
  | .printLine tag => ∃ q, t = { u with printer := q } ∧ PrintOwes { u.printer with
      job := u.printer.job.map fun (j : Job) => if valid = true ∧ j.tag = tag then { j with next := j.next + 1 } else j } q
  | .printCut tag => ∃ q, t = { u with printer := q } ∧ PrintOwes { u.printer with
      owed := if valid = false ∧ u.printer.job.any (fun j => j.awaitCut && decide (j.tag = tag)) = true then .cut
        else u.printer.owed } q
  | .printAsk forRoom => ∃ q, t = { u with printer := q } ∧ PrintOwes { u.printer with
      owed := if valid = false then .ask forRoom else u.printer.owed
      askWait := u.printer.askWait || (valid && forRoom && decide (u.printer.room = 0 ∧ u.printer.owed ≠ .ask true) &&
        u.printer.job.any fun j => !j.awaitCut && decide (j.next < j.lines.length)) } q

/-! ## Answers of modules (R11, R12, R15) -/

/-- A valid answer comes in an exchange with a PRESENT slot of a role, whatever frame the exchange carried (R12). -/
structure Answers (i : Fin 6) (o : Owner) (r : Role) (f : Frame) (s : State) : Prop where
  running : s.running = true
  exchange : ∃ g, s.exchange = some ⟨.slot i, o, g⟩
  role : (s.slots.get i).role = r
  present : (s.slots.get i).present = true
  src : f.src = slotAddress i
  dest : f.dest = 0 ∨ f.dest = 14

/-- A state with a slot's misses cleared (R15). -/
def State.heard (i : Fin 6) (u : State) : State := { u with slots := u.slots.set i { u.slots.get i with miss := 0 } }

/-- A command ends the exchange of an owner with a valid answer whose disposition leaves d (R12). -/
def EndsWith (o : Owner) (d : State) (r : Host.Outcome State Fault Refusal) : Prop :=
  ∃ t, Told o true d.exchangeEnded t ∧ r = .next t.transmit

/-- An owner whose exchange carries a frame of the print unit (R162). -/
def Owner.isPrint : Owner → Bool
  | .printLine _ | .printCut _ | .printAsk _ => true
  | .cardWrite | .hold | .release | .forward | .poll => false

/-! ## Printer notices (R162 to R168) -/

/-- The first failing item of a STATE notice (R168). -/
def FailsJob (paper : Paper) (head : Head) (fault : PrinterFault) (c : VoidCause) : Prop :=
  (fault = .set ∧ c = .printerFault) ∨ (fault ≠ .set ∧ head = .opened ∧ c = .headOpen) ∨
    (fault ≠ .set ∧ head ≠ .opened ∧ paper = .out ∧ c = .paperOut)

/-- ROOM taken while a frame of the print unit is on the line: a count above 0 withdraws an ASK owed for room and ends a wait for one; a
count that falls to 0 while a job in SENDING has lines left owes an ASK at once, unless one is owed for another reason; nothing else
changes but the count (R164). -/
structure RoomInExchange (c : Nat) (p q : Printer) : Prop where
  rises : 0 < c → q = { p with room := c, askWait := false, owed := if p.owed = .ask true then .none else p.owed }
  falls : c = 0 → 0 < p.room → p.owed ≠ .ask false → ∀ j, p.job = some j → j.awaitCut = false → j.next < j.lines.length →
    q = { p with room := 0, askWait := false, owed := .ask true }
  stays : c = 0 → (p.room = 0 ∨ p.owed = .ask false ∨ ∀ j, p.job = some j → j.awaitCut = true ∨ j.lines.length ≤ j.next) →
    q = { p with room := 0 }

/-- One notice taken whole in an exchange of an owner. ROOM sets the room count, and the print unit then owes what it does; while a frame
of its own is on the line, only a count above 0 and one that falls to 0 change what it owes. CUT DONE completes the job that waits for
its cut under that tag, and is ignored otherwise. STATE replaces the printer state, issues PRINTER with the deltas where anything
changed, and fails a job by its first failing item (R162 to R164, R167, R168). -/
def NoticeTaken (o : Owner) (n : Notice) (u t : State) : Prop :=
  match n with
  | .room c =>
      (o.isPrint = true → ∃ q, t = { u with printer := q } ∧ RoomInExchange c u.printer q) ∧
      (o.isPrint = false → ∃ q, t = { u with printer := q } ∧ PrintOwes { u.printer with room := c } q)
  | .cutDone tag =>
      (∀ j, u.printer.job = some j → j.awaitCut = true → j.tag = tag → JobEnded j none u t) ∧
      ((∀ j, u.printer.job = some j → j.awaitCut = false ∨ j.tag ≠ tag) → t = u)
  | .state paper head fault =>
      let p := u.printer
      let moved := decide (p.paper ≠ paper ∨ p.head ≠ head ∨ p.fault ≠ fault)
      let v : State := { u with
        printer := { p with paper := paper, head := head, fault := fault }
        reports := if moved then putFixed (.printer ⟨paper, head, fault, decide (p.paper ≠ paper), decide (p.head ≠ head),
          decide (p.fault ≠ fault), u.slots.map Slot.present, 0⟩) u.reports else u.reports }
      (∀ j c, p.job = some j → FailsJob paper head fault c → JobEnded j (some c) v t) ∧
      ((p.job = none ∨ ∀ c, ¬FailsJob paper head fault c) → t = v)

/-- The notices of one frame taken in the order they stand (R162). -/
def NoticesTaken (o : Owner) : List Notice → State → State → Prop
  | [], u, t => t = u
  | n :: ns, u, t => ∃ v, NoticeTaken o n u v ∧ NoticesTaken o ns v t

/-! ## Starts (R172 to R175) -/

/-- Retained memory after a warm start's resolution: an interrupted print sale or voucher voided, an interrupted card write held with its
record UNCERTAIN, an interrupted payout back to credit, an interrupted receipt lost (R101, R173). -/
def resolved (r : Retained) : Retained :=
  let p : Retained := match r.op with
    | none => r
    | some o =>
      if o.kind = .printedSale ∨ o.kind = .voucher then
        { r with ledger := { r.ledger with c := r.ledger.c + r.ledger.k, k := 0 }, op := none }
      else
        { r with ledger := { r.ledger with h := r.ledger.h + r.ledger.k, k := 0 }, op := none
                 journal := r.journal.map fun j => if j.txn = o.txn then { j with state := .uncertain } else j }
  { p with ledger := { p.ledger with c := p.ledger.c + p.ledger.pp, pp := 0 }, receiptMarker := none }

/-- A start over a retained content: every block but those that a start keeps or samples stands at its start values; the low flags and the
failing entry conditions are derived without a report; with a COIN table DVK's pull-in begins (assumption 25); START is the one report
issued, and the transmitter, idle after the start, takes it at once (R6, R16, R35, R44, R64, R65, R83, R101, R145, R147, R172, R174,
R175). What the spec gives no start value stands at that of State.reset (assumptions 37 and 48). -/
structure Started (report : StartReport) (content : Retained) (c : Clock) (pins : Pins) (s t : State) : Prop where
  frame : t = { State.reset with
    power := s.power, resetHeld := s.resetHeld, retained := content, cRate := cRateOf pins.rate1 pins.rate0, clock := c
    chute := { State.reset.chute with active := pins.sensors }, doorOpen := pins.doorOpen
    purchase := if content.ledger.c = 0 then .idle else .opened
    tubes := t.tubes, coils := t.coils, causes := t.causes, sending := some ⟨(Report.start report).frame, none⟩
    pending := s.pending }
  tubes : ∀ i : Fin 4, t.tubes.get i = ⟨false, t.isLow i, .off, 0⟩
  causes : t.causes = t.failing
  noTable : content.coin = none → t.coils = State.reset.coils
  table : ∀ a, content.coin = some a → a.content.header.nonOverlap ≤ 15 →
    t.coils = { State.reset.coils with
      coils := { State.reset.coils.coils with dvk := ⟨.pullIn, true, pullInCount a.content.header .dvk, false⟩ }
      target := none, quiet := 0, driven := true }

/-- A warm start of a cause (R101, R173, R175). -/
def WarmStarted (cause : StartCause) (pins : Pins) (s t : State) : Prop :=
  let r := s.retained
  let q := resolved r
  let c : Clock := if s.clock.stopLatched then { s.clock with valid := false, stopLatched := false } else s.clock
  Started ⟨false, cause, q.ledger.c, q.ledger.h, q.journal.length, q.txn, c.valid,
    [q.coin.map Active.generation, q.fare.map Active.generation, q.hotlist.map Active.generation,
      q.passage.map Active.generation, q.template.map Active.generation],
    r.op.map fun o => (o.kind, o.txn, if o.kind = .printedSale ∨ o.kind = .voucher then .voided else .uncertain),
    if r.ledger.pp = 0 then none else some r.ledger.pp, r.receiptMarker⟩ q c pins s t

/-- A cold start of a cause (R35, R101, R174, R175). -/
def ColdStarted (cause : StartCause) (pins : Pins) (s t : State) : Prop :=
  Started ⟨true, cause, 0, 0, 0, 0, false, [none, none, none, none, none], none, none, none⟩ .cleared
    ⟨0, 0, 0, 1, false, s.clock.running, false⟩ pins s t

/-- Commands run one after another, while each answers a next state. -/
def execAll : List Instr → State → Host.Outcome State Fault Refusal
  | [], s => .next s
  | c :: cs, s =>
    match exec c s with
    | .next t => execAll cs t
    | .fault f => .fault f
    | .refused r => .refused r

end Sys2Proof.Machine
end

