-- ==== Sys2Proof/Certificates/Slice0/Obligations.lean ====
section
/-! DEFINITION. The statements for the provers. A frame is written as an equation: what an update of the earlier state by the
named fields of the later one leaves out is unchanged. While the part takes events, every event, one that changes nothing else among
them, ends with State.transmit: an idle transmitter takes its next frame where one waits (R6, TransmitterOrder, assumption 10). In
the states that QueuesBounded keeps none waits for an idle transmitter before an event, so that an event that answers s.transmit
there leaves s as it is. The order of the reports that one event issues is read from the spec by inference (assumption 14). -/

open Sys2Proof Sys2Proof.Machine

/-! ## The queue of commands and the reset state -/

/-- A step runs the command at the front of the queue on the state with the queue's rest; with no command waiting it changes nothing, which
is the model's choice (assumption 3). -/
def Obligations.StepRunsFrontCommand : Prop :=
  ∀ s : State, (∀ (c : Instr) (rest : List Instr), s.pending = c :: rest → step s = exec c { s with pending := rest }) ∧
    (s.pending = [] → step s = .next s)

/-- Every command, in every state, answers a next state and leaves the queue of waiting commands as it is: no command
faults, and none is refused by the model (read from the spec by inference, assumption 40). What each command does is said of it below. -/
def Obligations.EveryCommandCompletes : Prop := ∀ (c : Instr) (s : State), ∃ t, exec c s = .next t ∧ t.pending = s.pending

/-- POWER_RETURN with retained memory's check bad is a cold start of cause CHECK, and it leaves the reset state: UNSET, no
money, no tables, no records, every coil OFF with the quiet count 15, the clock at day 0 and not valid, and START taken by the
transmitter (R6, R172, R174, R175, R83). The model's choices: the reset state's pin levels and running time base (assumption 2), and 0
for the machine id, the capture counts and the tubes' last values, to which the spec gives no start value (assumption 37), and slots of
no role that are not PRESENT (assumption 48). -/
def Obligations.FirstPowerUpIsReset : Prop :=
  ∀ s : State, s.power = false → s.resetHeld = false → s.retainedGood = false → s.clock.running = true →
    exec (.powerReturn ⟨false, false, ⟨false, false, false, false⟩, false⟩) s =
      .next { State.reset with pending := s.pending }

/-- The reset state keeps every invariant stated below. -/
def Obligations.ResetKeepsInvariants : Prop :=
  Conserved State.reset ∧ QueueBounds State.reset.reports State.reset.reserved ∧ LineQueues State.reset ∧
    EntryTested State.reset ∧ DriveSafe State.reset.coils State.reset.chute.state ∧
    MoneyState State.reset.retained.op State.reset.retained.ledger.k State.reset.retained.ledger.pp
      State.reset.purchase State.reset.payout ∧ JournalKept State.reset ∧ ReservationsHeld State.reset ∧
    ChuteKept State.reset.chute State.reset.retained.ledger

/-! ## Invariants of every step -/

/-- INSERTED equals SOLD + TOPPED + PAID + VOUCHERED + WRITTEN_OFF + held + credit + committed + payout pending, modulo
2^32, after reset, and after every step from a state in which it does, every start included (R98). -/
def Obligations.MoneyConserved : Prop :=
  Conserved State.reset ∧ ∀ s t : State, Conserved s → step s = .next t → Conserved t

/-- General reports queued plus reservations never exceed 11, and the queue holds at most one report of each fixed kind
(R31). The reply list holds at most 4 replies, the forward queue and the upward queue at most 8 frames each, an exchange in progress
finds room in the upward queue, and no frame waits for an idle transmitter (R5, R6, R13, R17). -/
def Obligations.QueuesBounded : Prop :=
  (∀ s t : State, QueueBounds s.reports s.reserved → step s = .next t → QueueBounds t.reports t.reserved) ∧
    ∀ s t : State, LineQueues s → step s = .next t → LineQueues t

/-- While the part takes events, the failing entry-block conditions are those the last test found, and EB is commanded on exactly while none
fails. A condition fails exactly where the chute is not IDLE, the purchase neither IDLE nor OPEN, the part not READY, the part DETACHED, INHIBIT
on, the door open, a COIN or FARE table missing, or no enabled coin entry's value, the smallest, fits with the credit into the ceiling (R64);
that the last one fails too where a table is missing is read from the spec by inference (assumption 16). -/
def Obligations.EntryFollowsConditions : Prop :=
  (∀ s t : State, EntryTested s → step s = .next t → EntryTested t) ∧
  ∀ s : State,
    let e := s.failing
    (e.chute = true ↔ s.chute.state ≠ .idle) ∧ (e.purchase = true ↔ s.purchase ≠ .idle ∧ s.purchase ≠ .opened) ∧
    (e.state = true ↔ s.part ≠ .ready) ∧ e.detached = s.detached ∧ e.inhibit = s.inhibit ∧ e.door = s.doorOpen ∧
    (e.table = true ↔ s.retained.coin = none ∨ s.retained.fare = none) ∧
    (e.ceiling = false ↔ ∃ a f, s.retained.coin = some a ∧ s.retained.fare = some f ∧ ∃ x ∈ a.content.coins, x.enabled = true ∧
      (∀ y ∈ a.content.coins, y.enabled = true → x.value ≤ y.value) ∧
      s.retained.ledger.c.toNat + x.value ≤ f.content.header.ceiling) ∧
    (e.clear = true ↔ e.chute = false ∧ e.purchase = false ∧ e.state = false ∧ e.detached = false ∧ e.inhibit = false ∧
      e.door = false ∧ e.table = false ∧ e.ceiling = false)

/-- The two diverter coils are never driven at the same time, a side named as target has the other released (R75), and AG is driven only in
ACCEPTING (R77). The chute record keeps its form: a fault kind exactly in FAULT, the chute timer stopped in IDLE and running in every state of a
passage, the idle wait exactly where a kind that clears by itself finds all sensors idle, a coin in flight exactly in ACCEPTING and RETURNING,
with its accept decision exactly in ACCEPTING; and while that coin is in flight C + K + Pp and its value stay within the ceiling kept at its
decision (R46, R54, R62). That the return of a gap limit has a coin in flight too is read from R48 by inference (assumption 49). -/
def Obligations.CoilDrivesStaySafe : Prop :=
  (∀ s t : State, DriveSafe s.coils s.chute.state → step s = .next t → DriveSafe t.coils t.chute.state) ∧
    ∀ s t : State, ChuteKept s.chute s.retained.ledger → step s = .next t → ChuteKept t.chute t.retained.ledger

/-- The operation record is present exactly while the purchase is BUSY and the payout record exactly while it is PAYOUT, and
K and Pp are 0 without them (R85, R88, R89, R149). -/
def Obligations.MoneyStateKept : Prop :=
  ∀ s t : State, MoneyState s.retained.op s.retained.ledger.k s.retained.ledger.pp s.purchase s.payout →
    step s = .next t → MoneyState t.retained.op t.retained.ledger.k t.retained.ledger.pp t.purchase t.payout

/-- The journal holds at most 8 records, no two of one card or of one transaction number, at most the one of the operation in progress
ISSUED, and H is the sum of its UNCERTAIN amounts; the operation's amount is K, and its record, its card write and its print job go with
it (R90, R126, R133, R137). The states are those whose operation goes with BUSY (MoneyStateKept). -/
def Obligations.JournalHolds : Prop :=
  ∀ s t : State, MoneyState s.retained.op s.retained.ledger.k s.retained.ledger.pp s.purchase s.payout → JournalKept s →
    step s = .next t → JournalKept t

/-- The reservation count is always that of what is in progress: two slots for a sale or a top-up and one for a voucher until its outcome is
issued, one for a payout, for a RECEIPT job and for each SCHEDULED kind (R31, R142, R150). It makes the reservations that the statements
below take as premises. The states are those of MoneyStateKept and JournalHolds. -/
def Obligations.ReservationsKept : Prop :=
  ∀ s t : State, MoneyState s.retained.op s.retained.ledger.k s.retained.ledger.pp s.purchase s.payout → JournalKept s →
    ReservationsHeld s → step s = .next t → ReservationsHeld t

/-! ## Frames and requests as they stand on the line -/

/-- Reading back the frame by which the terminal processor sends a request gives the request, with every operand at every value
its encoding has (R176, R177, R178). A report and a reply go to 14 from 0, a reply under the KIND it answers, and their payloads are
their fields one after another, each a size and a number least significant byte first, as Report.layout and ReplyBody.layout list them;
each fits a frame (R29, R176, R177). The orders and forms those rules leave open are the model's choices (assumptions 19 and 46). -/
def Obligations.RequestEncodingReadsBack : Prop :=
  (∀ (i : Instr) (f : Frame), i.wf = true → frameOfRequest i = some f →
    f.wf = true ∧ f.dest = 0 ∧ f.src = 14 ∧ requestOf f.kind f.payload = some i) ∧
  (∀ r : Report, r.frame = ⟨14, 0, r.layout.1, fieldBytes r.layout.2⟩ ∧
    ((∀ x, r = .start x → x.generations.length = 5) → r.frame.wf = true)) ∧
  ∀ r : Reply, r.frame = ⟨14, 0, r.kind, fieldBytes r.body.layout⟩ ∧ r.frame.wf = true

/-- A C_LINE_FRAME that carries a request does what the request's own command does, and the characters of a frame arriving one by one
at an empty C-line receiver do what the whole frame's command does, while no frame waits for an idle transmitter (QueuesBounded); the
gap timer is left running (R1, R2, R3, R5). At an M-line receiver that accepts characters they do what MODULE_ANSWER of the frame does
(R12). The command of a whole frame is the model's choice (assumption 1). -/
def Obligations.FramesCarryRequests : Prop :=
  (∀ (i : Instr) (f : Frame) (s : State), i.wf = true → frameOfRequest i = some f → exec (.cLineFrame f) s = exec i s) ∧
    (∀ (f : Frame) (s : State), f.wf = true → TakesFrames s → s.cRx.fifo = [] → s.cRx.overrunNext = false →
      s.cRx.asm = .hunting → NoneWaits s →
      execAll (frameCharacters .cLine f) s = exec (.cLineFrame f) { s with cRx := { s.cRx with gapRunning := true } }) ∧
    ∀ (f : Frame) (s : State), f.wf = true → s.running = true → s.mAccepts = true → s.mRx.fifo = [] → s.mRx.overrunNext = false →
      s.mRx.asm = .hunting → NoneWaits s →
      execAll (frameCharacters .mLine f) s = exec (.moduleAnswer f) { s with mRx := { s.mRx with gapRunning := true } }

/-! ## Receivers, assemblers, the transmitter and the silence timer -/

/-- CHARACTER_ARRIVAL stores the character with its marks and tallies, or discards it at a full FIFO, and the line's assembler then takes what it
may: nothing while the C-line is stalled, and else, where the FIFO was empty, this character, as TakenOnC and TakenOnM say: a frame it completes
does what the frame's own command does, one that is discarded on the M-line does what ANSWER_WINDOW_EXPIRY does, and nothing else happens (R3,
R5, R12); an M-line receiver that accepts nothing delivers nothing (R2, R4, R12). That a discarded character's own parity and framing errors are
tallied, and all of them at the arrival, is read from the spec by inference (assumption 28). -/
def Obligations.CharacterArrivalStores : Prop :=
  ∀ (v : Byte) (p m : Bool) (s : State), s.running = true →
    (∃ r, exec (.characterArrival .cLine v p m) s = .next ({ s with cRx := r }).runC.transmit ∧ Stored v p m s.cRx r ∧
      (s.cStalled = true → exec (.characterArrival .cLine v p m) s = .next ({ s with cRx := r }).transmit) ∧
      (s.cStalled = false → s.cRx.fifo = [] → TakenOnC (.char v (!evenParity v p) (!m) s.cRx.overrunNext) { r with fifo := [] } s
        (exec (.characterArrival .cLine v p m) s))) ∧
    (s.mAccepts = true →
      ∃ r, exec (.characterArrival .mLine v p m) s = .next ({ s with mRx := r }).runM.transmit ∧ Stored v p m s.mRx r ∧
        (s.mRx.fifo = [] → TakenOnM (.char v (!evenParity v p) (!m) s.mRx.overrunNext) { r with fifo := [] } s
          (exec (.characterArrival .mLine v p m) s))) ∧
    (s.mAccepts = false → exec (.characterArrival .mLine v p m) s = .next s.transmit)

/-- BREAK is delivered where it arose, tallies as framing and restarts the gap timer; GAP_EXPIRY of a running gap timer is delivered
and stops it; the line's assembler then takes what it may: nothing while the C-line is stalled, and else, where the FIFO was empty, this
break or expiry: a frame in assembly is discarded, which on the M-line does what ANSWER_WINDOW_EXPIRY does (R2, R3, R4, R12). The
model's choices: GAP_EXPIRY of a stopped gap timer
changes nothing (assumption 5), and a break takes no entry of the FIFO's 64 characters (assumption 33). -/
def Obligations.BreakAndGapDelivered : Prop :=
  ∀ s : State, s.running = true →
    exec (.lineBreak .cLine) s =
      .next ({ s with cRx := { s.cRx.broken with fifo := s.cRx.fifo ++ [RxItem.brk] } }).runC.transmit ∧
    (s.mAccepts = true → exec (.lineBreak .mLine) s =
      .next ({ s with mRx := { s.mRx.broken with fifo := s.mRx.fifo ++ [RxItem.brk] } }).runM.transmit) ∧
    (s.cRx.gapRunning = true → exec (.gapExpiry .cLine) s =
      .next ({ s with cRx := { s.cRx with fifo := s.cRx.fifo ++ [RxItem.gap], gapRunning := false } }).runC.transmit) ∧
    (s.cRx.gapRunning = false → exec (.gapExpiry .cLine) s = .next s.transmit) ∧
    (s.mAccepts = true → s.mRx.gapRunning = true → exec (.gapExpiry .mLine) s =
      .next ({ s with mRx := { s.mRx with fifo := s.mRx.fifo ++ [RxItem.gap], gapRunning := false } }).runM.transmit) ∧
    (s.mAccepts = true → s.mRx.gapRunning = false → exec (.gapExpiry .mLine) s = .next s.transmit) ∧
    (s.mAccepts = false → exec (.lineBreak .mLine) s = .next s.transmit ∧ exec (.gapExpiry .mLine) s = .next s.transmit) ∧
    (s.cStalled = true →
      exec (.lineBreak .cLine) s = .next ({ s with cRx := { s.cRx.broken with fifo := s.cRx.fifo ++ [RxItem.brk] } }).transmit ∧
      (s.cRx.gapRunning = true → exec (.gapExpiry .cLine) s =
        .next ({ s with cRx := { s.cRx with fifo := s.cRx.fifo ++ [RxItem.gap], gapRunning := false } }).transmit)) ∧
    (s.cStalled = false → s.cRx.fifo = [] → TakenOnC .brk s.cRx.broken s (exec (.lineBreak .cLine) s) ∧
      (s.cRx.gapRunning = true → TakenOnC .gap { s.cRx with gapRunning := false } s (exec (.gapExpiry .cLine) s))) ∧
    (s.mAccepts = true → s.mRx.fifo = [] → TakenOnM .brk s.mRx.broken s (exec (.lineBreak .mLine) s) ∧
      (s.mRx.gapRunning = true → TakenOnM .gap { s.mRx with gapRunning := false } s (exec (.gapExpiry .mLine) s)))

/-- The assembler's rules (R3, R4): what begins a frame, that a break or a gap expiry in HUNTING has no effect, that a ROUTE, KIND, COUNT or
payload character is kept in its place and a marked one makes the frame damaged, what discards a frame with or without a tally, and what
completes one; and the characters of a frame, taken one by one from HUNTING, complete that frame at its last character and nothing before, and
tally nothing (R3, R176). -/
def Obligations.AssemblerRules : Prop :=
  (∀ (v : Byte) (pe fe ov : Bool) (t : Tallies),
    asmTake (.char v pe fe ov) .hunting t =
      ⟨if v = 0xC3 ∧ pe = false ∧ fe = false then .assembling [] false else .hunting, .none, t⟩) ∧
  (∀ t : Tallies, asmTake .brk .hunting t = ⟨.hunting, .none, t⟩ ∧ asmTake .gap .hunting t = ⟨.hunting, .none, t⟩) ∧
  (∀ (v : Byte) (taken : List Byte) (d pe fe ov : Bool) (t : Tallies),
    (taken.length < 2 ∨ (taken.length = 2 ∧ v.toNat ≤ 60)) →
    asmTake (.char v pe fe ov) (.assembling taken d) t = ⟨.assembling (taken ++ [v]) (d || pe || fe || ov), .none, t⟩) ∧
  (∀ (taken : List Byte) (d : Bool) (t : Tallies),
    asmTake .brk (.assembling taken d) t = ⟨.hunting, .discarded, t⟩ ∧
    asmTake .gap (.assembling taken d) t =
      ⟨.hunting, .discarded, { t with timeout := min (t.timeout + 1) 65535 }⟩) ∧
  (∀ (a b n : Byte) (d pe fe ov : Bool) (t : Tallies), 60 < n.toNat →
    asmTake (.char n pe fe ov) (.assembling [a, b] d) t =
      ⟨.hunting, .discarded, { t with check := min (t.check + 1) 65535 }⟩) ∧
  (∀ (a b n v : Byte) (rest : List Byte) (d pe fe ov : Bool) (t : Tallies), n.toNat ≤ 60 → rest.length < n.toNat →
    asmTake (.char v pe fe ov) (.assembling (a :: b :: n :: rest) d) t =
      ⟨.assembling (a :: b :: n :: rest ++ [v]) (d || pe || fe || ov), .none, t⟩) ∧
  (∀ (a b n v : Byte) (rest : List Byte) (d pe fe ov : Bool) (t : Tallies), n.toNat ≤ 60 → rest.length = n.toNat →
    asmTake (.char v pe fe ov) (.assembling (a :: b :: n :: rest) d) t =
      if d || pe || fe || ov then ⟨.hunting, .discarded, t⟩
      else if (a.toNat + b.toNat + n.toNat + (rest.map BitVec.toNat).sum + v.toNat) % 256 = 0 then
        ⟨.hunting, .frame ⟨a.extractLsb' 4 4, a.extractLsb' 0 4, b, rest⟩, t⟩
      else ⟨.hunting, .discarded, { t with check := min (t.check + 1) 65535 }⟩) ∧
  ∀ (f : Frame) (t : Tallies), f.wf = true →
    assembleBytes (frameBytes f) .hunting t = ⟨.hunting, .frame f, t⟩ ∧
      ∀ n, n < (frameBytes f).length → (assembleBytes ((frameBytes f).take n) .hunting t).event = .none ∧
        (assembleBytes ((frameBytes f).take n) .hunting t).tallies = t

/-- SILENCE_TIMEOUT of a running silence timer makes the part DETACHED, stops the timer and tests the entry; of a stopped one it
changes nothing (the model's choice, assumption 5). A valid C-line frame, before its disposition, ends DETACHED, tests the entry where
it was DETACHED, and restarts the silence timer where its limit is not 0; an undelayed whole frame is then disposed of (R5, R7, R64). -/
def Obligations.SilenceAndFrames : Prop :=
  ∀ s : State,
    (s.running = true → s.silenceRunning = true → ∃ t, exec .silenceTimeout s = .next t.transmit ∧
      Tested { s with detached := true, silenceRunning := false } t) ∧
    (s.running = true → s.silenceRunning = false → exec .silenceTimeout s = .next s.transmit) ∧
    (s.detached = false → s.frameSeen = { s with silenceRunning := decide (s.silenceLimit ≠ 0) }) ∧
    (s.detached = true →
      Tested { s with detached := false, silenceRunning := decide (s.silenceLimit ≠ 0) } s.frameSeen) ∧
    (TakesFrames s → ∀ f, exec (.cLineFrame f) s = .next (s.frameSeen.disposeFrame f).transmit)

/-- A whole frame from another source than 14, or to an address that is neither 0, a slot nor the group, is refused FORMAT with its
own KIND, and nothing else happens but what every valid frame does (R5, R7). -/
def Obligations.MisaddressedFrameRefused : Prop :=
  ∀ (f : Frame) (s : State), TakesFrames s →
    (f.src ≠ 14 ∨ (f.dest ≠ 0 ∧ ¬(1 ≤ f.dest.toNat ∧ f.dest.toNat ≤ 6) ∧ f.dest ≠ 15)) →
    exec (.cLineFrame f) s = .next (s.frameSeen.refuse f.kind .format).transmit

/-- A frame to address 0 that spells no request is refused FORMAT with its own KIND, whatever the part state, and does nothing else: an unknown
KIND, a length that is not its KIND's, a flag or an enumeration byte without a meaning, a SELL class above 7, a due NOW with a point (R5, R177).
A LOAD that names a table kind adds its load state fields; so does one whose entry bytes are no whole number of entries, and one with an entry
that breaks the padding, text, flags, enumerations, sets or optional field of the layout that its position gives it, or, past the FARE classes
with no product count held, of both layouts it can have there; entry 0, which gives the product count, is the first entry of the first segment
that the LOAD does not leave held empty (R102, R177, R178; which layout that is, and FORMAT as the reason, assumption 18; an entry past a table's
last place, judged as a tube entry or a band, the model's choice, assumption 50; a LOAD without a readable kind, assumption 20). -/
def Obligations.MalformedRequestRefused : Prop :=
  ∀ s : State, TakesFrames s →
    (∀ (kind : Byte) (p : List Byte), Malformed kind p →
      (∀ k : TableKind, kind = Kind.load → p.head? = some (TableKind.code k) → exec (.cLineFrame ⟨0, 14, kind, p⟩) s =
        .next (s.frameSeen.reply Kind.load (.refusedLoad .format (s.loads.get k).view)).transmit) ∧
      ((kind ≠ Kind.load ∨ ∀ k : TableKind, p.head? ≠ some (TableKind.code k)) →
        exec (.cLineFrame ⟨0, 14, kind, p⟩) s = .next (s.frameSeen.refuse kind .format).transmit)) ∧
    (∀ k g index total check count es, loadFormatOk k g.toNat index.toNat es (s.loads.get k) = false →
      exec (.load k g index total check count es) s =
        .next (s.frameSeen.reply Kind.load (.refusedLoad .format (s.loads.get k).view)).transmit) ∧
    (∀ k g index es l, es.length % entrySize k ≠ 0 → loadFormatOk k g index es l = false) ∧
    (∀ g index es l e, e ∈ entriesOf .template es → (∃ b ∈ e.drop (3 + byteAt e 2), b ≠ 0) →
      loadFormatOk .template g index es l = false) ∧
    (∀ (k : TableKind) (g index : Nat) (es : List Byte) (l : Load) (n : Nat) (e : List Byte), (entriesOf k es)[n]? = some e →
      formatOk (layoutAt k (headerFor (l.heldFor g) index (entriesOf k es)) (basePosition (l.heldFor g) index + n)) e = false →
      loadFormatOk k g index es l = false) ∧
    (∀ e : List Byte,
      ((1 < byteAt e 0 ∨ ∃ b ∈ e.drop 15, b ≠ 0) → formatOk .coinEntry e = false) ∧
      ((∃ b ∈ e.drop 3, b ≠ 0) → formatOk .tubeEntry e = false) ∧
      ((∃ b ∈ e.drop 13, b ≠ 0) → formatOk .fareHeader e = false) ∧ ((∃ b ∈ e.drop 1, b ≠ 0) → formatOk .fareClass e = false) ∧
      ((2 < byteAt e 17 ∨ 2 < byteAt e 29 ∨ 1 < byteAt e 32 ∨ (byteAt e 32 = 0 ∧ field 33 4 e ≠ 0) ∨ 4 ≤ byteAt e 38) →
        formatOk .product e = false) ∧
      ((128 ≤ byteAt e 0 ∨ ∃ b ∈ e.drop 10, b ≠ 0) → formatOk .band e = false)) ∧
    (∀ (pos : Nat) (e : List Byte), 9 ≤ pos → formatOk .product e = false → formatOk .band e = false →
      formatOk (layoutAt .fare none pos) e = false) ∧
    ∀ (held : List Segment) (index : Nat) (es : List (List Byte)) (i : Nat), i < 256 →
      (∀ j, j < i → entriesAt held index es j = some []) →
      (∀ e rest, entriesAt held index es i = some (e :: rest) → headerFor held index es = some e) ∧
      (entriesAt held index es i = none → headerFor held index es = none)

/-- While the reply list is full, or a start is on its way, a whole frame waits as characters in the receive FIFO: the command
changes the C-line receiver alone, to what the frame's characters make of it one by one, the overruns of a FIFO that is or becomes full
among them; the assembler stays as it is, and an empty FIFO with no overrun waiting holds a frame of at most 64 characters whole (R2,
R5, R172; the command of a whole frame is the model's choice, assumption 8, and an overrun is tallied as its character arrives, read
from the spec by inference, assumption 28). The assembler takes nothing meanwhile, and once it may take characters a frame that waits
is disposed of as a whole frame is (R5). -/
def Obligations.StalledLineKeepsFrames : Prop :=
  (∀ (f : Frame) (s : State), s.running = true → (4 ≤ s.replies.length ∨ s.stopping = true) →
    ∃ r, exec (.cLineFrame f) s = .next { s with cRx := r }.transmit ∧ StoredAll (frameBytes f) s.cRx r ∧ r.asm = s.cRx.asm ∧
      (s.cRx.fifo = [] → s.cRx.overrunNext = false → (frameBytes f).length ≤ 64 →
        r.fifo = (frameBytes f).map fun b => .char b false false false)) ∧
  (∀ s : State, (4 ≤ s.replies.length ∨ s.stopping = true) → s.runC = s) ∧
  ∀ (f : Frame) (s : State), f.wf = true → s.cStalled = false → s.cRx.asm = .hunting →
    s.cRx.fifo = ((frameBytes f).map fun b => .char b false false false) →
    s.runC = ({ s with cRx := { s.cRx with fifo := [] } }).frameSeen.disposeFrame f

/-- The transmitter: idle, it takes the oldest reply, without one the head of the upward queue, without one the head of the report queue,
and the C-line assembler then takes what it may; while it sends, or with nothing waiting, it takes nothing. TRANSMIT_FRAME_END makes it
idle; the end of a reply that a start follows is START_AFTER_REPLY's (R5, R6, R172; assumption 11). That an event is taken whole before
an idle transmitter takes its frame is read from R5 and R6 by inference (assumption 10). -/
def Obligations.TransmitterOrder : Prop :=
  ∀ s : State,
    (s.running = false → s.transmit = s) ∧ (s.sending ≠ none → s.transmit = s) ∧
    (s.running = true → s.sending = none →
      (∀ r rs, s.replies = r :: rs → s.transmit = { s with replies := rs, sending := some ⟨r.frame, r.start⟩ }.runC) ∧
      (∀ f fs, s.replies = [] → s.upwardQ = f :: fs → s.transmit = { s with upwardQ := fs, sending := some ⟨f, none⟩ }.runC) ∧
      (∀ r rs, s.replies = [] → s.upwardQ = [] → s.reports = r :: rs →
        s.transmit = { s with reports := rs, sending := some ⟨r.frame, none⟩ }.runC) ∧
      (s.replies = [] → s.upwardQ = [] → s.reports = [] → s.transmit = s)) ∧
    (s.running = true → s.startReplySent = none → exec .transmitFrameEnd s = .next { s with sending := none }.transmit) ∧
    (s.running = true → s.startReplySent ≠ none → exec .transmitFrameEnd s = .next s)

/-- DOWNWARD_FRAME joins the tail of the forward queue where its slot is assigned and PRESENT, its KIND is not guarded, its PASSAGE row passes it
and the queue has room; otherwise it is refused ABSENT, GUARDED or QUEUE, checked in that order. One to address 15 asks for a PRESENT slot of
role OTHER, is guarded for the line-control kinds alone, and follows the group row. A row passes a KIND where the active PASSAGE table holds it
as a member, and without a table nothing passes; the vocabularies are those of R10 (R8, R9, R10, R17; which column of R10 guards is the model's
choice, assumption 43). -/
def Obligations.DownwardFramePassage : Prop :=
  ∀ (kind : Byte) (payload : List Byte) (s : State), TakesFrames s → s.part ≠ .unset →
    let refused (d : BitVec 4) (r : Reason) := exec (.downwardFrame d kind payload) s =
      .next (s.frameSeen.refuse kind r).transmit
    let queued (d : BitVec 4) := exec (.downwardFrame d kind payload) s =
      .next ({ s.frameSeen with forwardQ := s.forwardQ ++ [⟨d, 14, kind, payload⟩] } : State).transmit
    (∀ i : Fin 6, let slot := s.slots.get i
      if slot.role = .none ∨ slot.present = false then refused (slotAddress i) .absent
      else if guardedDown slot.role kind = true ∨ s.passes i.val kind = false then refused (slotAddress i) .guarded
      else if 8 ≤ s.forwardQ.length then refused (slotAddress i) .queue
      else queued (slotAddress i)) ∧
    ((∀ i, (s.slots.get i).role = .other → (s.slots.get i).present = false) → refused 15 .absent) ∧
    ((∃ i, (s.slots.get i).role = .other ∧ (s.slots.get i).present = true) →
      if kind = Kind.poll ∨ kind = Kind.nil ∨ s.passes 6 kind = false then refused 15 .guarded
      else if 8 ≤ s.forwardQ.length then refused 15 .queue
      else queued 15) ∧
    (s.retained.passage = none → ∀ row, s.passes row kind = false) ∧
    (∀ a, s.retained.passage = some a → ∀ row,
      s.passes row kind = true ↔ ∃ r, a.content.rows[row]? = some r ∧ r.getLsbD kind.toNat = true) ∧
    ∀ r : Role,
      (guardedDown r kind = true ↔ kind = Kind.poll ∨ kind = Kind.nil ∨
        (r = .card ∧ kind ∈ [Kind.cardHold, Kind.cardRelease, Kind.cardWriteValue, Kind.cardWritePass]) ∨
        (r = .printer ∧ kind ∈ [Kind.printLine, Kind.printCut, Kind.printAsk])) ∧
      (consumedUp r kind = true ↔ (r = .card ∧ kind ∈ [Kind.cardSeen, Kind.cardGone, Kind.cardWritten]) ∨
        (r = .printer ∧ kind ∈ [Kind.printRoom, Kind.printCutDone, Kind.printState]))

/-! ## Requests of the part state, queries, tables and clock -/

/-- In UNSET every request but SETUP, QUERY and ALIVE is refused SETUP, a LOAD with the load state fields of its kind, and so is
every downward frame; nothing else happens (R5, R18). -/
def Obligations.UnsetRefusesRequests : Prop :=
  ∀ s : State, TakesFrames s → s.part = .unset →
    (∀ (i : Instr) (f : Frame), frameOfRequest i = some f → f.kind ≠ Kind.setup → f.kind ≠ Kind.alive →
      f.kind ≠ Kind.query → f.kind ≠ Kind.load → exec i s = .next (s.frameSeen.refuse f.kind .setup).transmit) ∧
    (∀ k g index total check count es,
      loadFormatOk k g.toNat index.toNat es (s.loads.get k) = true →
      exec (.load k g index total check count es) s =
        .next (s.frameSeen.reply Kind.load (.refusedLoad .setup (s.loads.get k).view)).transmit) ∧
    (∀ (i : Fin 6) kind p, exec (.downwardFrame (slotAddress i) kind p) s = .next (s.frameSeen.refuse kind .setup).transmit) ∧
    (∀ kind p, exec (.downwardFrame 15 kind p) s = .next (s.frameSeen.refuse kind .setup).transmit)

/-- SETUP: outside UNSET refused STATE; with a machine id 0, a rate or role code without a meaning, two CARD or two PRINTER slots, or a
silence limit of 1 or above 60 refused RANGE; otherwise the part becomes READY with every assigned slot ABSENT and its re-probe
due, the entry is tested, and SETUP is accepted (R16, R19, R64, R177). That a slot left without a role is not PRESENT is the model's
choice (assumption 48). -/
def Obligations.SetupMakesReady : Prop :=
  ∀ (id : Word16) (rate : Byte) (roles : Vector Byte 6) (silence : Byte) (s : State), TakesFrames s →
    let inRange : Prop := id ≠ 0 ∧ rate.toNat ≤ 2 ∧ (∀ i, (roles.get i).toNat ≤ 3) ∧
      (∀ i j, roles.get i = 1 → roles.get j = 1 → i = j) ∧ (∀ i j, roles.get i = 2 → roles.get j = 2 → i = j) ∧
      silence.toNat ≠ 1 ∧ silence.toNat ≤ 60
    (s.part ≠ .unset → exec (.setup id rate roles silence) s = .next (s.frameSeen.refuse Kind.setup .state).transmit) ∧
    (s.part = .unset → ¬inRange → exec (.setup id rate roles silence) s = .next (s.frameSeen.refuse Kind.setup .range).transmit) ∧
    (s.part = .unset → inRange → ∃ v, exec (.setup id rate roles silence) s = .next (v.reply Kind.setup .accepted).transmit ∧
      Tested { s.frameSeen with
        part := .ready, machineId := id.toNat, mRate := 9600 * 2 ^ rate.toNat, slots := v.slots, lastPolled := 5
        silenceLimit := silence.toNat, silenceRunning := decide (silence ≠ 0) } v ∧
      ∀ i, v.slots.get i =
        if roles.get i = 0 then ⟨.none, false, 0, .off⟩
        else ⟨if roles.get i = 1 then .card else if roles.get i = 2 then .printer else .other, false, 0, .due⟩)

/-- ALIVE is answered, and a QUERY in every part state by the snapshot of its topic and index under the state header, or refused RANGE;
LINES clears the ten tallies, and no other topic changes anything (R4, R5, R29, R31; what TABLES shows of a copy that is NONE or not
SCHEDULED is the model's choice, assumption 46). -/
def Obligations.QueryAnswers : Prop :=
  ∀ s : State, TakesFrames s →
    let u := s.frameSeen
    let answer (b : QueryBody) :=
      u.reply Kind.query (.query ⟨s.part, false, s.inhibit, 11 - generalCount u.reports - s.reserved⟩ b)
    exec .alive s = .next (u.reply Kind.alive .alive).transmit ∧
    exec (.query 0 0) s = .next (answer (.totals s.retained.ledger.totals)).transmit ∧
    exec (.query 0 1) s = .next (answer (.coinCounts s.retained.accepted s.retained.returned)).transmit ∧
    exec (.query 1 0) s = .next (answer (.tubes (Vector.ofFn fun i =>
      ⟨s.tubeCount i, s.tubeCapacity i, s.tubeLowMark i, (s.tubes.get i).faulted⟩))).transmit ∧
    (∀ i : Byte, i.toNat ≤ 7 → exec (.query 2 i) s = .next (answer (.journal s.retained.journal[i.toNat]?)).transmit) ∧
    exec (.query 3 0) s = .next { answer (.lines s.cRx.tallies s.mRx.tallies) with
      cRx := { s.cRx with tallies := .zero }, mRx := { s.mRx with tallies := .zero } }.transmit ∧
    (∀ k : TableKind, exec (.query 4 (TableKind.code k)) s = .next (answer (.tables (s.tableView k))).transmit) ∧
    exec (.query 5 0) s = .next (answer (.clock s.clock)).transmit ∧
    exec (.query 6 0) s = .next (answer (.purchase s.purchaseView)).transmit ∧
    (∀ topic index : Byte,
      (6 < topic.toNat ∨ (topic = 0 ∧ 1 < index.toNat) ∨ (topic = 2 ∧ 7 < index.toNat) ∨ (topic = 4 ∧ 4 < index.toNat) ∨
        ((topic = 1 ∨ topic = 3 ∨ topic = 5 ∨ topic = 6) ∧ index ≠ 0)) →
      exec (.query topic index) s = .next (u.refuse Kind.query .range).transmit)

/-- INHIBIT sets the flag, tests the entry, and answers with the flag's value before. SERVICE: ON in READY is refused STATE unless the purchase
is IDLE and the chute is IDLE or in FAULT; otherwise the part state becomes the one asked for, the entry is tested, and the reply
carries it (R20, R21, R64). -/
def Obligations.InhibitAndServiceSetPartState : Prop :=
  ∀ s : State, TakesFrames s → s.part ≠ .unset →
    (∀ on, ∃ v, exec (.inhibit on) s = .next (v.reply Kind.inhibit (.inhibit s.inhibit)).transmit ∧
      Tested { s.frameSeen with inhibit := on } v) ∧
    (s.part = .ready → (s.purchase ≠ .idle ∨ (s.chute.state ≠ .idle ∧ s.chute.state ≠ .fault)) →
      exec (.service true) s = .next (s.frameSeen.refuse Kind.service .state).transmit) ∧
    ((s.part = .service ∨ (s.purchase = .idle ∧ (s.chute.state = .idle ∨ s.chute.state = .fault))) →
      ∃ v, exec (.service true) s = .next (v.reply Kind.service (.service .service)).transmit ∧
        Tested { s.frameSeen with part := .service } v) ∧
    (∃ v, exec (.service false) s = .next (v.reply Kind.service (.service .ready)).transmit ∧
      Tested { s.frameSeen with part := .ready } v)

/-- LOAD changes its kind's pending copy alone. It is refused STATE, RANGE, TABLE or RANGE in the order of R23, RANGE also where segment 0
names more entries than the kind may have and where the entries held would be more; an accepted one holds the segment at its index,
keeps the other segments of the same copy, and leaves a copy FILLING while an index is missing; a complete copy is READY where
validation finds no failure, and BAD with the failure it finds otherwise (R22, R23, R24). -/
def Obligations.LoadAddsSegment : Prop :=
  ∀ (k : TableKind) (g : Word16) (index total : Byte) (check count : Word16) (es : List Byte) (s : State),
    TakesFrames s → s.part ≠ .unset → loadFormatOk k g.toNat index.toNat es (s.loads.get k) = true →
    let l := s.loads.get k
    let same : Prop := l.st ≠ .none ∧ l.generation = g.toNat
    let inRange : Prop := g ≠ 0 ∧ total ≠ 0 ∧ index.toNat < total.toNat ∧ (index = 0 → count.toNat ≤ entryLimit k)
    let held := putSegment ⟨index.toNat, entriesOf k es⟩ (if l.isSame g.toNat then l.segments else [])
    let refused (r : Reason) :=
      exec (.load k g index total check count es) s = .next (s.frameSeen.reply Kind.load (.refusedLoad r l.view)).transmit
    (l.st = .scheduled → refused .state) ∧
    (l.st ≠ .scheduled → ¬inRange → refused .range) ∧
    (l.st ≠ .scheduled → inRange → s.retained.generation k = some g.toNat → refused .table) ∧
    (l.st ≠ .scheduled → inRange → s.retained.generation k ≠ some g.toNat → same → l.total ≠ total.toNat → refused .range) ∧
    (l.st ≠ .scheduled → inRange → s.retained.generation k ≠ some g.toNat → (same → l.total = total.toNat) →
      (entryLimit k < entriesHeld held → refused .range) ∧
      (entriesHeld held ≤ entryLimit k →
        ∃ n : Load, exec (.load k g index total check count es) s =
            .next ({ s.frameSeen with loads := s.loads.set n k }.reply Kind.load (.load n.view)).transmit ∧
          n.generation = g.toNat ∧ n.total = total.toNat ∧ n.due = .now ∧ n.fallen = false ∧ n.segments = held ∧
          (index = 0 → n.head = some (check.toNat, count.toNat)) ∧
          (index ≠ 0 → n.head = if l.isSame g.toNat then l.head else none) ∧
          (held.length ≠ total.toNat → n.st = .filling ∧ n.bad = none) ∧
          (held.length = total.toNat →
            let found := validate k ((n.head.map Prod.fst).getD 0) ((n.head.map Prod.snd).getD 0) (held.flatMap Segment.entries)
            n.st = (if found = none then .ready else .bad) ∧ n.bad = found)))

/-- A complete copy passes validation exactly when its check and counts agree and every entry passes every check of its kind. Otherwise it
gives the first reason in the order of R24 with the position of the first entry that fails it, and 0 for CHECK and COUNT: each answer
is given exactly where its check is the first to fail (R24). That a reason goes before an earlier entry of a later reason is read from
the spec by inference, and so is, within InRange, that of two tube entries of one coin kind the later one fails (assumption 17). An entry
passes FIELD exactly where it is in range, WINDOW where its windows or times are in order, ORDER where a card is above the one before
it, and FLOOR where its floor keeps R106 (R24, R40, R67, R68, R69, R103, R104, R105, R106, R128, R159). -/
def Obligations.ValidationFindsFirstFailure : Prop :=
  ∀ (k : TableKind) (check count : Nat) (es : List (List Byte)),
    let summed : Prop := byteSum es.flatten % 65536 = check
    let counted : Prop := es.length = count ∧ (∀ n, fixedCount k = some n → es.length = n) ∧
      (k = .fare → es.length = 9 + byteAt (es.headD []) 2 + byteAt (es.headD []) 3)
    (validate k check count es = none ↔ summed ∧ counted ∧ AllPass (fieldOk k) es ∧ AllPass (windowOk k) es ∧
      AllPass (orderOk k) es ∧ AllPass (floorOk k) es) ∧
    (∀ n, validate k check count es = some (.check, n) ↔ ¬summed ∧ n = 0) ∧
    (∀ n, validate k check count es = some (.count, n) ↔ summed ∧ ¬counted ∧ n = 0) ∧
    (∀ n, validate k check count es = some (.field, n) ↔ summed ∧ counted ∧ FirstFails (fieldOk k) es n) ∧
    (∀ n, validate k check count es = some (.window, n) ↔ summed ∧ counted ∧ AllPass (fieldOk k) es ∧
      FirstFails (windowOk k) es n) ∧
    (∀ n, validate k check count es = some (.order, n) ↔ summed ∧ counted ∧ AllPass (fieldOk k) es ∧ AllPass (windowOk k) es ∧
      FirstFails (orderOk k) es n) ∧
    (∀ n, validate k check count es = some (.floor, n) ↔ summed ∧ counted ∧ AllPass (fieldOk k) es ∧ AllPass (windowOk k) es ∧
      AllPass (orderOk k) es ∧ FirstFails (floorOk k) es n) ∧
    ∀ (n : Nat) (h : n < es.length),
      (fieldOk k es n es[n] = true ↔ InRange k es n es[n]) ∧ (windowOk k es n es[n] = true ↔ WindowsInOrder k es n es[n]) ∧
      (orderOk k es n es[n] = true ↔ (k = .hotlist → 0 < n → field 0 4 (es.getD (n - 1) []) < field 0 4 es[n])) ∧
      (floorOk k es n es[n] = true ↔ FloorsKept k es n es[n])

/-- DISCARD drops the pending copy, releases the reservation of a SCHEDULED one, issues no report, leaves the active copy as it is, and
answers with the pending state it found; on a NONE copy it changes nothing but the reply (R25; that a NONE copy has the segment total 0
is the model's choice, assumption 46). -/
def Obligations.DiscardDropsCopy : Prop :=
  ∀ (k : TableKind) (s : State), TakesFrames s → s.part ≠ .unset →
    let before := (s.loads.get k).st
    exec (.discard k) s = .next ({ s.frameSeen with
      loads := s.loads.set ⟨.none, 0, 0, [], none, none, .now, false⟩ k
      reserved := if before = LoadState.scheduled then s.reserved - 1 else s.reserved }.reply Kind.discard (.discard before)).transmit

/-- ACTIVATE: refused RANGE, TABLE or BUSY in that order. Accepted it reserves a slot and schedules the copy. A due NOW, or an AT point the
valid clock has reached, falls due at once: the activation takes place, with DONE, or waits with DEFERRED while the chute is not IDLE
(COIN) or a job is in progress (TEMPLATE); any other AT point leaves the copy SCHEDULED. An activation installs the copy with its TABLE
report in the slot reserved; FARE tests the entry; COIN derives the low flags, tests the entry and gives the coils the new profile
(assumptions 25 and 47; a NONE copy's total, assumption 46); a HOTLIST or PASSAGE one is written out here (R26, R27, R28, R43, R64, R82,
R147). -/
def Obligations.ActivateTakesCopyIntoService : Prop :=
  ∀ (k : TableKind) (g : Word16) (due : Due) (s : State), TakesFrames s → s.part ≠ .unset →
    let u := s.frameSeen
    let l := s.loads.get k
    let inRange : Prop := ∀ d sec, due = .at d sec → sec.toNat ≤ 86399
    let free : Prop := generalCount u.reports + s.reserved < 11
    let reached : Prop := due = .now ∨ ∃ d sec, due = .at d sec ∧ s.clock.valid = true ∧
      (d.toNat < s.clock.day ∨ (d.toNat = s.clock.day ∧ sec.toNat ≤ s.clock.second))
    let scheduled : State := { u with
      loads := s.loads.set { l with st := .scheduled, due := duePoint due, fallen := false } k, reserved := s.reserved + 1 }
    (¬inRange → exec (.activate k g due) s = .next (u.refuse Kind.activate .range).transmit) ∧
    (inRange → (l.st ≠ .ready ∨ l.generation ≠ g.toNat) →
      exec (.activate k g due) s = .next (u.refuse Kind.activate .table).transmit) ∧
    (inRange → l.st = .ready → l.generation = g.toNat → ¬free →
      exec (.activate k g due) s = .next (u.refuse Kind.activate .busy).transmit) ∧
    (inRange → l.st = .ready → l.generation = g.toNat → free →
      (¬reached → exec (.activate k g due) s =
        .next (scheduled.reply Kind.activate (.activate .scheduled .scheduled)).transmit) ∧
      (reached → ∃ v, FellDue k scheduled v ∧ exec (.activate k g due) s = .next (v.reply Kind.activate
        (if s.defers k = true then .activate .scheduled .deferred else .activate .none .done)).transmit) ∧
      (reached → (k = .hotlist ∨ k = .passage) → exec (.activate k g due) s = .next (({ u with
        retained :=
          if k = TableKind.hotlist then { s.retained with hotlist := some ⟨g.toNat, l.entries.map (field 0 4)⟩ }
          else { s.retained with passage := some ⟨g.toNat, ⟨l.entries.map fun e => BitVec.ofNat 64 (leNat e)⟩⟩ }
        loads := s.loads.set ⟨.none, 0, 0, [], none, none, .now, false⟩ k
        reports := u.reports ++ [Report.table ⟨k, g.toNat, s.retained.generation k, s.clock.day, s.clock.second, s.clock.valid,
          false⟩] } : State).reply Kind.activate (.activate .none .done)).transmit))

/-- CLOCK is refused RANGE for a second above 86399 or a day of week outside 1..7. Accepted it sets day, second and day of week with
hundredth 0 and the valid flag, tests every schedule in kind order, and answers with the clock it found and the number of schedules that
fell due; with none due it changes nothing else (R36, R43). -/
def Obligations.ClockIsSet : Prop :=
  ∀ (day : Word16) (second : Word32) (dow : Byte) (s : State), TakesFrames s → s.part ≠ .unset →
    let inRange : Prop := second.toNat ≤ 86399 ∧ 1 ≤ dow.toNat ∧ dow.toNat ≤ 7
    let clock : Clock := ⟨day.toNat, second.toNat, 0, dow.toNat, true, s.clock.running, s.clock.stopLatched⟩
    (¬inRange → exec (.clock day second dow) s = .next (s.frameSeen.refuse Kind.clock .range).transmit) ∧
    (inRange → ∃ n v, SchedulesTested n { s.frameSeen with clock := clock } v ∧
      exec (.clock day second dow) s = .next (v.reply Kind.clock (.clock s.clock n)).transmit)

/-! ## The depot clock -/

/-- SECOND_ADVANCE and HUNDREDTH_ADVANCE of a running time base: the hundredth and the second advance, the day roll passes 65535 to 0 and
Sunday to Monday and there clears the valid flag, on either supply; while the part takes events an advance of the second then tests
every schedule in kind order. OSCILLATOR_STOP holds the fields still: with main power on it clears the valid flag at once, without it
the stop is latched for the next start; TIME_BASE_RUNS_AGAIN lets the fields count on (R33, R34, R35, R43). The model's choices:
SECOND_ADVANCE sets the hundredth to 0 (assumption 22), and an advance or a stop of a stopped time base changes nothing (assumption
5). -/
def Obligations.DepotClockCounts : Prop :=
  ∀ s : State,
    let c := s.clock
    let next : Clock :=
      if c.second < 86399 then { c with second := c.second + 1, hundredth := 0 }
      else { c with second := 0, hundredth := 0, day := if c.day < 65535 then c.day + 1 else 0
                    dayOfWeek := if c.dayOfWeek < 7 then c.dayOfWeek + 1 else 1, valid := c.valid && decide (c.day < 65535) }
    let advances (o : Instr) : Prop :=
      (s.running = true → ∃ n v, SchedulesTested n { s with clock := next } v ∧ exec o s = .next v.transmit) ∧
        (s.running = false → exec o s = .next { s with clock := next })
    (c.running = true → advances .secondAdvance ∧ (99 ≤ c.hundredth → advances .hundredthAdvance) ∧
      (c.hundredth < 99 → exec .hundredthAdvance s =
        .next ({ s with clock := { c with hundredth := c.hundredth + 1 } } : State).transmit)) ∧
    (c.running = true → s.power = true → exec .oscillatorStop s =
      .next { s with clock := { c with running := false, valid := false, stopLatched := false } }) ∧
    (c.running = true → s.power = false → exec .oscillatorStop s =
      .next { s with clock := { c with running := false, stopLatched := true } }) ∧
    exec .timeBaseRunsAgain s = .next { s with clock := { c with running := true } } ∧
    (c.running = false → exec .oscillatorStop s = .next s ∧ exec .secondAdvance s = .next s.transmit ∧
      exec .hundredthAdvance s = .next s.transmit)

/-! ## Sales -/

/-- The price lies between floor and cap where the floor does not exceed the cap, and is the rounded count of steps clamped to them: NEAREST
takes the nearer count and half a step up, UP the least count not below the scaled fare, DOWN the greatest not above it; the scaled fare is
base and zone steps times the band's factor times what the concession leaves (R111, R112). -/
def Obligations.PriceRoundsAndClamps : Prop :=
  (∀ (p : Product) (n : Nat), 0 < p.step →
    (p.floor ≤ p.cap → p.floor ≤ p.priceOf n ∧ p.priceOf n ≤ p.cap) ∧
    ∃ k : Nat,
      p.priceOf n = (if k * p.step < p.floor then p.floor else if p.cap < k * p.step then p.cap else k * p.step) ∧
      (p.rounding = .nearest → 2 * (k * (10000 * p.step)) ≤ 2 * n + 10000 * p.step ∧
        2 * n < 2 * (k * (10000 * p.step)) + 10000 * p.step) ∧
      (p.rounding = .up → n ≤ k * (10000 * p.step) ∧ k * (10000 * p.step) < n + 10000 * p.step) ∧
      (p.rounding = .down → k * (10000 * p.step) ≤ n ∧ n < k * (10000 * p.step) + 10000 * p.step)) ∧
  (∀ (p : Product) (classes : List Nat) (zones factor concession : Nat),
    p.price classes zones factor concession = p.priceOf
      ((p.base + p.zoneStep * (zones - 1)) * factor *
        (100 - if p.concessionAllowed then classes.getD concession 0 else 0)))

/-- The first eleven checks of SELL, in the order of R108, and what each refuses; a refused SELL changes nothing but what its frame and its reply
do. What the checks ask: a card is hotlisted where the active HOTLIST table, strictly ascending and of at most 1024 numbers, holds it, and never
without a table; the journal takes a write for a card with fewer than 8 records and none of the card; the print path is ready where the PRINTER
slot is PRESENT, paper is OK or LOW, the head CLOSED, no fault SET, no job present and the template holds a line; the band is the lowest one in
force, and none, with factor 100 and timestamp 0, while the clock is not valid; the product is one of the code sold on the medium (R18, R24, R39,
R41, R42, R107 to R110, R115, R128, R134). -/
def Obligations.SellRefusedInOrder : Prop :=
  (∀ (s : State) (card : Nat),
    (s.retained.hotlist = none → s.hotlisted card = false) ∧
    (∀ a, s.retained.hotlist = some a → (a.content.Pairwise fun x y => x < y) → a.content.length ≤ 1024 →
      (s.hotlisted card = true ↔ card ∈ a.content)) ∧
    (s.journalTakes card = true ↔ s.retained.journal.length < 8 ∧ ∀ r ∈ s.retained.journal, r.card ≠ card)) ∧
  (∀ (s : State) (template : Nat), s.printPath template = true ↔
    (∃ i : Fin 6, (s.slots.get i).role = .printer ∧ (∀ j, j < i → (s.slots.get j).role ≠ .printer) ∧ (s.slots.get i).present = true) ∧
    (s.printer.paper = .ok ∨ s.printer.paper = .low) ∧ s.printer.head = .closed ∧ s.printer.fault = .clear ∧ s.printer.job = none ∧
    ∃ a, s.retained.template = some a ∧ ∃ l ∈ a.content, l.template = template) ∧
  (∀ (c : Clock) (f : FareTable),
    let inForce (n : Nat) : Prop := 1 ≤ n ∧ ∃ b, f.bands[n - 1]? = some b ∧ b.dayMask.getLsbD (c.dayOfWeek - 1) = true ∧
      b.start ≤ c.second ∧ c.second < b.stop
    (c.valid = false → c.stamp = ⟨0, 0, 0, false⟩ ∧ c.band f = none) ∧
    (c.valid = true → c.stamp = ⟨c.day, c.second, c.hundredth, true⟩ ∧
      (∀ n, c.band f = some n ↔ inForce n ∧ ∀ m, m < n → ¬inForce m) ∧ (c.band f = none ↔ ∀ n, ¬inForce n)) ∧
    f.factor none = 100 ∧ ∀ n b, f.bands[n - 1]? = some b → f.factor (some n) = b.factor) ∧
  (∀ (f : FareTable) (code : Nat) (m : Medium),
    let sold (p : Product) : Prop := p.code = code ∧
      (p.medium = .both ∨ (m = .printed ∧ p.medium = .printed) ∨ (m = .card ∧ p.medium = .card))
    (∀ p, f.product? code m = some p → p ∈ f.products ∧ sold p) ∧ (f.product? code m = none ↔ ∀ p ∈ f.products, ¬sold p)) ∧
  ∀ (product zones : Byte) (concession : Fin 8) (m : Medium) (keep : Bool) (s : State), TakesFrames s → s.part ≠ .unset →
    let refused (r : Reason) := exec (.sell product zones concession m keep) s = .next (s.frameSeen.refuse Kind.sell r).transmit
    if s.part = .service then refused .service
    else if s.purchase = .busy ∨ s.purchase = .payout then refused .state
    else if 4294967295 ≤ s.retained.txn then refused .range
    else match s.retained.fare with
      | none => refused .table
      | some f =>
        match f.content.product? product.toNat m with
        | none => refused .product
        | some p =>
          if zones.toNat < 1 ∨ p.maxZones < zones.toNat then refused .zones
          else if p.validityDays ≠ 0 ∧ s.clock.valid = false then refused .range
          else match m, s.card.binding with
            | .printed, _ => s.printPath p.template = false → refused .printer
            | .card, none => refused .noCard
            | .card, some b =>
              if b.blocked = true ∨ s.hotlisted b.card = true then refused .blocked
              else if s.journalTakes b.card = false then refused .journal
              else ∀ x, b.pass = some x → s.clock.stamp.day ≤ x.lastDay → x.product ≠ p.code → refused .passHeld

/-- A printed SELL that passes steps 1 to 7: refused RANGE, SHORT, NOCHANGE or BUSY in the order of R108, or accepted: the operation's
acceptance, a TICKET job with the values fixed then, the entry test and the reply. The job's lines are the template's in ascending line number,
each composed of its text and the values in the formats of R160 (R91, R111 to R118, R159, R160, R165). The model's choice: a time and four digits
are right-aligned (assumption 44). Read from R164 by inference: which ASK is owed at the job's start, and that the one for the slot's presence is
kept as one not for room (assumption 26). -/
def Obligations.PrintedSaleAccepted : Prop :=
  ∀ (product zones : Byte) (concession : Fin 8) (keep : Bool) (s : State) (f : Active FareTable) (p : Product),
    TakesFrames s → s.part = .ready → (s.purchase = .idle ∨ s.purchase = .opened) → s.retained.txn < 4294967295 →
    s.retained.fare = some f → f.content.product? product.toNat .printed = some p →
    1 ≤ zones.toNat → zones.toNat ≤ p.maxZones → (p.validityDays = 0 ∨ s.clock.valid = true) →
    s.printPath p.template = true →
    let u := s.frameSeen
    let stamp := s.clock.stamp
    let band := s.clock.band f.content
    let late := match p.lateStart with
      | none => false
      | some x => decide (x ≤ stamp.second)
    let first := if late then stamp.day + 1 else stamp.day
    let days := if p.validityDays = 0 then none else some (first, first + p.validityDays - 1)
    let price := p.price f.content.classes zones.toNat (f.content.factor band) concession.val
    let change := s.credit - price
    let refused (b : ReplyBody) := exec (.sell product zones concession .printed keep) s = .next (u.reply Kind.sell b).transmit
    if (days.any fun d => decide (65535 < d.2)) = true then refused (.refused .range)
    else if s.credit < price then refused (.refusedSum .short price)
    else if keep = false ∧ (s.plan change).2 ≠ 0 then refused (.refusedSum .noChange change)
    else if 11 < generalCount u.reports + s.reserved + 2 then refused (.refused .busy)
    else
      let o : OpRecord := ⟨.printedSale, s.retained.txn + 1, stamp, some f.generation,
        some ⟨band, product.toNat, zones.toNat, concession.val, days, keep⟩, BitVec.ofNat 32 price, 0, false, some p.template, none⟩
      let paid := if keep then 0 else change
      let values : FieldValues := ⟨some price, some paid, some p.name, some zones.toNat, days.map Prod.fst, days.map Prod.snd,
        some stamp.day, some stamp.second, some (s.retained.txn + 1), some s.machineId, none, none, none, none,
        some concession.val⟩
      ∃ w v, exec (.sell product zones concession .printed keep) s = .next (v.reply Kind.sell
          (.sell ⟨s.retained.txn + 1, price, band, concession.val, days, f.generation, paid⟩)).transmit ∧
        JobStarted .ticket (s.retained.txn + 1) p.template values (u.accepted o 2) w ∧ Tested w v

/-- A card SELL that passes steps 1 to 11: refused RANGE, SHORT, NOCHANGE or BUSY in the order of R108, or accepted: the operation's
acceptance, the ISSUED record and the write of the pass owed, the entry test and the reply; the class is the card's, and a running
pass of the same product is extended (R91, R111 to R117, R121, R137). -/
def Obligations.CardSaleAccepted : Prop :=
  ∀ (product zones : Byte) (concession : Fin 8) (keep : Bool) (s : State) (f : Active FareTable) (p : Product) (b : Binding),
    TakesFrames s → s.part = .ready → (s.purchase = .idle ∨ s.purchase = .opened) → s.retained.txn < 4294967295 →
    s.retained.fare = some f → f.content.product? product.toNat .card = some p →
    1 ≤ zones.toNat → zones.toNat ≤ p.maxZones → p.validityDays ≠ 0 → s.clock.valid = true →
    s.card.binding = some b → b.blocked = false → s.hotlisted b.card = false → s.journalTakes b.card = true →
    (∀ x, b.pass = some x → s.clock.day ≤ x.lastDay → x.product = p.code) →
    let u := s.frameSeen
    let stamp := s.clock.stamp
    let band := s.clock.band f.content
    let late := match p.lateStart with
      | none => false
      | some x => decide (x ≤ s.clock.second)
    let fresh := if late then s.clock.day + 1 else s.clock.day
    let first := match b.pass with
      | none => fresh
      | some x => if x.lastDay < s.clock.day then fresh else x.lastDay + 1
    let last := first + p.validityDays - 1
    let price := p.price f.content.classes zones.toNat (f.content.factor band) b.concession
    let change := s.credit - price
    let refused (r : ReplyBody) := exec (.sell product zones concession .card keep) s = .next (u.reply Kind.sell r).transmit
    if 65535 < last then refused (.refused .range)
    else if s.credit < price then refused (.refusedSum .short price)
    else if keep = false ∧ (s.plan change).2 ≠ 0 then refused (.refusedSum .noChange change)
    else if 11 < generalCount u.reports + s.reserved + 2 then refused (.refused .busy)
    else
      let o : OpRecord := ⟨.cardSale, s.retained.txn + 1, stamp, some f.generation,
        some ⟨band, product.toNat, zones.toNat, b.concession, some (first, last), keep⟩, BitVec.ofNat 32 price, 0, false, none,
        some (s.retained.txn + 1)⟩
      ∃ v, exec (.sell product zones concession .card keep) s = .next (v.reply Kind.sell
          (.sell ⟨s.retained.txn + 1, price, band, b.concession, some (first, last), f.generation, if keep then 0 else change⟩)).transmit ∧
        Tested ((u.accepted o 2).writeStarted o b (.pass product.toNat first last)) v

/-- TOPUP: the ten checks of R134 in order and what each refuses, or acceptance: the operation's acceptance, the ISSUED record and the
write of the new balance owed, the entry test and the reply. The amount a LIMIT refusal carries is the greatest multiple of the step, at
or above the minimum, that passes the balance check with its own bonus, and 0 where none passes (R18, R134, R135, R136, R137). -/
def Obligations.TopupCheckedAndAccepted : Prop :=
  (∀ (amount : Word16) (receipt : Bool) (s : State), TakesFrames s → s.part ≠ .unset →
      let u := s.frameSeen
      let a := amount.toNat
      let refused (b : ReplyBody) := exec (.topup amount receipt) s = .next (u.reply Kind.topup b).transmit
      if s.part = .service then refused (.refused .service)
      else if s.purchase ≠ .opened then refused (.refused .state)
      else if 4294967295 ≤ s.retained.txn then refused (.refused .range)
      else match s.retained.fare, s.card.binding with
        | none, _ => refused (.refused .table)
        | some _, none => refused (.refused .noCard)
        | some f, some b =>
          let h := f.content.header
          let bonus := if h.bonusThreshold ≤ a then a * h.bonusPercent / 100 else 0
          if b.blocked = true ∨ s.hotlisted b.card = true then refused (.refused .blocked)
          else if s.journalTakes b.card = false then refused (.refused .journal)
          else if a < h.minTopup ∨ a % h.topupStep ≠ 0 then refused (.refused .range)
          else if s.credit < a then refused (.refusedSum .short a)
          else if h.maxBalance < b.balance + a + bonus then refused (.refusedLimit (greatestTopup h b.balance))
          else if 11 < generalCount u.reports + s.reserved + 2 then refused (.refused .busy)
          else
            let o : OpRecord := ⟨.topup, s.retained.txn + 1, s.clock.stamp, some f.generation, none, amount.zeroExtend 32,
              BitVec.ofNat 32 bonus, receipt, if receipt then some 6 else none, some (s.retained.txn + 1)⟩
            ∃ v, exec (.topup amount receipt) s = .next (v.reply Kind.topup
                (.topup (s.retained.txn + 1) (amount.zeroExtend 32) (BitVec.ofNat 32 bonus) (b.balance + a + bonus))).transmit ∧
              Tested ((u.accepted o 2).writeStarted o b (.balance (b.balance + a + bonus))) v) ∧
  ∀ (h : FareHeader) (balance : Nat), 1 ≤ h.minTopup → 1 ≤ h.topupStep →
    let passes (a : Nat) : Prop := h.minTopup ≤ a ∧ a % h.topupStep = 0 ∧ a ≤ 65535 ∧
      balance + a + (if h.bonusThreshold ≤ a then a * h.bonusPercent / 100 else 0) ≤ h.maxBalance
    (∀ a, passes a → a ≤ greatestTopup h balance) ∧
      (greatestTopup h balance = 0 ∨ passes (greatestTopup h balance))

/-- CANCEL is refused SERVICE, STATE or BUSY in that order; accepted it reserves a slot and pays out the whole credit: with a plan the payout
begins, with an empty plan it ends at once with the whole as shortfall; then the entry is tested (R18, R87, R94, R148, R150, R154, R156). An empty
plan issues CREDIT twice in the one event, at the start and at the end of the payout (the model's reading, assumption 15). The plan of an
amount is the first pass over the candidates, highest value first, that ends at 0, and else the first pass; each entry takes coins that
its tube holds at its coin kind's value, and what the entries pay with the shortfall is the amount (R148). -/
def Obligations.CancelPaysOutCredit : Prop :=
  (∀ (s : State) (amount : Nat), Planned s amount (s.plan amount).1 (s.plan amount).2 ∧
    (∀ e ∈ (s.plan amount).1, 0 < e.coins ∧ e.counted = 0 ∧ e.coins ≤ s.retained.tubeCounts.get e.tube ∧
      s.tubeValue e.tube = some e.value) ∧
    ((s.plan amount).1.map fun e => e.coins * e.value).sum + (s.plan amount).2 = amount) ∧
  ∀ s : State, TakesFrames s → s.part ≠ .unset →
    let u := s.frameSeen
    let c := s.retained.ledger.c
    let plan := s.plan c.toNat
    let held := { u with reserved := s.reserved + 1 }
    if s.part = .service then exec .cancel s = .next (u.refuse Kind.cancel .service).transmit
    else if s.purchase ≠ .opened ∨ c = 0 then exec .cancel s = .next (u.refuse Kind.cancel .state).transmit
    else if 11 ≤ generalCount u.reports + s.reserved then exec .cancel s = .next (u.refuse Kind.cancel .busy).transmit
    else match plan.1 with
      | e :: es => ∃ v, exec .cancel s = .next (v.reply Kind.cancel (.cancel c (c.toNat - plan.2) plan.2)).transmit ∧
          Tested (held.payoutBegun .cancel e es) v
      | [] => plan.2 = c.toNat ∧
          ∃ v, exec .cancel s = .next (v.reply Kind.cancel (.cancel c 0 plan.2)).transmit ∧
          Tested ({ held with
              retained := { s.retained with ledger := { s.retained.ledger with c := 0, pp := s.retained.ledger.pp + c } }
              reports := putFixed (.credit ⟨0, .payout, 0, 0, 0⟩) u.reports }.payoutEnded
            ⟨.cancel, c, [], none, false, [], false, Vector.replicate 4 0, Vector.replicate 4 false⟩) v

/-- VOUCHER: its checks in the order of R157, or acceptance of the whole credit with a VOUCHER job of template 7. REPRINT: refused STATE with no
last receipt and PRINTER with no ready print path, or a REPRINT job of template 6 from the last receipt; no money moves (R18, R91, R157, R159,
R160, R165, R169, R170). The lines are composed as PrintedSaleAccepted says (the model's choice, assumption 44), and which ASK is owed at the
job's start is read from R164 by inference (assumption 26). -/
def Obligations.VoucherAndReprintStartJobs : Prop :=
  ∀ s : State, TakesFrames s → s.part ≠ .unset →
    let u := s.frameSeen
    let c := s.retained.ledger.c
    let refused (r : Reason) := exec .voucher s = .next (u.refuse Kind.voucher r).transmit
    (if s.part = .service then refused .service
    else if s.purchase ≠ .opened ∨ c = 0 then refused .state
    else if 4294967295 ≤ s.retained.txn ∨ 65535 < c.toNat then refused .range
    else if s.printPath 7 = false then refused .printer
    else if 11 ≤ generalCount u.reports + s.reserved then refused .busy
    else
      let o : OpRecord := ⟨.voucher, s.retained.txn + 1, s.clock.stamp, none, none, c, 0, false, some 7, none⟩
      let values := { FieldValues.none with
        voucher := some c.toNat, txn := some (s.retained.txn + 1), day := some s.clock.stamp.day
        second := some s.clock.stamp.second, machineId := some s.machineId }
      ∃ w v, exec .voucher s = .next (v.reply Kind.voucher (.voucher (s.retained.txn + 1) c)).transmit ∧
        JobStarted .voucher (s.retained.txn + 1) 7 values (u.accepted o 1) w ∧ Tested w v) ∧
    (match s.retained.lastReceipt with
      | none => exec .reprint s = .next (u.refuse Kind.reprint .state).transmit
      | some r =>
        if s.printPath 6 = false then exec .reprint s = .next (u.refuse Kind.reprint .printer).transmit
        else ∃ w, exec .reprint s = .next (w.reply Kind.reprint (.reprint r.txn)).transmit ∧
          JobStarted .reprint r.txn 6 { FieldValues.none with
            price := some r.amount.toNat, bonus := some r.bonus.toNat, newBalance := some r.newBalance, last4 := some r.last4
            day := some r.stamp.day, second := some r.stamp.second, txn := some r.txn, machineId := some r.machineId } u w)

/-! ## Tubes, held money and totals -/

/-- TUBE: its checks in the order of R146, or the count set, the fault cleared, the flags tested and the old values answered; no money moves. A
tube in use has the capacity of its entry, and its low flag says whether its count is at most the low mark; an unused tube has neither. WRITE
OFF: refused SERVICE, or RANGE without an UNCERTAIN record of that number; accepted it removes the record and moves its amount from H to
WRITTEN_OFF, with the CARD report where the record's card is bound (R18, R96, R141, R145, R146, R147). -/
def Obligations.TubeAndWriteOff : Prop :=
  (∀ (s : State) (i : Fin 4),
    let inUse (a : Active CoinTable) (t : TubeEntry) : Prop :=
      s.retained.coin = some a ∧ a.content.tubes[i.val]? = some t ∧ t.coinKind ≠ 0
    (∀ a t, inUse a t → s.tubeCapacity i = t.capacity ∧ (s.isLow i = true ↔ s.tubeCount i ≤ t.lowMark)) ∧
    ((∀ a t, ¬inUse a t) → s.tubeCapacity i = 0 ∧ s.isLow i = false)) ∧
  ∀ s : State, TakesFrames s → s.part ≠ .unset →
    let u := s.frameSeen
    (∀ (n count : Byte),
      let refused (r : Reason) := exec (.tube n count) s = .next (u.refuse Kind.tube r).transmit
      (s.part ≠ .service → refused .service) ∧
      (s.part = .service → (n.toNat < 1 ∨ 4 < n.toNat) → refused .range) ∧
      (s.part = .service → ∀ i : Fin 4, n.toNat = i.val + 1 →
        if s.retained.coin = none then refused .table
        else if s.tubeCapacity i < count.toNat then refused .range
        else if s.chute.state.coinInFlight = true then refused .state
        else ∃ t, exec (.tube n count) s = .next (t.reply Kind.tube (.tube (s.tubeCount i) (s.tubes.get i).faulted)).transmit ∧
          FlagsTested s { u with
            retained := { s.retained with tubeCounts := s.retained.tubeCounts.set i count.toNat }
            tubes := s.tubes.set i { s.tubes.get i with faulted := false } } t)) ∧
    (∀ (txn : Word32),
      (s.part ≠ .service → exec (.writeOff txn) s = .next (u.refuse Kind.writeOff .service).transmit) ∧
      (s.part = .service → (∀ r ∈ s.retained.journal, r.state = .uncertain → r.txn ≠ txn.toNat) →
        exec (.writeOff txn) s = .next (u.refuse Kind.writeOff .range).transmit) ∧
      (s.part = .service → ∀ r before after, s.retained.journal = before ++ r :: after → r.state = .uncertain →
        r.txn = txn.toNat → (∀ x ∈ before ++ after, x.txn ≠ r.txn) →
        let w := { u with retained := { s.retained with
          journal := before ++ after
          ledger := { s.retained.ledger with
            h := s.retained.ledger.h - r.amount, writtenOff := s.retained.ledger.writtenOff + r.amount } } }
        exec (.writeOff txn) s = .next
          ({ w with reports := if (s.card.binding.map Binding.card) = some r.card
                      then putFixed (.card ⟨w.bindingReport, s.slots.map Slot.present, 0⟩) u.reports else u.reports }.reply
            Kind.writeOff (.writeOff r.card r.kind r.amount r.bonus)).transmit))

/-- CLEAR TOTALS is refused SETUP in UNSET, SERVICE in READY, and STATE unless C, K, Pp and H are all 0; accepted it makes the six money counters,
OVERPAID, BONUS and the per-kind counts 0, changes nothing else, and answers with the eight counters as they stood (R100). -/
def Obligations.ClearTotalsZeroesCounters : Prop :=
  ∀ s : State, TakesFrames s →
    let u := s.frameSeen
    let l := s.retained.ledger
    if s.part = .unset then exec .clearTotals s = .next (u.refuse Kind.clearTotals .setup).transmit
    else if s.part = .ready then exec .clearTotals s = .next (u.refuse Kind.clearTotals .service).transmit
    else if l.c ≠ 0 ∨ l.k ≠ 0 ∨ l.pp ≠ 0 ∨ l.h ≠ 0 then exec .clearTotals s = .next (u.refuse Kind.clearTotals .state).transmit
    else exec .clearTotals s = .next ({ u with retained := { s.retained with
      ledger := .zero, accepted := Vector.replicate 12 0, returned := Vector.replicate 12 0 } }.reply Kind.clearTotals
        (.clearTotals ⟨l.inserted, l.sold, l.topped, l.paid, l.vouchered, l.writtenOff, l.overpaid, l.bonus⟩)).transmit

/-! ## Starts, power and RESET -/

/-- CLEAR ALL is refused SERVICE in READY, and STATE with money or a record held; accepted, as RESTART always is, it only answers: from
then the C-line assembler takes no further characters, and the reply carries the start it causes (R172, R174). -/
def Obligations.RestartRequestsOnlyAnswer : Prop :=
  ∀ s : State, TakesFrames s → s.part ≠ .unset →
    let u := s.frameSeen
    let l := s.retained.ledger
    exec .restart s = .next
      ({ u with stopping := true, replies := s.replies ++ [⟨Kind.restart, .accepted, some .restart⟩] } : State).transmit ∧
    (if s.part = .ready then exec .clearAll s = .next (u.refuse Kind.clearAll .service).transmit
    else if l.c ≠ 0 ∨ l.k ≠ 0 ∨ l.pp ≠ 0 ∨ l.h ≠ 0 ∨ s.retained.journal ≠ [] then
      exec .clearAll s = .next (u.refuse Kind.clearAll .state).transmit
    else exec .clearAll s = .next ({ u with
      stopping := true
      replies := s.replies ++ [⟨Kind.clearAll, .clearAll ⟨l.inserted, l.sold, l.topped, l.paid, l.vouchered, l.writtenOff,
        l.overpaid, l.bonus⟩ s.retained.txn, some .clearAll⟩] } : State).transmit)

/-- The starts: main power's return and RESET's release start warm where the retained check is good, and cold with cause CHECK where it is
bad; the end of a RESTART reply starts warm, and that of a CLEAR ALL reply cold (R101, R172 to R175). The model's
readings: DVK's pull-in begins within the start (assumption 25), what the spec gives no start value is 0 (assumption 37), and a slot of
no role is not PRESENT (assumption 48). -/
def Obligations.StartsResolveAndClear : Prop :=
  ∀ (pins : Pins) (s : State),
    (s.power = false → s.resetHeld = false → ∃ t, exec (.powerReturn pins) s = .next t ∧
      (s.retainedGood = true → WarmStarted .power pins { s with power := true } t) ∧
      (s.retainedGood = false → ColdStarted .check pins { s with power := true } t)) ∧
    (s.power = true → s.resetHeld = true → ∃ t, exec (.resetRelease pins) s = .next t ∧
      (s.retainedGood = true → WarmStarted .reset pins { s with resetHeld := false } t) ∧
      (s.retainedGood = false → ColdStarted .check pins { s with resetHeld := false } t)) ∧
    (s.running = true → s.startReplySent = some .restart →
      ∃ t, exec (.startAfterReply pins) s = .next t ∧ WarmStarted .restart pins s t) ∧
    (s.running = true → s.startReplySent = some .clearAll →
      ∃ t, exec (.startAfterReply pins) s = .next t ∧ ColdStarted .clearAll pins s t)

/-- Main power's loss and the RESET pin held turn every coil and motor off, quiet the lines and change nothing retained; while either lasts
an event or a frame changes nothing; a backup supply failure then spoils the retained check, and with main power on changes nothing.
A return of power with RESET held, and a release of RESET without power, only wait for the other: the model's choice (R171, R172;
assumptions 13 and 31). -/
def Obligations.PowerAndReset : Prop :=
  ∀ (pins : Pins) (s : State),
    let coils := { s.coils with coils := ⟨s.coils.coils.eb.release, s.coils.coils.ag.release, s.coils.coils.dvt.release,
      s.coils.coils.dvk.release⟩ }
    let quiet := { s with coils := coils, sending := none, exchange := none
                          tubes := s.tubes.map fun (t : Tube) => { t with dispenser := .off } }
    (s.power = true → exec .mainPowerLoss s = .next { quiet with power := false }) ∧
    exec .resetHeld s = .next { quiet with resetHeld := true } ∧
    (s.power = false → exec .backupSupplyFailure s = .next { s with retainedGood := false }) ∧
    (s.power = true → exec .backupSupplyFailure s = .next s) ∧
    (s.power = false → s.resetHeld = true → exec (.powerReturn pins) s = .next { s with power := true }) ∧
    (s.power = false → s.resetHeld = true → exec (.resetRelease pins) s = .next { s with resetHeld := false }) ∧
    (s.running = false → ∀ c : Instr, exec c s = .next s ∨
      c = .secondAdvance ∨ c = .hundredthAdvance ∨ c = .oscillatorStop ∨ c = .timeBaseRunsAgain ∨ c = .backupSupplyFailure ∨
      c = .mainPowerLoss ∨ c = .resetHeld ∨ (∃ p, c = .powerReturn p) ∨ ∃ p, c = .resetRelease p)

/-! ## The M-line -/

/-- EXCHANGE_GRANT begins the exchange of the first candidate that exists: the card write owed, the print frame owed, the other card
frame owed, the head of the forward queue, the lowest re-probe due, the next PRESENT slot after the last polled. With none, with an
exchange in progress, in UNSET, or with the upward queue full it changes nothing (R13, R14, R137, R164, R167). -/
def Obligations.ExchangeGrantOrder : Prop :=
  ∀ s : State, s.running = true →
    let grant := exec .exchangeGrant s
    let p := s.printer
    let card := s.presentOfRole .card
    let printer := s.presentOfRole .printer
    let noWrite : Prop := (∀ w, s.card.write ≠ .owed w) ∨ card = none ∨ s.card.owed = .hold
    let noPrint : Prop := noWrite ∧ (printer = none ∨ p.owed = .none)
    let noCard : Prop := noPrint ∧ (card = none ∨ s.card.owed = .none)
    let noForward : Prop := noCard ∧ ∀ f rest, s.forwardQ = f :: rest →
      (∃ i : Fin 6, f.dest = slotAddress i ∧ (s.slots.get i).present = false) ∨ (f.dest = 15 ∧ s.otherPresent = false)
    let due (i : Fin 6) : Prop :=
      (s.slots.get i).role ≠ .none ∧ (s.slots.get i).present = false ∧ (s.slots.get i).reprobe = .due
    let polled (i : Fin 6) : Prop := (s.slots.get i).role ≠ .none ∧ (s.slots.get i).present = true
    ((s.exchange ≠ none ∨ s.part = .unset ∨ 8 ≤ s.upwardQ.length) → grant = .next s.transmit) ∧
    (s.exchange = none → s.part ≠ .unset → s.upwardQ.length < 8 →
      (∀ w i, s.card.write = .owed w → card = some i → s.card.owed ≠ .hold → grant =
        .next { s with card := { s.card with write := .sent w }, exchange := some ⟨.slot i, .cardWrite, cardWriteFrame i w⟩ }.transmit) ∧
      (noWrite → ∀ i, printer = some i →
        (∀ b, p.owed = .ask b → grant = .next { s with
          printer := { p with owed := .none }, exchange := some ⟨.slot i, .printAsk b, slotFrame i Kind.printAsk []⟩ }.transmit) ∧
        (∀ j, p.owed = .line → p.job = some j → grant = .next { s with
          printer := { p with owed := .none, room := p.room - 1 }
          exchange := some ⟨.slot i, .printLine j.tag, printLineFrame i j.tag (j.next + 1) (j.lines.getD j.next [])⟩ }.transmit) ∧
        (∀ j, p.owed = .cut → p.job = some j → grant = .next { s with
          printer := { p with owed := .none, job := some { j with awaitCut := true } }
          exchange := some ⟨.slot i, .printCut j.tag, slotFrame i Kind.printCut [BitVec.ofNat 8 j.tag]⟩ }.transmit)) ∧
      (noPrint → ∀ i, card = some i →
        (∀ b, s.card.owed = .hold → s.card.binding = some b → grant = .next { s with
          card := { s.card with owed := .none }
          exchange := some ⟨.slot i, .hold, slotFrame i Kind.cardHold (leBytes 4 b.card)⟩ }.transmit) ∧
        (s.card.owed = .release → grant = .next { s with
          card := { s.card with owed := .none }, exchange := some ⟨.slot i, .release, slotFrame i Kind.cardRelease []⟩ }.transmit)) ∧
      (noCard → ∀ f rest, s.forwardQ = f :: rest →
        (∀ i : Fin 6, f.dest = slotAddress i → (s.slots.get i).present = true →
          grant = .next { s with forwardQ := rest, exchange := some ⟨.slot i, .forward, f⟩ }.transmit) ∧
        (f.dest = 15 → s.otherPresent = true →
          grant = .next { s with forwardQ := rest, exchange := some ⟨.group, .forward, f⟩ }.transmit)) ∧
      (noForward →
        (∀ i, due i → (∀ j, j < i → ¬due j) → grant = .next { s with
          slots := s.slots.set i { s.slots.get i with reprobe := .off }
          exchange := some ⟨.slot i, .poll, slotFrame i Kind.poll []⟩ }.transmit) ∧
        (∀ k : Fin 6, (∀ j, ¬due j) → polled (s.lastPolled + k + 1) → (∀ m, m < k → ¬polled (s.lastPolled + m + 1)) →
          grant = .next { s with
            lastPolled := s.lastPolled + k + 1
            exchange := some ⟨.slot (s.lastPolled + k + 1), .poll, slotFrame (s.lastPolled + k + 1) Kind.poll []⟩ }.transmit) ∧
        ((∀ j, ¬due j) → (∀ j, ¬polled j) → grant = .next s.transmit)))

/-- MODULE_ANSWER: outside a single-slot exchange it changes nothing, and a frame with a wrong source or destination counts as no valid
answer. A valid one clears a PRESENT slot's misses; it makes an ABSENT slot PRESENT, its report issued, a CARD slot owing RELEASE and a
PRINTER slot ASK. A NIL is then consumed, a kind of the slot's upward vocabulary goes to the owning unit, any other joins the upward
queue where it goes to 14 and its row passes it, and is dropped elsewhere. The exchange ends, and the unit that owed its frame is told
(R11, R12, R15, R130, R163, R166, R167). Read from the spec by inference: the order of these (assumption 23), and that the exchange's end
clears a waiting overrun mark and stops the gap timer (assumption 34). Which column of R10 consumes is the model's choice (assumption
43). -/
def Obligations.ModuleAnswerDisposed : Prop :=
  ∀ (f : Frame) (s : State), s.running = true →
    let answer := exec (.moduleAnswer f) s
    ((∀ i o g, s.exchange ≠ some ⟨.slot i, o, g⟩) → answer = .next s.transmit) ∧
    (∀ (i : Fin 6) (o : Owner) (g : Frame), s.exchange = some ⟨.slot i, o, g⟩ →
      let slot := s.slots.get i
      let valid : Prop := f.src = slotAddress i ∧ (f.dest = 0 ∨ f.dest = 14)
      let back : State := { s with slots := s.slots.set i { slot with present := true, miss := 0, reprobe := .off } }
      let met : State :=
        if slot.present = true then s.heard i
        else match slot.role with
          | .none => back
          | .other => back.cardReported
          | .card => ({ back with card := { s.card with owed := .release } } : State).cardReported
          | .printer => { back with
              printer := { s.printer with owed := .ask false }
              reports := putFixed (.printer ⟨s.printer.paper, s.printer.head, s.printer.fault, false, false, false,
                back.slots.map Slot.present, 0⟩) s.reports }
      (¬valid → answer = exec .answerWindowExpiry { s with mRx := { s.mRx with asm := .hunting } }) ∧
      (valid →
        (f.kind = 0 → f.payload = [] → EndsWith o met answer) ∧
        ((f.kind ≠ 0 ∨ f.payload ≠ []) → consumedUp slot.role f.kind = false → f.dest = 14 → s.passes (7 + i.val) f.kind = true →
          EndsWith o { met with upwardQ := s.upwardQ ++ [f] } answer) ∧
        ((f.kind ≠ 0 ∨ f.payload ≠ []) → consumedUp slot.role f.kind = false →
          (f.dest = 0 ∨ s.passes (7 + i.val) f.kind = false) → EndsWith o met answer) ∧
        (slot.role = .card → (f.kind = Kind.cardSeen ∨ f.kind = Kind.cardGone ∨ f.kind = Kind.cardWritten) →
          EndsWith o (met.takeCardFrame f.kind f.payload) answer) ∧
        (slot.role = .printer → (f.kind = Kind.printRoom ∨ f.kind = Kind.printCutDone ∨ f.kind = Kind.printState) →
          EndsWith o (met.takeNotices f.kind f.payload) answer)))

/-- ANSWER_WINDOW_EXPIRY, while no frame is in assembly, ends a single-slot exchange with no valid answer: the unit that owed its frame is
told, and then a first or second miss is counted, the third makes the slot ABSENT with its re-probe wait running and its forward frames
discarded, and an ABSENT slot's wait runs again. A CARD slot that becomes ABSENT withdraws the frame owed, ends a write owed or sent
uncertain with cause ABSENT, and ends a binding; a PRINTER slot forgets the printer's state and fails a job with PRINTER ABSENT.
GROUP_EXCHANGE_END ends a group exchange, and REPROBE_DUE ends a running re-probe wait (R12, R15, R130, R132, R166, R167, R168). The
model's choice: an expiry, a group end or a re-probe with nothing in progress changes nothing (assumption 5). Read from the spec by
inference: the exchange's end clears a waiting overrun mark and stops the gap timer (assumption 34), and CREDIT goes out twice where the
change of a sale that ends uncertain has an empty plan (assumption 15). -/
def Obligations.NoAnswerAndReprobe : Prop :=
  ∀ s : State, s.running = true →
    let expiry := exec .answerWindowExpiry s
    ((s.mRx.asm ≠ .hunting ∨ ∀ i o g, s.exchange ≠ some ⟨.slot i, o, g⟩) → expiry = .next s.transmit) ∧
    (∀ (i : Fin 6) (o : Owner) (g : Frame), s.exchange = some ⟨.slot i, o, g⟩ → s.mRx.asm = .hunting →
      let slot := s.slots.get i
      ∃ u, Told o false s.exchangeEnded u ∧
        let down : State := { u with slots := s.slots.set i { slot with present := false, miss := 0, reprobe := .waiting } }
        let others : Prop := ∃ j, j ≠ i ∧ (s.slots.get j).role = .other ∧ (s.slots.get j).present = true
        let kept := s.forwardQ.filter fun f =>
          !(f.dest == slotAddress i || (decide (slot.role = .other ∧ ¬others) && f.dest == 15))
        let discards := min (s.forwardQ.length - kept.length) 65535
        let lost : State := { down with forwardQ := kept }
        let carded (v : State) : State :=
          { v with reports := putFixed (.card ⟨v.bindingReport, v.slots.map Slot.present, discards⟩) v.reports }
        let cardless : State := { lost with card := { u.card with owed := .none } }
        let printless : State := { lost with
          printer := { u.printer with
            paper := .unknown, head := .unknown, fault := .unknown, room := 0, owed := .none, askWait := false } }
        let printed (v : State) : State := { v with reports := putFixed (.printer ⟨v.printer.paper, v.printer.head,
          v.printer.fault, false, false, false, v.slots.map Slot.present, discards⟩) v.reports }
        (slot.present = false →
          expiry = .next ({ u with slots := s.slots.set i { slot with reprobe := .waiting } } : State).transmit) ∧
        (slot.present = true → slot.miss < 2 →
          expiry = .next ({ u with slots := s.slots.set i { slot with miss := slot.miss + 1 } } : State).transmit) ∧
        (slot.present = true → 2 ≤ slot.miss → slot.role = .other → expiry = .next (carded lost).transmit) ∧
        (slot.present = true → 2 ≤ slot.miss → slot.role = .card →
          (s.card.write = .none → s.card.binding = none → expiry = .next (carded cardless).transmit) ∧
          (s.card.write = .none → s.card.binding ≠ none →
            ∃ v, Departed cardless v ∧ expiry = .next (carded v).transmit) ∧
          (∀ op w, s.retained.op = some op → (s.card.write = .owed w ∨ s.card.write = .sent w) → 2 ≤ s.reserved →
            ∃ v, WriteUncertain op w .absent cardless v ∧ expiry = .next (carded v).transmit)) ∧
        (slot.present = true → 2 ≤ slot.miss → slot.role = .printer →
          (s.printer.job = none → expiry = .next (printed printless).transmit) ∧
          (∀ j, u.printer.job = some j → s.jobReserved →
            ∃ v, JobEnded j (some .printerAbsent) printless v ∧ expiry = .next (printed v).transmit))) ∧
    (∀ o g, s.exchange = some ⟨.group, o, g⟩ → exec .groupExchangeEnd s = .next s.exchangeEnded.transmit) ∧
    ((∀ o g, s.exchange ≠ some ⟨.group, o, g⟩) → exec .groupExchangeEnd s = .next s.transmit) ∧
    (∀ i : Fin 6, exec (.reprobeDue i) s =
      .next (if (s.slots.get i).reprobe = .waiting then
        { s with slots := s.slots.set i { s.slots.get i with reprobe := .due } } else s).transmit)

/-! ## The chute -/

/-- SENSOR_RISE and SENSOR_FALL: each edge sets the sensor's level and the capture counts that run, and does in each chute state what
the rules give it: it begins a coin, passes ON_A to GAP and GAP to ON_B, ends RETURNING, enters FAULT ORDER, CROWD or STRAY_C, stops
or starts the idle wait, or nothing more (R45, R47, R48, R51 to R54); the end of RETURNING lets a COIN activation that waited take
place (R27). The model's choices: a rise of an active sensor and a fall of an idle one do nothing (assumption 5), and the ticks come
with the edge (assumption 7). -/
def Obligations.SensorEdges : Prop :=
  ∀ (x : Sensor) (n : Nat) (s : State), s.running = true →
    let c := s.chute
    let counted (on : Bool) : Chute := { c with
      wA := if c.state = .onA then min (c.wA + n) 65535 else c.wA
      fAB := if c.state = .onA ∨ c.state = .gap then min (c.fAB + n) 65535 else c.fAB
      wB := if c.state = .onB then min (c.wB + n) 65535 else c.wB
      active := c.active.set on x }
    let rise := exec (.sensorRise x n) s
    let fall := exec (.sensorFall x n) s
    (c.active.get x = true → rise = .next s.transmit) ∧ (c.active.get x = false → fall = .next s.transmit) ∧
    (c.active.get x = false →
      (x = .a → c.state = .idle → ∃ t, rise = .next t.transmit ∧ Tested { s with
        chute := { counted true with state := .onA, timer := some s.aLimit, wA := 0, fAB := 0, wB := 0 } } t) ∧
      (x = .b → c.state = .gap →
        rise = .next { s with chute := { counted true with state := .onB, timer := some s.aLimit, wB := 0 } }.transmit) ∧
      (x = .d → c.state = .returning → ∃ t, rise = .next t.transmit ∧ ToIdle { s with chute := counted true } t) ∧
      (∀ k, (c.state, x, k) ∈ [(.idle, .b, .order), (.onA, .b, .order), (.accepting, .b, .order), (.returning, .b, .order),
          (.onA, .d, .order), (.gap, .d, .order), (.onB, .d, .order), (.accepting, .d, .order), (.gap, .a, .crowd),
          (.onB, .a, .crowd), (.accepting, .a, .crowd), (.returning, .a, .crowd), (.idle, .c, .strayC), (.onA, .c, .strayC),
          (.gap, .c, .strayC), (.onB, .c, .strayC), (.returning, .c, FaultKind.strayC)] →
        ∃ t, rise = .next t.transmit ∧ Faulted k s.coils.atRest { s with chute := counted true } t) ∧
      (c.state = .fault → rise = .next { s with chute := { counted true with timer := none } }.transmit) ∧
      ((c.state = .idle ∧ x = .d) ∨ (c.state = .onA ∧ x = .a) ∨ (c.state = .onB ∧ x = .b) →
        rise = .next { s with chute := counted true }.transmit)) ∧
    (c.active.get x = true →
      (x = .a → c.state = .onA → fall = .next { s with chute := { counted false with state := .gap, timer := some s.gapLimit } }.transmit) ∧
      (c.state = .fault → fall = .next { s with chute := { counted false with
        timer := if c.fault.any FaultKind.selfClears = true ∧ allIdle (c.active.set false x) = true then some 2000
          else c.timer } }.transmit) ∧
      (c.state ≠ .fault → ¬(x = .a ∧ c.state = .onA) → ¬(x = .b ∧ c.state = .onB) →
        fall = .next { s with chute := counted false }.transmit))

/-- The classification of three measurements: NONE with no COIN table or a measurement of 65535; else coin kind k exactly where entry k alone
matches the two ratios and the flight time, NONE exactly where no entry matches, and AMBIGUOUS where more than one does. The fall of B in ON_B
classifies the coin and decides. A coin kind whose value keeps credit, committed and pending within the ceiling of the active FARE table, with
the door closed, is accepted: ACCEPTING, the route and ceiling recorded, the diverter commanded to the route's side, AG energised. Any other coin
is returned: RETURNING, counted, and CREDIT issued. The value of a kind is that of its entry, and its tube the one whose entry names it (R49, R57
to R61, R67, R69, R74). The ticks that add to wB come with the fall itself, the model's choice (assumption 7). -/
def Obligations.CoinDecision : Prop :=
  ((∀ wA fAB wB, classify none wA fAB wB = .none) ∧
    (∀ (t : CoinTable) (wA fAB wB : Nat), (65535 ≤ wA ∨ 65535 ≤ fAB ∨ 65535 ≤ wB) → classify (some t) wA fAB wB = .none) ∧
    ∀ (t : CoinTable) (wA fAB wB : Nat), wA < 65535 → fAB < 65535 → wB < 65535 →
      let rA := min (wA * 256 / max fAB 1) 1023
      let rB := min (wB * 256 / max fAB 1) 1023
      let fits (k : Nat) : Prop := 1 ≤ k ∧ ∃ e, t.coins[k - 1]? = some e ∧ e.enabled = true ∧ e.loA ≤ rA ∧ rA ≤ e.hiA ∧
        e.loB ≤ rB ∧ rB ≤ e.hiB ∧ e.fmin ≤ fAB ∧ fAB ≤ e.fmax
      (∀ k, classify (some t) wA fAB wB = .kind k ↔ fits k ∧ ∀ j, fits j → j = k) ∧
      (classify (some t) wA fAB wB = .none ↔ ∀ k, ¬fits k) ∧
      (classify (some t) wA fAB wB = .ambiguous ↔ ∃ j k, j ≠ k ∧ fits j ∧ fits k)) ∧
  (∀ (s : State) (k : Nat),
    let names (i : Fin 4) : Prop := ∃ a t, s.retained.coin = some a ∧ a.content.tubes[i.val]? = some t ∧ t.coinKind ≠ 0 ∧ t.coinKind = k
    (∀ i, s.tubeNaming k = some i ↔ names i ∧ ∀ j, j < i → ¬names j) ∧ (s.tubeNaming k = none ↔ ∀ i, ¬names i) ∧
    ∀ a e, s.retained.coin = some a → 1 ≤ k → a.content.coins[k - 1]? = some e → s.coinValue k = e.value) ∧
  ∀ (n : Nat) (s : State), s.running = true → s.chute.state = .onB → s.chute.active.b = true →
    let c := { s.chute with wB := min (s.chute.wB + n) 65535, active := { s.chute.active with b := false } }
    let l := s.retained.ledger
    let result := classify s.coinTable c.wA c.fAB c.wB
    let recorded (w : Nat) : Nat :=
      if c.wA = 65535 ∨ c.fAB = 65535 ∨ c.wB = 65535 then 1023 else min (w * 256 / max c.fAB 1) 1023
    let measured (d : Decision) : Measurement := ⟨c.wA, c.fAB, c.wB, recorded c.wA, recorded c.wB, result, d⟩
    let accepted (f : Active FareTable) (k : Nat) : Prop := s.retained.fare = some f ∧ result = .kind k ∧
      l.c.toNat + l.k.toNat + l.pp.toNat + s.coinValue k ≤ f.content.header.ceiling ∧ s.doorOpen = false
    s.chute.wA ≤ 65535 → s.chute.fAB ≤ 65535 →
    (∀ f k, accepted f k →
      let route : Route := match s.tubeNaming k with
        | none => .cashBox
        | some i => if s.tubeCount i < s.tubeCapacity i ∧ (s.tubes.get i).faulted = false then .tube i else .cashBox
      let d := s.coils
      let coils : CoilDriver := match route with
        | .tube _ => { d with
            coils := { d.coils with ag := d.coils.ag.energise, dvk := d.coils.dvk.release }
            command := .tubes, target := if d.coils.dvt.phase = .off then some true else none }
        | .cashBox => { d with
            coils := { d.coils with ag := d.coils.ag.energise, dvt := d.coils.dvt.release }
            command := .cashBox, target := if d.coils.dvk.phase = .off then some false else none }
      ∃ v, exec (.sensorFall .b n) s = .next v.chuteReported.transmit ∧ Tested { s with
        chute := { c with state := .accepting, timer := some s.acceptWait, last := some (measured .accept)
                          coin := some ⟨result, some ⟨k, s.coinValue k, route, f.content.header.ceiling⟩⟩ }
        coils := coils } v) ∧
    ((∀ f k, ¬accepted f k) → ∃ v, exec (.sensorFall .b n) s = .next v.chuteReported.transmit ∧ Tested { s with
      chute := { c with state := .returning, timer := some s.returnWait, last := some (measured .giveBack)
                        coin := some ⟨result, none⟩ }
      retained := { s.retained with returned := Vector.ofFn fun i : Fin 12 =>
        if (result = CoinResult.kind (i.val + 1)) then min (s.retained.returned.get i + 1) 65535 else s.retained.returned.get i }
      reports := putFixed (.credit ⟨l.c, s.purchase, 0, 1, 0⟩) s.reports } v)

/-- The rise of C in ACCEPTING credits the coin in flight: its value to credit and INSERTED, its kind's accepted count and the count of the tube
it was routed to, IDLE becomes OPEN, CREDIT is issued; AG is released, the diverter goes to its rest, and the chute becomes IDLE, which lets a
COIN activation that waited take place. In the states that CoilDrivesStaySafe keeps, the credit after it is within the ceiling kept at the
decision (R27, R46, R50, R62, R64, R147). -/
def Obligations.CoinCredited : Prop :=
  ∀ (n : Nat) (r : CoinResult) (a : AcceptedCoin) (s : State), s.running = true → s.chute.state = .accepting →
    s.chute.active.c = false → s.chute.coin = some ⟨r, some a⟩ →
    let v := BitVec.ofNat 32 a.value
    let l := s.retained.ledger
    let purchase : PurchaseState := if s.purchase = .idle then .opened else s.purchase
    let credited : Retained := { s.retained with
      ledger := { l with inserted := l.inserted + v, c := l.c + v }
      accepted := Vector.ofFn fun i : Fin 12 =>
        if a.kind = i.val + 1 then min (s.retained.accepted.get i + 1) 65535 else s.retained.accepted.get i }
    (ChuteKept s.chute l → (l.c + v).toNat ≤ a.ceiling) ∧
    ∃ w t, exec (.sensorRise .c n) s = .next t.transmit ∧
      (a.route = .cashBox → w = { s with retained := credited }) ∧
      (∀ i, a.route = .tube i → FlagsTested s { s with
        retained := { credited with tubeCounts := s.retained.tubeCounts.set i (s.tubeCount i + 1) } } w) ∧
      ToIdle { w with
        purchase := purchase, reports := putFixed (.credit ⟨l.c + v, purchase, 1, 0, 0⟩) w.reports
        chute := { s.chute with active := { s.chute.active with c := true } }, coils := s.coils.atRest } t

/-- The chute's limits: the A limit sends ON_A to FAULT JAM_A and ON_B to JAM_B, the accept wait ACCEPTING to ACCEPT_LOST, the return wait
RETURNING to RETURN_LOST; the gap limit returns the coin with result NONE, and that this return has a coin in flight is read from R48 by
inference (assumption 49). A limit is that of the active COIN table, its default where the table holds 0 or there is none (R68). IDLE_WAIT_EXPIRY
clears the fault whose idle wait runs; CHUTE CLEAR clears a fault of any kind while all sensors are idle, ends a coil fault, sends the diverter
to rest and answers with the kind cleared, and is refused STATE otherwise; either leaves the chute IDLE, where a COIN activation that waited
takes place, tests the entry and issues the CHUTE report (R27, R47 to R51, R54, R55, R61, R64, R81). Each timer's event changes nothing while its
timer does not run: the model's choice (assumption 5). -/
def Obligations.ChuteLimitsAndFaults : Prop :=
  (∀ s : State, (s.retained.coin = none → s.aLimit = 200 ∧ s.gapLimit = 150 ∧ s.acceptWait = 400 ∧ s.returnWait = 400) ∧
    ∀ a, s.retained.coin = some a →
      let h := a.content.header
      s.aLimit = (if h.aLimit = 0 then 200 else h.aLimit) ∧ s.gapLimit = (if h.gapLimit = 0 then 150 else h.gapLimit) ∧
      s.acceptWait = (if h.acceptWait = 0 then 400 else h.acceptWait) ∧
      s.returnWait = (if h.returnWait = 0 then 400 else h.returnWait)) ∧
  (∀ s : State, s.running = true →
    let faults (c : Instr) (k : FaultKind) : Prop := ∃ t, exec c s = .next t.transmit ∧ Faulted k s.coils.atRest s t
    (s.chute.state = .onA → faults .aLimitExpiry .jamA) ∧ (s.chute.state = .onB → faults .aLimitExpiry .jamB) ∧
    (s.chute.state = .accepting → faults .acceptWaitExpiry .acceptLost) ∧
    (s.chute.state = .returning → faults .returnWaitExpiry .returnLost) ∧
    (s.chute.state = .gap → ∃ v, exec .gapLimitExpiry s = .next v.chuteReported.transmit ∧ Tested { s with
      chute := { s.chute with state := .returning, timer := some s.returnWait, coin := some ⟨.none, none⟩
                              last := some ⟨s.chute.wA, 65535, 65535, 1023, 1023, .none, .giveBack⟩ }
      reports := putFixed (.credit ⟨s.retained.ledger.c, s.purchase, 0, 1, 0⟩) s.reports } v) ∧
    (s.chute.state ≠ .onA → s.chute.state ≠ .onB → exec .aLimitExpiry s = .next s.transmit) ∧
    (s.chute.state ≠ .gap → exec .gapLimitExpiry s = .next s.transmit) ∧
    (s.chute.state ≠ .accepting → exec .acceptWaitExpiry s = .next s.transmit) ∧
    (s.chute.state ≠ .returning → exec .returnWaitExpiry s = .next s.transmit)) ∧
  ∀ s : State,
    (s.running = true → s.chute.state = .fault → s.chute.timer ≠ none →
      ∃ v, exec .idleWaitExpiry s = .next v.chuteReported.transmit ∧ ToIdle s v) ∧
    (s.running = true → (s.chute.state ≠ .fault ∨ s.chute.timer = none) → exec .idleWaitExpiry s = .next s.transmit) ∧
    (TakesFrames s → s.part ≠ .unset → (s.chute.state ≠ .fault ∨ allIdle s.chute.active = false) →
      exec .chuteClear s = .next (s.frameSeen.refuse Kind.chuteClear .state).transmit) ∧
    (TakesFrames s → s.part ≠ .unset → s.chute.state = .fault → allIdle s.chute.active = true →
      ∀ k, s.chute.fault = some k → ∃ v : State,
        exec .chuteClear s = .next (v.chuteReported.reply Kind.chuteClear (.chuteClear k)).transmit ∧
        ToIdle { s.frameSeen with
          coils := { s.frameSeen.coils with
            coils := { s.frameSeen.coils.coils with dvt := s.coils.coils.dvt.release }
            command := .cashBox, target := if s.coils.coils.dvk.phase = .off then some false else none
            faulted := false, failed := ⟨false, false, false, false⟩ } } v)

/-- DOOR_CHANGE takes the level, tests the entry, and on closing starts a payout entry that waits. LEVER_PRESS pays out the whole credit
where the part is READY, the purchase OPEN with credit, the chute IDLE and a report slot free, and changes nothing otherwise (R64,
R65, R66, R94, R151, R156). The model's choice: a DOOR_CHANGE to the level held changes nothing (assumption 5). An empty plan issues
CREDIT twice in the one event (the model's reading, assumption 15). -/
def Obligations.DoorAndLever : Prop :=
  ∀ s : State, s.running = true →
    exec (.doorChange s.doorOpen) s = .next s.transmit ∧
    (s.doorOpen = false → ∃ t, exec (.doorChange true) s = .next t.transmit ∧ Tested { s with doorOpen := true } t) ∧
    (s.doorOpen = true → (∀ p, s.payout = some p → p.started = true ∨ p.current = none) →
      ∃ t, exec (.doorChange false) s = .next t.transmit ∧ Tested { s with doorOpen := false } t) ∧
    (s.doorOpen = true → ∀ p e, s.payout = some p → p.current = some e → p.started = false →
      ∃ v, Tested { s with doorOpen := false } v ∧ exec (.doorChange false) s = .next { v with
        payout := some { p with started := true }
        tubes := s.tubes.set e.tube { s.tubes.get e.tube with dispenser := .running, lastValue := e.value } }.transmit) ∧
    let taken : Prop := s.part = .ready ∧ s.purchase = .opened ∧ s.retained.ledger.c ≠ 0 ∧ s.chute.state = .idle ∧
      generalCount s.reports + s.reserved < 11
    (taken → ∃ t, exec .leverPress s = .next t.transmit ∧ PaidOut .lever { s with reserved := s.reserved + 1 } t) ∧
    (¬taken → exec .leverPress s = .next s.transmit)

/-! ## The coils -/

/-- PWM_PERIOD, PULL_IN_CHECK and DIVERTER_CHANGEOVER. A period's end takes each coil's sensed state, counts its pull-in down and the quiet count
up, and passes to HOLD a coil whose check passes; the next start begins the coils that wait, and the target side once the quiet count reaches N.
A pull-in check takes every coil's sensed state for the period that ends with it, and passes the coils checked to HOLD. A failed check releases
every coil, records the set and sends the chute to FAULT COIL, whose report shows those sensed states. Without a COIN table nothing happens (R72,
R74, R75, R79, R80; assumptions 24 and 32). The model's choices: PWM_PERIOD makes the checks and the change-over that fall on its boundary too
(assumption 1), and DIVERTER_CHANGEOVER where none can occur, with a coil fault, before N or without a target, changes nothing (assumption 5). -/
def Obligations.CoilPeriods : Prop :=
  ∀ (sense : PerCoil Sense) (ends : PerCoil Bool) (s : State), s.running = true →
    let d := s.coils
    (s.retained.coin = none → exec (.pwmPeriod sense) s = .next s.transmit ∧ exec (.pullInCheck ends sense) s = .next s.transmit ∧
      exec .diverterChangeover s = .next s.transmit) ∧
    ∀ a, s.retained.coin = some a →
      let h := a.content.header
      let passes (n : CoilName) : Bool := (sense.get n).inPulse && decide (0 < effectivePullIn h n)
      let sensed (n : CoilName) : Bool := (sense.get n).any || (sense.get n).inPulse
      let fails (n : CoilName) : Bool := decide ((d.coils.get n).phase = .pullIn) && (d.coils.get n).begun &&
        decide ((d.coils.get n).left ≤ 1) && !passes n
      let quiet := if d.driven || d.coils.dvt.on || d.coils.dvk.on then 0 else min (d.quiet + 1) 15
      let begins (side : Bool) : Bool := !d.faulted && decide (d.target = some side) && decide (h.nonOverlap ≤ quiet)
      let checked (n : CoilName) : Bool := ends.get n && decide ((d.coils.get n).phase = .pullIn) && (d.coils.get n).begun &&
        decide ((d.coils.get n).left ≤ 1)
      let begun (n : CoilName) (x : Bool) : Coil := ⟨.pullIn, true, pullInCount h n, x⟩
      ((∀ n, fails n = false) → ∃ d' : CoilDriver, exec (.pwmPeriod sense) s = .next { s with coils := d' }.transmit ∧
        d' = { d with
          coils := d'.coils, target := if begins true || begins false then none else d.target
          quiet := if begins true || begins false then 0 else quiet, driven := d'.coils.dvt.on || d'.coils.dvk.on } ∧
        ∀ n, let c := d.coils.get n
          d'.coils.get n =
            if (n = .dvt ∧ begins true = true) ∨ (n = .dvk ∧ begins false = true) then begun n (sensed n)
            else if c.phase = .pullIn ∧ c.begun = false then begun n (sensed n)
            else if c.phase = .pullIn ∧ 1 < c.left then { c with left := c.left - 1, sensed := sensed n }
            else if c.phase = .pullIn then { c with phase := .hold, left := 0, sensed := sensed n }
            else { c with sensed := sensed n }) ∧
      ((∃ n, fails n = true) → ∃ t, exec (.pwmPeriod sense) s = .next t.transmit ∧ Faulted .coil
        ⟨⟨⟨.off, false, 0, sensed .eb⟩, ⟨.off, false, 0, sensed .ag⟩, ⟨.off, false, 0, sensed .dvt⟩, ⟨.off, false, 0, sensed .dvk⟩⟩,
          .none, none, quiet, false, true, ⟨fails .eb, fails .ag, fails .dvt, fails .dvk⟩⟩ s t) ∧
      ((∀ n, checked n = true → passes n = true) → ∃ d' : CoilDriver,
        exec (.pullInCheck ends sense) s = .next { s with coils := d' }.transmit ∧ d' = { d with coils := d'.coils } ∧
        ∀ n, d'.coils.get n = if checked n = true then ⟨.hold, true, 0, true⟩
          else if checked .eb || checked .ag || checked .dvt || checked .dvk then { d.coils.get n with sensed := sensed n } else d.coils.get n) ∧
      ((∃ n, checked n = true ∧ passes n = false) → ∃ t, exec (.pullInCheck ends sense) s = .next t.transmit ∧
        let after (n : CoilName) : Coil := ⟨.off, false, 0, sensed n⟩
        let failed (n : CoilName) : Bool := checked n && !passes n
        Faulted .coil ⟨⟨after .eb, after .ag, after .dvt, after .dvk⟩, .none, none, d.quiet, d.driven, true,
          ⟨failed .eb, failed .ag, failed .dvt, failed .dvk⟩⟩ s t) ∧
      (d.faulted = false → h.nonOverlap ≤ d.quiet →
        (d.target = some true → exec .diverterChangeover s = .next { s with coils := { d with
          coils := { d.coils with dvt := begun .dvt d.coils.dvt.sensed }, target := none, quiet := 0, driven := true } }.transmit) ∧
        (d.target = some false → exec .diverterChangeover s = .next { s with coils := { d with
          coils := { d.coils with dvk := begun .dvk d.coils.dvk.sensed }, target := none, quiet := 0, driven := true } }.transmit)) ∧
      ((d.faulted = true ∨ d.quiet < h.nonOverlap ∨ d.target = none) → exec .diverterChangeover s = .next s.transmit)

/-! ## Payouts -/

/-- EXIT_PULSE counts a paid coin at a RUNNING tube, an extra coin at a TRAILING one, and nothing at an OFF one; the entry's last coin
stops the motor and starts the next entry or ends the payout. JAM_TIMEOUT of a RUNNING tube faults it and plans the unpaid amount once
more, or ends the payout the second time. TRAILING_WINDOW_END takes TRAILING to OFF (R95, R147, R151, R152, R153, R154). A JAM_TIMEOUT
of a tube not RUNNING and a TRAILING_WINDOW_END of one not TRAILING change nothing: the model's choice (assumption 5). -/
def Obligations.PayoutEvents : Prop :=
  ∀ (i : Fin 4) (s : State), s.running = true →
    let tube := s.tubes.get i
    let v := BitVec.ofNat 32 tube.lastValue
    let l := s.retained.ledger
    let counts := s.retained.tubeCounts.set i (s.tubeCount i - 1)
    let paid : Ledger := if v.toNat ≤ l.pp.toNat then { l with pp := l.pp - v, paid := l.paid + v }
      else { l with paid := l.paid + l.pp, overpaid := l.overpaid + (v - l.pp), pp := 0 }
    (tube.dispenser = .off → exec (.exitPulse i) s = .next s.transmit) ∧
    (tube.dispenser = .trailing → ∃ t, exec (.exitPulse i) s = .next t.transmit ∧ FlagsTested s { s with
      retained := { s.retained with ledger := { l with overpaid := l.overpaid + v }, tubeCounts := counts } } t) ∧
    (tube.dispenser = .running → ∀ p e, s.payout = some p → p.current = some e →
      let e' := { e with counted := e.counted + 1 }
      let p' := { p with current := some e', paid := p.paid.set i (p.paid.get i + 1) }
      ∃ w : State, FlagsTested s { s with
          retained := { s.retained with ledger := paid, tubeCounts := counts }, payout := some p' } w ∧
        let stopped := w.tubes.set e.tube { w.tubes.get e.tube with dispenser := .trailing }
        (e.counted + 1 < e.coins → exec (.exitPulse i) s = .next w.transmit) ∧
        (e.coins ≤ e.counted + 1 → ∀ x xs, p.rest = x :: xs → exec (.exitPulse i) s = .next { w with
          payout := some { p' with done := p.done ++ [e'], current := some x, started := !s.doorOpen, rest := xs }
          tubes := if s.doorOpen then stopped
            else stopped.set x.tube { stopped.get x.tube with dispenser := .running, lastValue := x.value } }.transmit) ∧
        (e.coins ≤ e.counted + 1 → p.rest = [] → 0 < s.reserved → ∃ t, exec (.exitPulse i) s = .next t.transmit ∧
          Tested (({ w with tubes := stopped } : State).payoutEnded p') t)) ∧
    (tube.dispenser ≠ .running → exec (.jamTimeout i) s = .next s.transmit) ∧
    (tube.dispenser = .running → ∀ p, s.payout = some p → 0 < s.reserved →
      let p' := { p with faulted := p.faulted.set i true }
      ∃ w : State, FlagsTested s { s with
          tubes := s.tubes.set i { tube with faulted := true, dispenser := .trailing }, payout := some p' } w ∧
        let plan := (w.plan l.pp.toNat).1
        (p.replanned = false → ∀ x xs, plan = x :: xs → exec (.jamTimeout i) s = .next { w with
          payout := some { p' with replanned := true, current := some x, started := !s.doorOpen, rest := xs }
          tubes := if s.doorOpen then w.tubes
            else w.tubes.set x.tube { w.tubes.get x.tube with dispenser := .running, lastValue := x.value } }.transmit) ∧
        ((p.replanned = true ∨ plan = []) →
          ∃ t, exec (.jamTimeout i) s = .next t.transmit ∧ Tested (w.payoutEnded p') t)) ∧
    (tube.dispenser = .trailing → exec (.trailingWindowEnd i) s =
      .next { s with tubes := s.tubes.set i { tube with dispenser := .off } }.transmit) ∧
    (tube.dispenser ≠ .trailing → exec (.trailingWindowEnd i) s = .next s.transmit)

/-! ## Cards and prints -/

/-- CARD SEEN, with no binding, no RELEASE owed, the purchase IDLE or OPEN, the chute not ACCEPTING and no UNCERTAIN record for the card,
binds it: HOLD owed, IDLE becomes OPEN with CREDIT issued, the CARD report issued. While a condition fails, an UNCERTAIN record without
a free report slot among them, or where the bound card is shown again, it has no effect. CARD GONE, and the CARD SEEN of another card
than the bound one, are the bound card's departure: with no write in flight the binding ends, and OPEN without credit becomes IDLE with
CREDIT issued; with a write OWED or SENT the gone mark is set (R86, R126, R128, R129, R131). The answer may carry them in any exchange
with the CARD slot. Read from the spec by inference: the order of CREDIT, CARD and CHUTE (assumption 14), and the exchange's end
(assumptions 23 and 34). -/
def Obligations.PresentationBinds : Prop :=
  ∀ (i : Fin 6) (o : Owner) (f : Frame) (s : State), Answers i o .card f s →
    let ends (d : State) : Prop := EndsWith o d (exec (.moduleAnswer f) s)
    (∀ card, s.unresolved card = true ↔ ∃ r ∈ s.retained.journal, r.card = card ∧ r.state = .uncertain) ∧
    (∀ p, f.kind = Kind.cardSeen → cardSeenOf f.payload = some p →
      (s.presentable → s.unresolved p.card = false →
        ∃ v, Tested ((s.heard i).boundTo p (decide (s.purchase = .idle))) v ∧ ends v) ∧
      (s.card.binding = none → (¬s.presentable ∨ (s.unresolved p.card = true ∧ 11 ≤ generalCount s.reports + s.reserved)) →
        ends (s.heard i)) ∧
      (∀ b, s.card.binding = some b → b.card = p.card → ends (s.heard i)) ∧
      (∀ b, s.card.binding = some b → b.card ≠ p.card → ∃ v, CardLeft (s.heard i) v ∧ ends v)) ∧
    (f.kind = Kind.cardGone → f.payload = [] → ∃ v, CardLeft (s.heard i) v ∧ ends v) ∧
    ((f.kind = Kind.cardSeen ∧ cardSeenOf f.payload = none) ∨ (f.kind = Kind.cardGone ∧ f.payload ≠ []) → ends (s.heard i))

/-- CARD SEEN of a card with an UNCERTAIN record, acted on with a report slot free, resolves the record. LANDED, where its history holds the
record's machine id and transaction number: the record is removed, H falls by its amount, and SOLD grows by it, or TOPPED by it and
BONUS by the bonus. RESTORED, where not and the presented sequence is the record's old one: the record is removed, H falls and C grows
by its amount, CREDIT is issued. Either issues RESOLVED. UNKNOWN otherwise: the record stays and no money moves. The card is then bound
as PresentationBinds says (R96, R126, R127, R129; assumptions 14, 23 and 34, as there). Without a free slot nothing happens
(PresentationBinds). -/
def Obligations.PresentationResolves : Prop :=
  ∀ (i : Fin 6) (o : Owner) (f : Frame) (s : State) (p : Presentation) (r : JournalRecord) (before after : List JournalRecord),
    Answers i o .card f s → f.kind = Kind.cardSeen → cardSeenOf f.payload = some p → s.presentable →
    s.retained.journal = before ++ r :: after → r.card = p.card → r.state = .uncertain →
    (∀ x ∈ before, x.card ≠ p.card ∨ x.state ≠ .uncertain) → (∀ x ∈ before ++ after, x.txn ≠ r.txn) →
    generalCount s.reports + s.reserved < 11 →
    let l := s.retained.ledger
    let opens := decide (s.purchase = .idle)
    let settled (m : Ledger) (x : Resolution) : State := { s.heard i with
      retained := { s.retained with journal := before ++ after, ledger := m }
      reports := s.reports ++ [.resolved ⟨r.txn, r.kind, r.card, r.amount, r.bonus, r.stamp⟩ x] }
    let binds (u : State) (credit : Bool) : Prop :=
      ∃ v, Tested (u.boundTo p credit) v ∧ EndsWith o v (exec (.moduleAnswer f) s)
    let landed : Prop := (r.machineId, r.txn) ∈ p.history
    (landed → r.kind = .topup →
      binds (settled { l with h := l.h - r.amount, topped := l.topped + r.amount, bonus := l.bonus + r.bonus } .landed) opens) ∧
    (landed → r.kind ≠ .topup → binds (settled { l with h := l.h - r.amount, sold := l.sold + r.amount } .landed) opens) ∧
    (¬landed → p.sequence = r.oldSequence →
      binds (settled { l with h := l.h - r.amount, c := l.c + r.amount } .restored) true) ∧
    (¬landed → p.sequence ≠ r.oldSequence → binds (s.heard i) opens)

/-- The ends of a SENT card write. WRITE_TIMEOUT, and a CARD WRITTEN of its transaction number with UNSURE, make the record UNCERTAIN and move K
to H; DONE settles it and FAIL voids it, with the record removed, the reports issued and the second reservation disposed of. The binding is kept,
updated by DONE, and ends where the card has gone. A result of another number, or with no write SENT, changes nothing, as does WRITE_TIMEOUT then
(R92, R93, R131, R138, R139, R140, R142). The end with cause ABSENT is NoAnswerAndReprobe's. The lines of a receipt are composed as
PrintedSaleAccepted says (assumption 44). The model's readings: WRITE_TIMEOUT without a running timer changes nothing (assumption 5), the order
outcome, CARD, CREDIT, CHUTE (assumption 14), CREDIT twice where the sale's change has an empty plan (assumption 15), that a CARD WRITTEN that
breaks its encoding has no effect (assumption 29), which ASK is owed at the start of a RECEIPT job (R164, assumption 26), and the exchange's end
(assumptions 23 and 34). -/
def Obligations.CardWriteEnds : Prop :=
  ∀ s : State,
    ((∀ w, s.card.write ≠ .sent w) → s.running = true → exec .writeTimeout s = .next s.transmit) ∧
    (∀ i owner f, Answers i owner .card f s → f.kind = Kind.cardWritten →
      ((∀ w, s.card.write ≠ .sent w) ∨ cardWrittenOf f.payload = none) →
      EndsWith owner (s.heard i) (exec (.moduleAnswer f) s)) ∧
    ∀ (o : OpRecord) (w : CardWrite), s.running = true → s.retained.op = some o → s.card.write = .sent w → 2 ≤ s.reserved →
      let l := s.retained.ledger
      let removed := s.retained.journal.filter fun r => r.txn != w.txn
      (∃ t, exec .writeTimeout s = .next t.transmit ∧ WriteUncertain o w .timeout s t) ∧
      (∀ i owner f txn r, Answers i owner .card f s → f.kind = Kind.cardWritten → cardWrittenOf f.payload = some (txn, r) →
        let ends (d : State) : Prop := EndsWith owner d (exec (.moduleAnswer f) s)
        let base : State := { s.heard i with retained := { s.retained with journal := removed } }
        let report : TopupReport := ⟨o.txn, w.card, o.amount, o.bonus, 0, 0, o.fareGeneration.getD 0, o.stamp⟩
        (txn ≠ w.txn → ends (s.heard i)) ∧
        (txn = w.txn → r = .unsure → ∃ v, WriteUncertain o w .unsure (s.heard i) v ∧ ends v) ∧
        (txn = w.txn → r = .fail → ∃ v, ends v ∧ AfterCard o true (base.opEnded { l with c := l.c + l.k, k := 0 }
          (if o.kind = .topup then .topupVoid report .writeFail else .saleVoid o.saleReport .writeFail)).writeClosed v) ∧
        (∀ n, txn = w.txn → r = .done n →
          let rewritten (f : Binding → Binding) : State := { base with
            card := { s.card with binding := s.card.binding.map fun b => { f b with sequence := n } } }
          (∀ product first last, o.kind ≠ .topup → w.content = .pass product first last → ∃ v, ends v ∧
            AfterSale o false ((rewritten fun b => { b with pass := some ⟨product, last⟩ }).opEnded
              { l with sold := l.sold + l.k, k := 0 } (.saleDone o.saleReport)).cardReported.writeClosed v) ∧
          (∀ x, o.kind = .topup → w.content = .balance x →
            let u := ((rewritten fun b => { b with balance := x }).opEnded
              { l with topped := l.topped + l.k, bonus := l.bonus + o.bonus, k := 0 }
              (.topupDone ⟨o.txn, w.card, o.amount, o.bonus, x, n, o.fareGeneration.getD 0, o.stamp⟩)).cardReported.writeClosed
            let receipt : LastReceipt := ⟨o.txn, o.amount, o.bonus, x, w.card % 10000, o.stamp, w.machineId⟩
            let kept : State := { u with retained := { u.retained with lastReceipt := some receipt } }
            (o.receipt = false → ∃ v, ends v ∧ Tested { u with reserved := u.reserved - 1 }.rested v) ∧
            (o.receipt = true → s.printPath 6 = false → ∃ v, ends v ∧
              Tested ({ kept with reports := u.reports ++ [.receipt o.txn .skipped], reserved := u.reserved - 1 } : State).rested v) ∧
            (o.receipt = true → s.printPath 6 = true → ∃ j v, ends v ∧
              JobStarted .receipt o.txn 6 receipt.values
                { kept with retained := { kept.retained with receiptMarker := some o.txn } } j ∧ Tested j.rested v))))

/-- CUT_TIMEOUT fails the job in AWAIT_CUT with cause CUT LATE: its owner is told, and a TEMPLATE activation that waited takes place.
ROOM_ASK_DELAY ends the 100 ms wait, and the print unit owes its ASK or what it owes instead, at once or when its frame on the line has
ended (R27, R92, R93, R119, R158, R164, R168, R169). The model's readings: CUT_TIMEOUT outside AWAIT_CUT and ROOM_ASK_DELAY without a
wait change nothing (assumption 5), and which ASK is owed (assumption 26). -/
def Obligations.PrintJobEnds : Prop :=
  ∀ s : State, s.running = true →
    ((∀ j, s.printer.job = some j → j.awaitCut = false) → exec .cutTimeout s = .next s.transmit) ∧
    (∀ j, s.printer.job = some j → j.awaitCut = true → s.jobReserved →
      ∃ t, exec .cutTimeout s = .next t.transmit ∧ JobEnded j (some .cutLate) s t) ∧
    (s.printer.askWait = false → exec .roomAskDelay s = .next s.transmit) ∧
    (s.printer.askWait = true → (∀ x, s.exchange = some x → x.owner.isPrint = false) →
      ∃ q, exec .roomAskDelay s = .next ({ s with printer := q } : State).transmit ∧
        PrintOwes { s.printer with askWait := false } q) ∧
    (s.printer.askWait = true → (∃ x, s.exchange = some x ∧ x.owner.isPrint = true) →
      exec .roomAskDelay s = .next ({ s with printer := { s.printer with askWait := false } } : State).transmit)

/-- The notices of a PRINT ROOM, PRINT CUT DONE or PRINT STATE, in whatever exchange with the PRINTER slot they come, are taken in the order
they stand: ROOM sets the room count, CUT DONE of the job's tag completes the job in AWAIT_CUT, STATE replaces the printer state with
its report and fails a job with PRINTER FAULT, HEAD OPEN or PAPER OUT. A frame that breaks its encoding has no effect (R119, R158, R162
to R164, R167 to R169; one whose first notice is of another kind is dropped whole, the model's choice, assumption 45). Read from the
spec by inference: which ASK a ROOM owes or withdraws (assumption 26), CREDIT twice where the change of a ticket that settles has an
empty plan (assumption 15), and the exchange's end (assumptions 23 and 34). -/
def Obligations.PrinterNoticesTaken : Prop :=
  ∀ (i : Fin 6) (o : Owner) (f : Frame) (s : State), Answers i o .printer f s → s.jobReserved →
    (f.kind = Kind.printRoom ∨ f.kind = Kind.printCutDone ∨ f.kind = Kind.printState) →
    (∀ ns, printerNotices f.kind f.payload = some ns →
      ∃ v, NoticesTaken o ns (s.heard i) v ∧ EndsWith o v (exec (.moduleAnswer f) s)) ∧
    (printerNotices f.kind f.payload = none → EndsWith o (s.heard i) (exec (.moduleAnswer f) s))

/-! ## The report queue -/

/-- A report of a fixed kind takes the place of the queued one of its kind, with the counts added and the deltas joined, and otherwise
joins the tail; the other reports keep their places (R30). -/
def Obligations.ReportsCoalesce : Prop :=
  (∀ (r : Report) (q : List Report), (∀ x ∈ q, x.kind ≠ r.kind) → putFixed r q = q ++ [r]) ∧
  ∀ (q before after : List Report),
    (∀ x r : CreditReport, q = before ++ .credit x :: after → (∀ y ∈ before, y.kind ≠ (Report.credit r).kind) →
      putFixed (.credit r) q = before ++ .credit ⟨r.credit, r.purchase, min (x.accepted + r.accepted) 65535,
        min (x.returned + r.returned) 65535, min (x.renewals + 1) 65535⟩ :: after) ∧
    (∀ x r : ChuteReport, q = before ++ .chute x :: after → (∀ y ∈ before, y.kind ≠ (Report.chute r).kind) →
      putFixed (.chute r) q = before ++ .chute r :: after) ∧
    (∀ x r : Vector TubeReport 4, q = before ++ .tubes x :: after → (∀ y ∈ before, y.kind ≠ (Report.tubes r).kind) →
      putFixed (.tubes r) q = before ++ .tubes r :: after) ∧
    (∀ x r : PrinterReport, q = before ++ .printer x :: after → (∀ y ∈ before, y.kind ≠ (Report.printer r).kind) →
      putFixed (.printer r) q = before ++ .printer ⟨r.paper, r.head, r.fault, x.paperDelta || r.paperDelta,
        x.headDelta || r.headDelta, x.faultDelta || r.faultDelta, r.presence, min (x.discards + r.discards) 65535⟩ :: after) ∧
    (∀ x r : CardReport, q = before ++ .card x :: after → (∀ y ∈ before, y.kind ≠ (Report.card r).kind) →
      putFixed (.card r) q = before ++ .card ⟨r.binding, r.presence, min (x.discards + r.discards) 65535⟩ :: after)
end

