-- ==== Sys2Proof/Laws/Tables.lean ====
section
/-! SUPPORT. The table store: layouts by position, template texts, and what earlier entries hold (R102, R159, R178). -/

namespace Sys2Proof.Machine

/-- Entry 0 is in the first segment that is not held empty. -/
theorem headerFor_at (held : List Segment) (index : Nat) (es : List (List Byte)) (i : Nat) (hi : i < 256)
    (h : ∀ j, j < i → entriesAt held index es j = some []) (hn : entriesAt held index es i ≠ some []) :
    headerFor held index es = (entriesAt held index es i).bind List.head? := by
  have : (List.range 256).find? (fun i => entriesAt held index es i != some []) = some i := by
    rw [List.find?_range_eq_some]
    exact ⟨by simpa using hn, by simpa using hi, fun j hj => by simp [h j hj]⟩
  rw [headerFor, this]; rfl

/-- A printable character (R105, R159). -/
theorem printable_iff (b : Byte) : printable b = true ↔ 0x20 ≤ b.toNat ∧ b.toNat ≤ 0x7E := by simp [printable]

/-- The printed width of a template text is that of Printed (R159). -/
theorem textWidth_iff (t : List Byte) (w : Nat) : textWidth t = some w ↔ Printed t w := by
  constructor
  · intro h
    induction t using textWidth.induct generalizing w with
    | case1 => simp [textWidth] at h; subst h; exact .nil
    | case2 code width rest hc ih =>
      rw [textWidth, if_pos hc] at h; simp at h; obtain ⟨a, ha, rfl⟩ := h
      exact .mark _ _ _ _ ⟨hc.1, hc.2.1⟩ hc.2.2 (ih a ha)
    | case3 code width rest hc => rw [textWidth, if_neg hc] at h; simp at h
    | case4 b rest hn hc ih =>
      rw [textWidth.eq_3 _ _ hn, if_pos hc] at h; simp at h; obtain ⟨a, ha, rfl⟩ := h
      exact .literal _ _ _ ((printable_iff b).1 hc.2) hc.1 (ih a ha)
    | case5 b rest hn hc => rw [textWidth.eq_3 _ _ hn, if_neg hc] at h; simp at h
  · intro h
    induction h with
    | nil => rfl
    | mark code width rest w hc hw h ih => rw [textWidth, if_pos ⟨hc.1, hc.2, hw⟩, ih]; rfl
    | literal b rest w hb hm h ih =>
      rw [textWidth.eq_3, if_pos ⟨hm, (printable_iff b).2 hb⟩, ih]; rfl
      intro c w r h1 h2; exact absurd h1 hm

/-- The layout of a held entry by its kind and position. -/
theorem layoutAt_head (k : TableKind) (es : List (List Byte)) (n : Nat) (h : n < es.length) : layoutAt k es.head? n = match k with
  | .coin => if n = 0 then .coinHeader else if n ≤ 12 then .coinEntry else .tubeEntry
  | .fare => if n = 0 then .fareHeader else if n ≤ 8 then .fareClass else if n < bandsFrom es then .product else .band
  | .hotlist => .card
  | .passage => .row
  | .template => .line := by
  cases es with
  | nil => simp at h
  | cons e es => cases k <;> rfl

/-- No entry from a place on and before another has a property. -/
theorem any_before (es : List (List Byte)) (n d : Nat) (h : n ≤ es.length) (p : List Byte → Bool) :
   (((es.take n).drop d).any p) = false ↔ ∀ m, d ≤ m → m < n → p (es.getD m []) = false := by
  rw [List.any_eq_false]
  constructor
  · intro hh m hd hm
    have := hh (es.getD m []) (by
      rw [List.mem_iff_getElem]
      refine ⟨m - d, by simp; omega, ?_⟩
      simp [List.getElem_drop, List.getElem_take, List.getD_eq_getElem?_getD, show d + (m - d) = m by omega,
        List.getElem?_eq_getElem (show m < es.length by omega)])
    simpa using this
  · intro hh x hx
    obtain ⟨i, hi, rfl⟩ := List.mem_iff_getElem.1 hx
    simp at hi
    have := hh (d + i) (by omega) (by omega)
    simp [List.getElem_drop, List.getElem_take, List.getD_eq_getElem?_getD, List.getElem?_eq_getElem (show d + i < es.length by omega)] at this ⊢
    exact this

end Sys2Proof.Machine
end

