-- ==== Sys2Proof/Laws/Print.lean ====
section
/-! SUPPORT. What template lines print: the digits of numbers, the texts fitted into fields, composed lines and their order (R159,
R160). -/

namespace Sys2Proof.Machine

/-! ## Digits -/

/-- A decimal digit as a character. -/
theorem digitByte_toNat (d : Nat) (h : d < 10) : (digitByte d).toNat = 0x30 + d := by
  rw [digitByte, BitVec.toNat_ofNat]; omega

/-- One more digit. -/
theorem spelled_append (t : List Byte) (b : Byte) : spelled (t ++ [b]) = 10 * spelled t + (b.toNat - 0x30) := by
  simp [spelled]

/-- One more digit is a digit. -/
theorem AllDigits.append {t : List Byte} (h : AllDigits t) (d : Nat) (hd : d < 10) : AllDigits (t ++ [digitByte d]) := by
  intro b hb
  rcases List.mem_append.1 hb with hb | hb
  · exact h b hb
  · rw [List.mem_singleton.1 hb, digitByte_toNat d hd]; omega

/-- The lowest digits of a number are those of R160. -/
theorem digits_fixed (n v : Nat) : FixedText n v (digits n v) := by
  induction n generalizing v with
  | zero => exact ⟨by intro b hb; simp [digits] at hb, by simp [digits, spelled, Nat.mod_one], rfl⟩
  | succ n ih =>
    obtain ⟨h1, h2, h3⟩ := ih (v / 10)
    refine ⟨h1.append _ (Nat.mod_lt _ (by decide)), ?_, by simp [digits, h3]⟩
    rw [digits, spelled_append, h2, digitByte_toNat _ (Nat.mod_lt _ (by decide))]
    have := Nat.mod_mul (a := 10) (b := 10 ^ n) (x := v)
    rw [Nat.pow_succ, Nat.mul_comm (10 ^ n) 10, this]; omega

/-- Decimal digits with room for all of a number are those of R160. -/
theorem decimal_number (n v : Nat) (h : v < n) : NumberText v (decimal n v) := by
  induction n generalizing v with
  | zero => omega
  | succ n ih =>
    unfold decimal
    split
    · next hv =>
      refine ⟨?_, ?_, by simp, by simp⟩
      · intro b hb; rw [List.mem_singleton.1 hb, digitByte_toNat v hv]; omega
      · simp [spelled, digitByte_toNat v hv]
    · next hv =>
      obtain ⟨h1, h2, h3, h4⟩ := ih (v / 10) (by omega)
      refine ⟨h1.append _ (Nat.mod_lt _ (by decide)), ?_, by simp, fun e => ?_⟩
      · rw [spelled_append, h2, digitByte_toNat _ (Nat.mod_lt _ (by decide))]; omega
      · rw [List.head?_append_of_ne_nil _ h3] at e
        rw [h4 e] at h2
        have : v / 10 = 0 := by rw [← h2]; decide
        omega

theorem numberText_number (v : Nat) : NumberText v (numberText v) := decimal_number _ _ (Nat.lt_succ_self v)

theorem moneyText_money (v : Nat) : MoneyText v (moneyText v) := ⟨_, _, rfl, numberText_number _, digits_fixed 2 _⟩

theorem dateText_date (v : Nat) : DateText v (dateText v) := digits_fixed 6 v

theorem timeText_time (v : Nat) : TimeText v (timeText v) := ⟨_, _, rfl, digits_fixed 2 _, digits_fixed 2 _⟩

/-! ## Fields -/

/-- A right-aligned text fits its field. -/
theorem rightAligned_fitted (width : Nat) (t : List Byte) : Fitted true width t (rightAligned width t) := by
  unfold rightAligned
  split
  · next h => exact ⟨fun _ => rfl, fun h' => by omega, fun _ e => by cases e⟩
  · next h => exact ⟨fun h' => absurd h' h, fun _ _ => rfl, fun _ e => by cases e⟩

/-- A left-aligned text fits its field. -/
theorem leftAligned_fitted (width : Nat) (t : List Byte) : Fitted false width t (leftAligned width t) := by
  unfold leftAligned
  split
  · next h => exact ⟨fun _ => rfl, fun _ e => (by cases e), fun h' => by omega⟩
  · next h => exact ⟨fun h' => absurd h' h, fun _ e => (by cases e), fun _ _ => rfl⟩

/-- A field is exactly as wide as its width (R159). -/
theorem Fitted.width {toRight : Bool} {width : Nat} {t out : List Byte} (h : Fitted toRight width t out) : out.length = width := by
  by_cases hw : width < t.length
  · rw [h.asterisks hw, List.length_replicate]
  · cases toRight
    · rw [h.left (by omega) rfl, List.length_append, List.length_replicate]; omega
    · rw [h.right (by omega) rfl, List.length_append, List.length_replicate]; omega

/-- A right-aligned field prints its format. -/
theorem rightField_printed {format : Nat → List Byte → Prop} {text : Nat → List Byte} (h : ∀ v, format v (text v)) (width : Nat)
    (v : Option Nat) : RightPrinted format width v (rightField text width v) := by
  cases v with
  | none => exact ⟨fun _ => rfl, fun _ e => by cases e⟩
  | some x => exact ⟨fun e => (by cases e), fun y e => by cases e; exact ⟨_, h x, rightAligned_fitted _ _⟩⟩

theorem RightPrinted.width {format : Nat → List Byte → Prop} {width : Nat} {v : Option Nat} {out : List Byte}
    (h : RightPrinted format width v out) : out.length = width := by
  cases v with
  | none => rw [h.1 rfl, List.length_replicate]
  | some x => obtain ⟨t, -, ht⟩ := h.2 x rfl; exact ht.width

/-- A name is its trimmed text and trailing spaces, and the trimmed text ends in none. -/
theorem trimmed_spec (n : List Byte) :
    (∃ k, n = trimmed n ++ List.replicate k 0x20) ∧ (trimmed n).getLast? ≠ some 0x20 := by
  constructor
  · refine ⟨(n.reverse.takeWhile (· == 0x20)).length, ?_⟩
    have h1 := List.takeWhile_append_dropWhile (p := (· == (0x20 : Byte))) (l := n.reverse)
    have h2 : n.reverse.takeWhile (· == 0x20) = List.replicate (n.reverse.takeWhile (· == 0x20)).length 0x20 := by
      rw [List.eq_replicate_iff]
      refine ⟨rfl, fun b hb => ?_⟩
      simpa using List.mem_takeWhile_imp hb
    have h3 := congrArg List.reverse h1
    rw [List.reverse_append, List.reverse_reverse, h2, List.reverse_replicate] at h3
    exact h3.symm
  · rw [trimmed, List.getLast?_reverse]
    intro e
    have := List.head?_dropWhile_not (· == (0x20 : Byte)) n.reverse
    rw [e] at this
    simp at this

/-- A field mark prints what R160 says. -/
theorem fieldText_printed (v : FieldValues) (code width : Nat) (h : 1 ≤ code ∧ code ≤ 15) :
    FieldPrinted v code width (fieldText v code width) := by
  obtain ⟨h1, h2⟩ := h
  have : code = 1 ∨ code = 2 ∨ code = 3 ∨ code = 4 ∨ code = 5 ∨ code = 6 ∨ code = 7 ∨ code = 8 ∨ code = 9 ∨ code = 10 ∨ code = 11 ∨
    code = 12 ∨ code = 13 ∨ code = 14 ∨ code = 15 := by omega
  rcases this with rfl | rfl | rfl | rfl | rfl | rfl | rfl | rfl | rfl | rfl | rfl | rfl | rfl | rfl | rfl
  · exact rightField_printed moneyText_money _ _
  · exact rightField_printed moneyText_money _ _
  · refine ⟨fun e => by simp [fieldText, e], fun n e => ?_⟩
    obtain ⟨⟨k, hk⟩, hl⟩ := trimmed_spec n
    exact ⟨_, k, hk, hl, by simpa [fieldText, e] using leftAligned_fitted width (trimmed n)⟩
  · exact rightField_printed numberText_number _ _
  · exact rightField_printed dateText_date _ _
  · exact rightField_printed dateText_date _ _
  · exact rightField_printed dateText_date _ _
  · exact rightField_printed timeText_time _ _
  · exact rightField_printed numberText_number _ _
  · exact rightField_printed numberText_number _ _
  · exact rightField_printed (digits_fixed 4) _ _
  · exact rightField_printed moneyText_money _ _
  · exact rightField_printed moneyText_money _ _
  · exact rightField_printed moneyText_money _ _
  · exact rightField_printed numberText_number _ _

/-- A printed field is exactly as wide as its mark says (R159). -/
theorem FieldPrinted.width {v : FieldValues} {code width : Nat} {out : List Byte} (h : FieldPrinted v code width out) :
    out.length = width := by
  unfold FieldPrinted at h
  split at h
  case h_3 =>
    cases e : v.productName with
    | none => rw [h.1 e, List.length_replicate]
    | some n => obtain ⟨t, k, -, -, ht⟩ := h.2 n e; exact ht.width
  case h_16 => exact h.elim
  all_goals exact h.width

/-! ## Lines -/

/-- A well-formed template text is composed as R160 says, as wide as its printed width. -/
theorem composeText_composed (v : FieldValues) (t : List Byte) (w : Nat) (h : Printed t w) :
    Composed v t (composeText v t) ∧ (composeText v t).length = w := by
  induction h with
  | nil => exact ⟨.nil, rfl⟩
  | mark code width rest w hc hw h ih =>
    have hf := fieldText_printed v code.toNat width.toNat hc
    rw [composeText]
    exact ⟨.mark _ _ _ _ _ hf ih.1, by rw [List.length_append, hf.width, ih.2]⟩
  | literal b rest w hb hm h ih =>
    rw [composeText.eq_3 _ _ _ fun _ _ _ e => absurd e hm]
    exact ⟨.literal _ _ _ hm ih.1, by rw [List.length_cons, ih.2]; omega⟩

/-- Putting a line among others loses and adds none. -/
theorem insertLine_perm (x : TemplateLine) (ys : List TemplateLine) : (insertLine x ys).Perm (x :: ys) := by
  induction ys with
  | nil => exact .refl _
  | cons y ys ih =>
    unfold insertLine; split
    · exact .refl _
    · exact (ih.cons y).trans (.swap ..)

/-- A line put among lines in ascending number leaves them so. -/
theorem insertLine_pairwise (x : TemplateLine) (ys : List TemplateLine) (h : ys.Pairwise fun a b => a.line ≤ b.line) :
    (insertLine x ys).Pairwise fun a b => a.line ≤ b.line := by
  induction ys with
  | nil => simp [insertLine]
  | cons y ys ih =>
    obtain ⟨hy, hs⟩ := List.pairwise_cons.1 h
    unfold insertLine; split
    · next hx =>
      refine List.pairwise_cons.2 ⟨fun z hz => ?_, h⟩
      rcases List.mem_cons.1 hz with rfl | hm
      · exact hx
      · have := hy z hm; omega
    · next hx =>
      refine List.pairwise_cons.2 ⟨fun z hz => ?_, ih hs⟩
      rcases List.mem_cons.1 ((insertLine_perm x ys).mem_iff.1 hz) with rfl | hm
      · omega
      · exact hy z hm

/-- The lines of a template are its entries in ascending line number (R159). -/
theorem linesOf_spec (t : Nat) (table : List TemplateLine) :
    (linesOf t table).Perm (table.filter fun l => l.template == t) ∧ (linesOf t table).Pairwise fun a b => a.line ≤ b.line := by
  unfold linesOf
  induction table.filter fun l => l.template == t with
  | nil => exact ⟨.refl _, .nil⟩
  | cons x xs ih => exact ⟨(insertLine_perm ..).trans (ih.1.cons x), insertLine_pairwise _ _ ih.2⟩

/-- A template holds a line exactly where some entry of the table names it (R109, R159). -/
theorem linesOf_isEmpty (t : Nat) (table : List TemplateLine) :
    (linesOf t table).isEmpty = false ↔ ∃ l ∈ table, l.template = t := by
  rw [← Bool.not_eq_true, List.isEmpty_iff]
  constructor
  · intro h
    obtain ⟨l, hl⟩ := List.exists_mem_of_ne_nil _ h
    have := (linesOf_spec t table).1.mem_iff.1 hl
    exact ⟨l, (List.mem_filter.1 this).1, by simpa using (List.mem_filter.1 this).2⟩
  · rintro ⟨l, hl, e⟩ h
    have : l ∈ linesOf t table := (linesOf_spec t table).1.mem_iff.2 (List.mem_filter.2 ⟨hl, by simpa using e⟩)
    rw [h] at this; cases this

/-- The composed lines of a template under the active TEMPLATE table are as LinesComposed says (R159, R160, R165). -/
theorem State.templateLines_composed (s : State) (t : Nat) (v : FieldValues) :
    LinesComposed ((s.retained.template.map Active.content).getD []) t v ((s.templateLines t).map fun l => composeText v l.text) := by
  have hl : s.templateLines t = linesOf t ((s.retained.template.map Active.content).getD []) := by
    unfold State.templateLines
    split
    · next h => rw [h]; rfl
    · next h => rw [h]; rfl
  rw [hl]
  obtain ⟨h1, h2⟩ := linesOf_spec t ((s.retained.template.map Active.content).getD [])
  refine ⟨_, h1, h2, by simp, fun n l x w e1 e2 hw => ?_⟩
  rw [List.getElem?_map, e1] at e2
  cases e2
  exact composeText_composed v l.text w hw

end Sys2Proof.Machine
end

