-- ==== Sys2Proof/Laws/Checks.lean ====
section
/-! SUPPORT. What the checks of the requests and of the coin entry ask of a state: the hotlist search, the journal, the print path, the band
in force, the product sold, the tubes, the frame vocabularies and the entry-block conditions (R10, R41, R60, R64, R108 to R110, R128). -/

namespace Sys2Proof.Machine

/-! ## Lists -/

/-- The first place of a list that passes, counted from 1. -/
theorem findIdx?_succ_iff {α : Type} (l : List α) (p : α → Bool) (n : Nat) :
    ((l.findIdx? p).map (· + 1)) = some n ↔ (1 ≤ n ∧ ∃ b, l[n - 1]? = some b ∧ p b = true) ∧
      ∀ m, m < n → ¬(1 ≤ m ∧ ∃ b, l[m - 1]? = some b ∧ p b = true) := by
  rw [Option.map_eq_some_iff]
  constructor
  · rintro ⟨i, hi, rfl⟩
    obtain ⟨h1, h2, h3⟩ := List.findIdx?_eq_some_iff_getElem.1 hi
    refine ⟨⟨by omega, l[i], by simp, h2⟩, ?_⟩
    rintro m hm ⟨h4, b, hb, hp⟩
    obtain ⟨h5, rfl⟩ := List.getElem?_eq_some_iff.1 hb
    have := h3 (m - 1) (by omega)
    simp [hp] at this
  · rintro ⟨⟨h1, b, hb, hp⟩, h2⟩
    obtain ⟨h5, rfl⟩ := List.getElem?_eq_some_iff.1 hb
    refine ⟨n - 1, List.findIdx?_eq_some_iff_getElem.2 ⟨h5, hp, fun j hj hpj => ?_⟩, by omega⟩
    exact h2 (j + 1) (by omega) ⟨by omega, l[j]'(by omega), by simp, hpj⟩

/-- No place of a list passes. -/
theorem findIdx?_succ_none {α : Type} (l : List α) (p : α → Bool) :
    ((l.findIdx? p).map (· + 1)) = none ↔ ∀ n, ¬(1 ≤ n ∧ ∃ b, l[n - 1]? = some b ∧ p b = true) := by
  rw [Option.map_eq_none_iff, List.findIdx?_eq_none_iff]
  constructor
  · rintro h n ⟨-, b, hb, hp⟩
    have := h b (List.mem_of_getElem? hb)
    simp [hp] at this
  · intro h x hx
    obtain ⟨i, hi, rfl⟩ := List.mem_iff_getElem.1 hx
    exact Bool.eq_false_iff.2 fun hp => h (i + 1) ⟨by omega, _, by simp, hp⟩

/-- The first of the numbers below n that passes. -/
theorem find?_finRange_iff {n : Nat} (p : Fin n → Bool) (i : Fin n) :
    (List.finRange n).find? p = some i ↔ p i = true ∧ ∀ j, j < i → p j = false := by
  rw [List.find?_eq_some_iff_getElem]
  constructor
  · rintro ⟨h1, k, hk, e, h2⟩
    simp at e; subst e
    refine ⟨h1, fun j hj => ?_⟩
    have := h2 j.val (by exact hj)
    simpa using this
  · rintro ⟨h1, h2⟩
    exact ⟨h1, i.val, by simp, by simp, fun j hj => by simpa using h2 ⟨j, by omega⟩ hj⟩

/-! ## The hotlist (R128) -/

/-- The binary search over places lo to hi - 1 of an ascending list finds exactly what stands there, where the fuel covers the halvings. -/
theorem searchRange_iff (cards : List Nat) (x : Nat) (hs : cards.Pairwise fun a b => a < b) (fuel lo hi : Nat) (hh : hi ≤ cards.length)
    (hf : hi - lo < 2 ^ fuel) : searchRange cards x fuel lo hi = true ↔ ∃ i, lo ≤ i ∧ i < hi ∧ cards[i]? = some x := by
  induction fuel generalizing lo hi with
  | zero => simp only [searchRange, Bool.false_eq_true, false_iff]; rintro ⟨i, h1, h2, -⟩; simp at hf; omega
  | succ n ih =>
    have up : ∀ {i j : Nat} (hi : i < cards.length) (hj : j < cards.length), i < j → cards[i] < cards[j] := fun hi hj hij =>
      List.pairwise_iff_getElem.1 hs _ _ hi hj hij
    unfold searchRange
    split
    · next h => simp only [Bool.false_eq_true, false_iff]; rintro ⟨i, h1, h2, -⟩; omega
    · next h =>
      have hm : (lo + hi) / 2 < cards.length := by omega
      rw [Nat.pow_succ] at hf
      dsimp only
      rw [List.getElem?_eq_getElem hm]
      dsimp only
      split
      · next e => simp only [true_iff]; exact ⟨(lo + hi) / 2, by omega, by omega, by rw [List.getElem?_eq_getElem hm, e]⟩
      · next e =>
        split
        · next hx =>
          rw [ih lo _ (by omega) (by omega)]
          constructor
          · rintro ⟨i, h1, h2, h3⟩; exact ⟨i, h1, by omega, h3⟩
          · rintro ⟨i, h1, h2, h3⟩
            obtain ⟨h4, rfl⟩ := List.getElem?_eq_some_iff.1 h3
            refine ⟨i, h1, Nat.lt_of_not_le fun hle => ?_, h3⟩
            rcases Nat.lt_or_eq_of_le hle with hlt | heq
            · have := up hm h4 hlt; omega
            · subst heq; omega
        · next hx =>
          rw [ih _ hi hh (by omega)]
          constructor
          · rintro ⟨i, h1, h2, h3⟩; exact ⟨i, by omega, h2, h3⟩
          · rintro ⟨i, h1, h2, h3⟩
            obtain ⟨h4, rfl⟩ := List.getElem?_eq_some_iff.1 h3
            refine ⟨i, Nat.lt_of_not_le fun hle => ?_, h2, h3⟩
            rcases Nat.lt_or_eq_of_le (show i ≤ (lo + hi) / 2 by omega) with hlt | heq
            · have := up h4 hm hlt; omega
            · subst heq; omega

/-- The search of R128 over a strictly ascending table of at most 1024 numbers is membership. -/
theorem State.hotlisted_iff (s : State) (card : Nat) (a : Active (List Nat)) (e : s.retained.hotlist = some a)
    (hs : a.content.Pairwise fun x y => x < y) (hn : a.content.length ≤ 1024) : s.hotlisted card = true ↔ card ∈ a.content := by
  unfold State.hotlisted
  rw [e]
  dsimp only
  rw [searchRange_iff a.content card hs 11 0 _ (Nat.le_refl _) (by omega), List.mem_iff_getElem?]
  constructor
  · rintro ⟨i, -, -, h⟩; exact ⟨i, h⟩
  · rintro ⟨i, h⟩; exact ⟨i, Nat.zero_le _, (List.getElem?_eq_some_iff.1 h).1, h⟩

/-- The journal takes a write for a card (R110, R134). -/
theorem State.journalTakes_iff (s : State) (card : Nat) :
    s.journalTakes card = true ↔ s.retained.journal.length < 8 ∧ ∀ r ∈ s.retained.journal, r.card ≠ card := by
  unfold State.journalTakes
  rw [Bool.and_eq_true, and_comm]
  exact and_congr decide_eq_true_iff (by simp)

/-- The journal holds an UNCERTAIN record for a card (R126). -/
theorem State.unresolved_iff (s : State) (card : Nat) :
    s.unresolved card = true ↔ ∃ r ∈ s.retained.journal, r.card = card ∧ r.state = .uncertain := by
  simp [State.unresolved]

/-! ## The print path (R109, R163) -/

/-- The slot of a role that SETUP gave, PRESENT. -/
theorem State.presentOfRole_isSome (s : State) (r : Role) : (s.presentOfRole r).isSome = true ↔
    ∃ i : Fin 6, (s.slots.get i).role = r ∧ (∀ j, j < i → (s.slots.get j).role ≠ r) ∧ (s.slots.get i).present = true := by
  unfold State.presentOfRole State.slotOfRole
  rw [Option.isSome_iff_exists]
  constructor
  · rintro ⟨i, h⟩
    rw [Option.filter_eq_some_iff] at h
    obtain ⟨h1, h2⟩ := h
    rw [find?_finRange_iff] at h1
    exact ⟨i, by simpa using h1.1, fun j hj => by simpa using h1.2 j hj, h2⟩
  · rintro ⟨i, h1, h2, h3⟩
    refine ⟨i, Option.filter_eq_some_iff.2 ⟨(find?_finRange_iff _ _).2 ⟨by simpa using h1, fun j hj => by simpa using h2 j hj⟩, h3⟩⟩

/-- A template holds a line exactly where the active TEMPLATE table has an entry of it (R109, R159). -/
theorem State.templateLines_isEmpty (s : State) (t : Nat) : (s.templateLines t).isEmpty = false ↔
    ∃ a, s.retained.template = some a ∧ ∃ l ∈ a.content, l.template = t := by
  unfold State.templateLines
  split
  · next h => simp [h]
  · next a h => rw [linesOf_isEmpty]; simp [h]

/-- What a ready print path is (R109). -/
theorem State.printPath_iff (s : State) (t : Nat) : s.printPath t = true ↔
    (∃ i : Fin 6, (s.slots.get i).role = .printer ∧ (∀ j, j < i → (s.slots.get j).role ≠ .printer) ∧ (s.slots.get i).present = true) ∧
    (s.printer.paper = .ok ∨ s.printer.paper = .low) ∧ s.printer.head = .closed ∧ s.printer.fault = .clear ∧ s.printer.job = none ∧
    ∃ a, s.retained.template = some a ∧ ∃ l ∈ a.content, l.template = t := by
  rw [← State.presentOfRole_isSome, ← State.templateLines_isEmpty]
  simp [State.printPath, Printer.ready, and_assoc]

/-! ## The clock and the fare (R39, R41, R42, R108) -/

/-- The band in force (R41). -/
theorem Clock.band_some (c : Clock) (f : FareTable) (hv : c.valid = true) (n : Nat) :
    let inForce (n : Nat) : Prop := 1 ≤ n ∧ ∃ b, f.bands[n - 1]? = some b ∧ b.dayMask.getLsbD (c.dayOfWeek - 1) = true ∧
      b.start ≤ c.second ∧ c.second < b.stop
    c.band f = some n ↔ inForce n ∧ ∀ m, m < n → ¬inForce m := by
  unfold Clock.band bandAt
  rw [if_pos hv, findIdx?_succ_iff]
  simp [and_assoc]

/-- No band in force (R41). -/
theorem Clock.band_none (c : Clock) (f : FareTable) (hv : c.valid = true) :
    c.band f = none ↔ ∀ n, ¬(1 ≤ n ∧ ∃ b, f.bands[n - 1]? = some b ∧ b.dayMask.getLsbD (c.dayOfWeek - 1) = true ∧
      b.start ≤ c.second ∧ c.second < b.stop) := by
  unfold Clock.band bandAt
  rw [if_pos hv, findIdx?_succ_none]
  simp [and_assoc]

/-- The product of a code sold on a medium (R108). -/
theorem FareTable.product?_iff (f : FareTable) (code : Nat) (m : Medium) :
    let sold (p : Product) : Prop := p.code = code ∧
      (p.medium = .both ∨ (m = .printed ∧ p.medium = .printed) ∨ (m = .card ∧ p.medium = .card))
    (∀ p, f.product? code m = some p → p ∈ f.products ∧ sold p) ∧ (f.product? code m = none ↔ ∀ p ∈ f.products, ¬sold p) := by
  intro sold
  have key : ∀ p : Product, (p.code == code &&
      match p.medium, m with
      | .both, _ | .printed, .printed | .card, .card => true
      | .printed, .card | .card, .printed => false) = true ↔ sold p := by
    intro p
    cases hp : p.medium <;> cases m <;> simp [sold, hp]
  constructor
  · intro p h
    unfold FareTable.product? at h
    have h2 := List.find?_some h
    exact ⟨List.mem_of_find?_eq_some h, (key p).1 h2⟩
  · unfold FareTable.product?
    rw [List.find?_eq_none]
    exact forall₂_congr fun p _ => not_congr (key p)

/-! ## Tubes and coin kinds (R60, R67, R69, R145) -/

/-- A tube in use is one whose entry names a kind (R69). -/
theorem State.tubeEntry_some (s : State) (i : Fin 4) (t : TubeEntry) : s.tubeEntry i = some t ↔
    ∃ a, s.retained.coin = some a ∧ a.content.tubes[i.val]? = some t ∧ t.coinKind ≠ 0 := by
  unfold State.tubeEntry State.coinTable
  cases hc : s.retained.coin with
  | none => simp
  | some a =>
    cases ht : a.content.tubes[i.val]? with
    | none => simp [ht]
    | some u =>
      by_cases h0 : u.coinKind = 0
      · simp only [Option.map_some, ht, h0, if_true, Option.some.injEq]
        constructor
        · intro e; cases e
        · rintro ⟨b, rfl, e, h⟩; rw [ht] at e; cases e; exact absurd h0 h
      · simp only [Option.map_some, ht, h0, if_false, Option.some.injEq]
        constructor
        · rintro rfl; exact ⟨a, rfl, ht, h0⟩
        · rintro ⟨b, rfl, e, h⟩; rw [ht] at e; cases e; rfl

/-- The tube that names a kind (R60). -/
theorem State.tubeNaming_some (s : State) (k : Nat) (i : Fin 4) : s.tubeNaming k = some i ↔
    (∃ t, s.tubeEntry i = some t ∧ t.coinKind = k) ∧ ∀ j, j < i → ¬∃ t, s.tubeEntry j = some t ∧ t.coinKind = k := by
  unfold State.tubeNaming
  rw [find?_finRange_iff]
  simp [Option.map_eq_some_iff, Bool.eq_false_iff]

/-- No tube names a kind (R60). -/
theorem State.tubeNaming_none (s : State) (k : Nat) :
    s.tubeNaming k = none ↔ ∀ i, ¬∃ t, s.tubeEntry i = some t ∧ t.coinKind = k := by
  unfold State.tubeNaming
  rw [List.find?_eq_none]
  simp [Option.map_eq_some_iff]

/-! ## Passage and vocabularies (R8 to R10) -/

/-- A row of the active PASSAGE table passes its members (R9, R178). -/
theorem State.passes_iff (s : State) (a : Active PassageTable) (e : s.retained.passage = some a) (row : Nat) (kind : Byte) :
    s.passes row kind = true ↔ ∃ r, a.content.rows[row]? = some r ∧ r.getLsbD kind.toNat = true := by
  unfold State.passes
  rw [e]
  dsimp only
  rw [List.getD_eq_getElem?_getD]
  cases h : a.content.rows[row]? with
  | none => simp
  | some r => simp

/-- The guarded kinds of a role (R10). -/
theorem guardedDown_iff (r : Role) (kind : Byte) : guardedDown r kind = true ↔ kind = Kind.poll ∨ kind = Kind.nil ∨
    (r = .card ∧ kind ∈ [Kind.cardHold, Kind.cardRelease, Kind.cardWriteValue, Kind.cardWritePass]) ∨
    (r = .printer ∧ kind ∈ [Kind.printLine, Kind.printCut, Kind.printAsk]) := by
  cases r <;> revert kind <;> decide

/-- The consumed kinds of a role (R10). -/
theorem consumedUp_iff (r : Role) (kind : Byte) : consumedUp r kind = true ↔
    (r = .card ∧ kind ∈ [Kind.cardSeen, Kind.cardGone, Kind.cardWritten]) ∨
    (r = .printer ∧ kind ∈ [Kind.printRoom, Kind.printCutDone, Kind.printState]) := by
  cases r <;> revert kind <;> decide

/-! ## The entry-block conditions (R64) -/

/-- The smallest enabled value is that of an enabled entry, and no enabled entry is below it. -/
theorem CoinTable.smallestValue_some (t : CoinTable) (v : Nat) : t.smallestValue = some v ↔
    ∃ x ∈ t.coins, x.enabled = true ∧ (∀ y ∈ t.coins, y.enabled = true → x.value ≤ y.value) ∧ x.value = v := by
  unfold CoinTable.smallestValue
  rw [List.min?_eq_some_iff]
  simp only [List.mem_map, List.mem_filter]
  constructor
  · rintro ⟨⟨x, ⟨h1, h2⟩, rfl⟩, h3⟩
    exact ⟨x, h1, h2, fun y hy he => h3 _ ⟨y, ⟨hy, he⟩, rfl⟩, rfl⟩
  · rintro ⟨x, h1, h2, h3, rfl⟩
    refine ⟨⟨x, ⟨h1, h2⟩, rfl⟩, ?_⟩
    rintro b ⟨y, ⟨hy, he⟩, rfl⟩
    exact h3 y hy he

/-- The condition CEILING holds (R64). -/
theorem State.ceilingRoom_iff (s : State) : s.ceilingRoom = true ↔ ∃ a f, s.retained.coin = some a ∧ s.retained.fare = some f ∧
    ∃ x ∈ a.content.coins, x.enabled = true ∧ (∀ y ∈ a.content.coins, y.enabled = true → x.value ≤ y.value) ∧
      s.retained.ledger.c.toNat + x.value ≤ f.content.header.ceiling := by
  unfold State.ceilingRoom State.coinTable State.fareTable
  cases hc : s.retained.coin with
  | none => simp
  | some a =>
    cases hf : s.retained.fare with
    | none => simp
    | some f =>
      simp only [Option.map_some, Option.some.injEq, exists_and_left, exists_eq_left']
      split
      · next v hv =>
        obtain ⟨x, h1, h2, h3, rfl⟩ := (CoinTable.smallestValue_some _ _).1 hv
        rw [decide_eq_true_eq]
        constructor
        · intro h; exact ⟨x, h1, h2, h3, h⟩
        · rintro ⟨y, h4, h5, h6, h7⟩
          have := h3 y h4 h5; omega
      · next hv =>
        simp only [Bool.false_eq_true, false_iff]
        rintro ⟨x, h1, h2, h3, -⟩
        rw [(CoinTable.smallestValue_some _ _).2 ⟨x, h1, h2, h3, rfl⟩] at hv
        cases hv

end Sys2Proof.Machine
end

