-- ==== Sys2Proof/Laws/State.lean ====
section
/-! SUPPORT. What each basic update leaves in each field of State: one lemma per field per update, true by rfl, so that no
later proof unfolds a record update. -/

namespace Sys2Proof.Machine

variable (s : State)

/-! ## onRetained -/

@[simp] theorem State.onRetained_power (f : Retained → Retained) : (s.onRetained f).power = s.power := rfl
@[simp] theorem State.onRetained_resetHeld (f : Retained → Retained) : (s.onRetained f).resetHeld = s.resetHeld := rfl
@[simp] theorem State.onRetained_retainedGood (f : Retained → Retained) : (s.onRetained f).retainedGood = s.retainedGood := rfl
@[simp] theorem State.onRetained_retained (f : Retained → Retained) : (s.onRetained f).retained = f s.retained := rfl
@[simp] theorem State.onRetained_part (f : Retained → Retained) : (s.onRetained f).part = s.part := rfl
@[simp] theorem State.onRetained_detached (f : Retained → Retained) : (s.onRetained f).detached = s.detached := rfl
@[simp] theorem State.onRetained_inhibit (f : Retained → Retained) : (s.onRetained f).inhibit = s.inhibit := rfl
@[simp] theorem State.onRetained_machineId (f : Retained → Retained) : (s.onRetained f).machineId = s.machineId := rfl
@[simp] theorem State.onRetained_silenceLimit (f : Retained → Retained) : (s.onRetained f).silenceLimit = s.silenceLimit := rfl
@[simp] theorem State.onRetained_silenceRunning (f : Retained → Retained) : (s.onRetained f).silenceRunning = s.silenceRunning := rfl
@[simp] theorem State.onRetained_cRate (f : Retained → Retained) : (s.onRetained f).cRate = s.cRate := rfl
@[simp] theorem State.onRetained_mRate (f : Retained → Retained) : (s.onRetained f).mRate = s.mRate := rfl
@[simp] theorem State.onRetained_cRx (f : Retained → Retained) : (s.onRetained f).cRx = s.cRx := rfl
@[simp] theorem State.onRetained_mRx (f : Retained → Retained) : (s.onRetained f).mRx = s.mRx := rfl
@[simp] theorem State.onRetained_replies (f : Retained → Retained) : (s.onRetained f).replies = s.replies := rfl
@[simp] theorem State.onRetained_sending (f : Retained → Retained) : (s.onRetained f).sending = s.sending := rfl
@[simp] theorem State.onRetained_stopping (f : Retained → Retained) : (s.onRetained f).stopping = s.stopping := rfl
@[simp] theorem State.onRetained_forwardQ (f : Retained → Retained) : (s.onRetained f).forwardQ = s.forwardQ := rfl
@[simp] theorem State.onRetained_upwardQ (f : Retained → Retained) : (s.onRetained f).upwardQ = s.upwardQ := rfl
@[simp] theorem State.onRetained_slots (f : Retained → Retained) : (s.onRetained f).slots = s.slots := rfl
@[simp] theorem State.onRetained_lastPolled (f : Retained → Retained) : (s.onRetained f).lastPolled = s.lastPolled := rfl
@[simp] theorem State.onRetained_exchange (f : Retained → Retained) : (s.onRetained f).exchange = s.exchange := rfl
@[simp] theorem State.onRetained_loads (f : Retained → Retained) : (s.onRetained f).loads = s.loads := rfl
@[simp] theorem State.onRetained_reports (f : Retained → Retained) : (s.onRetained f).reports = s.reports := rfl
@[simp] theorem State.onRetained_reserved (f : Retained → Retained) : (s.onRetained f).reserved = s.reserved := rfl
@[simp] theorem State.onRetained_clock (f : Retained → Retained) : (s.onRetained f).clock = s.clock := rfl
@[simp] theorem State.onRetained_chute (f : Retained → Retained) : (s.onRetained f).chute = s.chute := rfl
@[simp] theorem State.onRetained_causes (f : Retained → Retained) : (s.onRetained f).causes = s.causes := rfl
@[simp] theorem State.onRetained_doorOpen (f : Retained → Retained) : (s.onRetained f).doorOpen = s.doorOpen := rfl
@[simp] theorem State.onRetained_coils (f : Retained → Retained) : (s.onRetained f).coils = s.coils := rfl
@[simp] theorem State.onRetained_purchase (f : Retained → Retained) : (s.onRetained f).purchase = s.purchase := rfl
@[simp] theorem State.onRetained_card (f : Retained → Retained) : (s.onRetained f).card = s.card := rfl
@[simp] theorem State.onRetained_tubes (f : Retained → Retained) : (s.onRetained f).tubes = s.tubes := rfl
@[simp] theorem State.onRetained_payout (f : Retained → Retained) : (s.onRetained f).payout = s.payout := rfl
@[simp] theorem State.onRetained_printer (f : Retained → Retained) : (s.onRetained f).printer = s.printer := rfl
@[simp] theorem State.onRetained_pending (f : Retained → Retained) : (s.onRetained f).pending = s.pending := rfl

/-! ## onLedger -/

@[simp] theorem State.onLedger_power (f : Ledger → Ledger) : (s.onLedger f).power = s.power := rfl
@[simp] theorem State.onLedger_resetHeld (f : Ledger → Ledger) : (s.onLedger f).resetHeld = s.resetHeld := rfl
@[simp] theorem State.onLedger_retainedGood (f : Ledger → Ledger) : (s.onLedger f).retainedGood = s.retainedGood := rfl
@[simp] theorem State.onLedger_retained (f : Ledger → Ledger) :
    (s.onLedger f).retained = { s.retained with ledger := f s.retained.ledger } := rfl
@[simp] theorem State.onLedger_part (f : Ledger → Ledger) : (s.onLedger f).part = s.part := rfl
@[simp] theorem State.onLedger_detached (f : Ledger → Ledger) : (s.onLedger f).detached = s.detached := rfl
@[simp] theorem State.onLedger_inhibit (f : Ledger → Ledger) : (s.onLedger f).inhibit = s.inhibit := rfl
@[simp] theorem State.onLedger_machineId (f : Ledger → Ledger) : (s.onLedger f).machineId = s.machineId := rfl
@[simp] theorem State.onLedger_silenceLimit (f : Ledger → Ledger) : (s.onLedger f).silenceLimit = s.silenceLimit := rfl
@[simp] theorem State.onLedger_silenceRunning (f : Ledger → Ledger) : (s.onLedger f).silenceRunning = s.silenceRunning := rfl
@[simp] theorem State.onLedger_cRate (f : Ledger → Ledger) : (s.onLedger f).cRate = s.cRate := rfl
@[simp] theorem State.onLedger_mRate (f : Ledger → Ledger) : (s.onLedger f).mRate = s.mRate := rfl
@[simp] theorem State.onLedger_cRx (f : Ledger → Ledger) : (s.onLedger f).cRx = s.cRx := rfl
@[simp] theorem State.onLedger_mRx (f : Ledger → Ledger) : (s.onLedger f).mRx = s.mRx := rfl
@[simp] theorem State.onLedger_replies (f : Ledger → Ledger) : (s.onLedger f).replies = s.replies := rfl
@[simp] theorem State.onLedger_sending (f : Ledger → Ledger) : (s.onLedger f).sending = s.sending := rfl
@[simp] theorem State.onLedger_stopping (f : Ledger → Ledger) : (s.onLedger f).stopping = s.stopping := rfl
@[simp] theorem State.onLedger_forwardQ (f : Ledger → Ledger) : (s.onLedger f).forwardQ = s.forwardQ := rfl
@[simp] theorem State.onLedger_upwardQ (f : Ledger → Ledger) : (s.onLedger f).upwardQ = s.upwardQ := rfl
@[simp] theorem State.onLedger_slots (f : Ledger → Ledger) : (s.onLedger f).slots = s.slots := rfl
@[simp] theorem State.onLedger_lastPolled (f : Ledger → Ledger) : (s.onLedger f).lastPolled = s.lastPolled := rfl
@[simp] theorem State.onLedger_exchange (f : Ledger → Ledger) : (s.onLedger f).exchange = s.exchange := rfl
@[simp] theorem State.onLedger_loads (f : Ledger → Ledger) : (s.onLedger f).loads = s.loads := rfl
@[simp] theorem State.onLedger_reports (f : Ledger → Ledger) : (s.onLedger f).reports = s.reports := rfl
@[simp] theorem State.onLedger_reserved (f : Ledger → Ledger) : (s.onLedger f).reserved = s.reserved := rfl
@[simp] theorem State.onLedger_clock (f : Ledger → Ledger) : (s.onLedger f).clock = s.clock := rfl
@[simp] theorem State.onLedger_chute (f : Ledger → Ledger) : (s.onLedger f).chute = s.chute := rfl
@[simp] theorem State.onLedger_causes (f : Ledger → Ledger) : (s.onLedger f).causes = s.causes := rfl
@[simp] theorem State.onLedger_doorOpen (f : Ledger → Ledger) : (s.onLedger f).doorOpen = s.doorOpen := rfl
@[simp] theorem State.onLedger_coils (f : Ledger → Ledger) : (s.onLedger f).coils = s.coils := rfl
@[simp] theorem State.onLedger_purchase (f : Ledger → Ledger) : (s.onLedger f).purchase = s.purchase := rfl
@[simp] theorem State.onLedger_card (f : Ledger → Ledger) : (s.onLedger f).card = s.card := rfl
@[simp] theorem State.onLedger_tubes (f : Ledger → Ledger) : (s.onLedger f).tubes = s.tubes := rfl
@[simp] theorem State.onLedger_payout (f : Ledger → Ledger) : (s.onLedger f).payout = s.payout := rfl
@[simp] theorem State.onLedger_printer (f : Ledger → Ledger) : (s.onLedger f).printer = s.printer := rfl
@[simp] theorem State.onLedger_pending (f : Ledger → Ledger) : (s.onLedger f).pending = s.pending := rfl

/-! ## onChute -/

@[simp] theorem State.onChute_power (f : Chute → Chute) : (s.onChute f).power = s.power := rfl
@[simp] theorem State.onChute_resetHeld (f : Chute → Chute) : (s.onChute f).resetHeld = s.resetHeld := rfl
@[simp] theorem State.onChute_retainedGood (f : Chute → Chute) : (s.onChute f).retainedGood = s.retainedGood := rfl
@[simp] theorem State.onChute_retained (f : Chute → Chute) : (s.onChute f).retained = s.retained := rfl
@[simp] theorem State.onChute_part (f : Chute → Chute) : (s.onChute f).part = s.part := rfl
@[simp] theorem State.onChute_detached (f : Chute → Chute) : (s.onChute f).detached = s.detached := rfl
@[simp] theorem State.onChute_inhibit (f : Chute → Chute) : (s.onChute f).inhibit = s.inhibit := rfl
@[simp] theorem State.onChute_machineId (f : Chute → Chute) : (s.onChute f).machineId = s.machineId := rfl
@[simp] theorem State.onChute_silenceLimit (f : Chute → Chute) : (s.onChute f).silenceLimit = s.silenceLimit := rfl
@[simp] theorem State.onChute_silenceRunning (f : Chute → Chute) : (s.onChute f).silenceRunning = s.silenceRunning := rfl
@[simp] theorem State.onChute_cRate (f : Chute → Chute) : (s.onChute f).cRate = s.cRate := rfl
@[simp] theorem State.onChute_mRate (f : Chute → Chute) : (s.onChute f).mRate = s.mRate := rfl
@[simp] theorem State.onChute_cRx (f : Chute → Chute) : (s.onChute f).cRx = s.cRx := rfl
@[simp] theorem State.onChute_mRx (f : Chute → Chute) : (s.onChute f).mRx = s.mRx := rfl
@[simp] theorem State.onChute_replies (f : Chute → Chute) : (s.onChute f).replies = s.replies := rfl
@[simp] theorem State.onChute_sending (f : Chute → Chute) : (s.onChute f).sending = s.sending := rfl
@[simp] theorem State.onChute_stopping (f : Chute → Chute) : (s.onChute f).stopping = s.stopping := rfl
@[simp] theorem State.onChute_forwardQ (f : Chute → Chute) : (s.onChute f).forwardQ = s.forwardQ := rfl
@[simp] theorem State.onChute_upwardQ (f : Chute → Chute) : (s.onChute f).upwardQ = s.upwardQ := rfl
@[simp] theorem State.onChute_slots (f : Chute → Chute) : (s.onChute f).slots = s.slots := rfl
@[simp] theorem State.onChute_lastPolled (f : Chute → Chute) : (s.onChute f).lastPolled = s.lastPolled := rfl
@[simp] theorem State.onChute_exchange (f : Chute → Chute) : (s.onChute f).exchange = s.exchange := rfl
@[simp] theorem State.onChute_loads (f : Chute → Chute) : (s.onChute f).loads = s.loads := rfl
@[simp] theorem State.onChute_reports (f : Chute → Chute) : (s.onChute f).reports = s.reports := rfl
@[simp] theorem State.onChute_reserved (f : Chute → Chute) : (s.onChute f).reserved = s.reserved := rfl
@[simp] theorem State.onChute_clock (f : Chute → Chute) : (s.onChute f).clock = s.clock := rfl
@[simp] theorem State.onChute_chute (f : Chute → Chute) : (s.onChute f).chute = f s.chute := rfl
@[simp] theorem State.onChute_causes (f : Chute → Chute) : (s.onChute f).causes = s.causes := rfl
@[simp] theorem State.onChute_doorOpen (f : Chute → Chute) : (s.onChute f).doorOpen = s.doorOpen := rfl
@[simp] theorem State.onChute_coils (f : Chute → Chute) : (s.onChute f).coils = s.coils := rfl
@[simp] theorem State.onChute_purchase (f : Chute → Chute) : (s.onChute f).purchase = s.purchase := rfl
@[simp] theorem State.onChute_card (f : Chute → Chute) : (s.onChute f).card = s.card := rfl
@[simp] theorem State.onChute_tubes (f : Chute → Chute) : (s.onChute f).tubes = s.tubes := rfl
@[simp] theorem State.onChute_payout (f : Chute → Chute) : (s.onChute f).payout = s.payout := rfl
@[simp] theorem State.onChute_printer (f : Chute → Chute) : (s.onChute f).printer = s.printer := rfl
@[simp] theorem State.onChute_pending (f : Chute → Chute) : (s.onChute f).pending = s.pending := rfl

/-! ## onCoils -/

@[simp] theorem State.onCoils_power (f : CoilDriver → CoilDriver) : (s.onCoils f).power = s.power := rfl
@[simp] theorem State.onCoils_resetHeld (f : CoilDriver → CoilDriver) : (s.onCoils f).resetHeld = s.resetHeld := rfl
@[simp] theorem State.onCoils_retainedGood (f : CoilDriver → CoilDriver) : (s.onCoils f).retainedGood = s.retainedGood := rfl
@[simp] theorem State.onCoils_retained (f : CoilDriver → CoilDriver) : (s.onCoils f).retained = s.retained := rfl
@[simp] theorem State.onCoils_part (f : CoilDriver → CoilDriver) : (s.onCoils f).part = s.part := rfl
@[simp] theorem State.onCoils_detached (f : CoilDriver → CoilDriver) : (s.onCoils f).detached = s.detached := rfl
@[simp] theorem State.onCoils_inhibit (f : CoilDriver → CoilDriver) : (s.onCoils f).inhibit = s.inhibit := rfl
@[simp] theorem State.onCoils_machineId (f : CoilDriver → CoilDriver) : (s.onCoils f).machineId = s.machineId := rfl
@[simp] theorem State.onCoils_silenceLimit (f : CoilDriver → CoilDriver) : (s.onCoils f).silenceLimit = s.silenceLimit := rfl
@[simp] theorem State.onCoils_silenceRunning (f : CoilDriver → CoilDriver) : (s.onCoils f).silenceRunning = s.silenceRunning := rfl
@[simp] theorem State.onCoils_cRate (f : CoilDriver → CoilDriver) : (s.onCoils f).cRate = s.cRate := rfl
@[simp] theorem State.onCoils_mRate (f : CoilDriver → CoilDriver) : (s.onCoils f).mRate = s.mRate := rfl
@[simp] theorem State.onCoils_cRx (f : CoilDriver → CoilDriver) : (s.onCoils f).cRx = s.cRx := rfl
@[simp] theorem State.onCoils_mRx (f : CoilDriver → CoilDriver) : (s.onCoils f).mRx = s.mRx := rfl
@[simp] theorem State.onCoils_replies (f : CoilDriver → CoilDriver) : (s.onCoils f).replies = s.replies := rfl
@[simp] theorem State.onCoils_sending (f : CoilDriver → CoilDriver) : (s.onCoils f).sending = s.sending := rfl
@[simp] theorem State.onCoils_stopping (f : CoilDriver → CoilDriver) : (s.onCoils f).stopping = s.stopping := rfl
@[simp] theorem State.onCoils_forwardQ (f : CoilDriver → CoilDriver) : (s.onCoils f).forwardQ = s.forwardQ := rfl
@[simp] theorem State.onCoils_upwardQ (f : CoilDriver → CoilDriver) : (s.onCoils f).upwardQ = s.upwardQ := rfl
@[simp] theorem State.onCoils_slots (f : CoilDriver → CoilDriver) : (s.onCoils f).slots = s.slots := rfl
@[simp] theorem State.onCoils_lastPolled (f : CoilDriver → CoilDriver) : (s.onCoils f).lastPolled = s.lastPolled := rfl
@[simp] theorem State.onCoils_exchange (f : CoilDriver → CoilDriver) : (s.onCoils f).exchange = s.exchange := rfl
@[simp] theorem State.onCoils_loads (f : CoilDriver → CoilDriver) : (s.onCoils f).loads = s.loads := rfl
@[simp] theorem State.onCoils_reports (f : CoilDriver → CoilDriver) : (s.onCoils f).reports = s.reports := rfl
@[simp] theorem State.onCoils_reserved (f : CoilDriver → CoilDriver) : (s.onCoils f).reserved = s.reserved := rfl
@[simp] theorem State.onCoils_clock (f : CoilDriver → CoilDriver) : (s.onCoils f).clock = s.clock := rfl
@[simp] theorem State.onCoils_chute (f : CoilDriver → CoilDriver) : (s.onCoils f).chute = s.chute := rfl
@[simp] theorem State.onCoils_causes (f : CoilDriver → CoilDriver) : (s.onCoils f).causes = s.causes := rfl
@[simp] theorem State.onCoils_doorOpen (f : CoilDriver → CoilDriver) : (s.onCoils f).doorOpen = s.doorOpen := rfl
@[simp] theorem State.onCoils_coils (f : CoilDriver → CoilDriver) : (s.onCoils f).coils = f s.coils := rfl
@[simp] theorem State.onCoils_purchase (f : CoilDriver → CoilDriver) : (s.onCoils f).purchase = s.purchase := rfl
@[simp] theorem State.onCoils_card (f : CoilDriver → CoilDriver) : (s.onCoils f).card = s.card := rfl
@[simp] theorem State.onCoils_tubes (f : CoilDriver → CoilDriver) : (s.onCoils f).tubes = s.tubes := rfl
@[simp] theorem State.onCoils_payout (f : CoilDriver → CoilDriver) : (s.onCoils f).payout = s.payout := rfl
@[simp] theorem State.onCoils_printer (f : CoilDriver → CoilDriver) : (s.onCoils f).printer = s.printer := rfl
@[simp] theorem State.onCoils_pending (f : CoilDriver → CoilDriver) : (s.onCoils f).pending = s.pending := rfl

/-! ## onCard -/

@[simp] theorem State.onCard_power (f : CardUnit → CardUnit) : (s.onCard f).power = s.power := rfl
@[simp] theorem State.onCard_resetHeld (f : CardUnit → CardUnit) : (s.onCard f).resetHeld = s.resetHeld := rfl
@[simp] theorem State.onCard_retainedGood (f : CardUnit → CardUnit) : (s.onCard f).retainedGood = s.retainedGood := rfl
@[simp] theorem State.onCard_retained (f : CardUnit → CardUnit) : (s.onCard f).retained = s.retained := rfl
@[simp] theorem State.onCard_part (f : CardUnit → CardUnit) : (s.onCard f).part = s.part := rfl
@[simp] theorem State.onCard_detached (f : CardUnit → CardUnit) : (s.onCard f).detached = s.detached := rfl
@[simp] theorem State.onCard_inhibit (f : CardUnit → CardUnit) : (s.onCard f).inhibit = s.inhibit := rfl
@[simp] theorem State.onCard_machineId (f : CardUnit → CardUnit) : (s.onCard f).machineId = s.machineId := rfl
@[simp] theorem State.onCard_silenceLimit (f : CardUnit → CardUnit) : (s.onCard f).silenceLimit = s.silenceLimit := rfl
@[simp] theorem State.onCard_silenceRunning (f : CardUnit → CardUnit) : (s.onCard f).silenceRunning = s.silenceRunning := rfl
@[simp] theorem State.onCard_cRate (f : CardUnit → CardUnit) : (s.onCard f).cRate = s.cRate := rfl
@[simp] theorem State.onCard_mRate (f : CardUnit → CardUnit) : (s.onCard f).mRate = s.mRate := rfl
@[simp] theorem State.onCard_cRx (f : CardUnit → CardUnit) : (s.onCard f).cRx = s.cRx := rfl
@[simp] theorem State.onCard_mRx (f : CardUnit → CardUnit) : (s.onCard f).mRx = s.mRx := rfl
@[simp] theorem State.onCard_replies (f : CardUnit → CardUnit) : (s.onCard f).replies = s.replies := rfl
@[simp] theorem State.onCard_sending (f : CardUnit → CardUnit) : (s.onCard f).sending = s.sending := rfl
@[simp] theorem State.onCard_stopping (f : CardUnit → CardUnit) : (s.onCard f).stopping = s.stopping := rfl
@[simp] theorem State.onCard_forwardQ (f : CardUnit → CardUnit) : (s.onCard f).forwardQ = s.forwardQ := rfl
@[simp] theorem State.onCard_upwardQ (f : CardUnit → CardUnit) : (s.onCard f).upwardQ = s.upwardQ := rfl
@[simp] theorem State.onCard_slots (f : CardUnit → CardUnit) : (s.onCard f).slots = s.slots := rfl
@[simp] theorem State.onCard_lastPolled (f : CardUnit → CardUnit) : (s.onCard f).lastPolled = s.lastPolled := rfl
@[simp] theorem State.onCard_exchange (f : CardUnit → CardUnit) : (s.onCard f).exchange = s.exchange := rfl
@[simp] theorem State.onCard_loads (f : CardUnit → CardUnit) : (s.onCard f).loads = s.loads := rfl
@[simp] theorem State.onCard_reports (f : CardUnit → CardUnit) : (s.onCard f).reports = s.reports := rfl
@[simp] theorem State.onCard_reserved (f : CardUnit → CardUnit) : (s.onCard f).reserved = s.reserved := rfl
@[simp] theorem State.onCard_clock (f : CardUnit → CardUnit) : (s.onCard f).clock = s.clock := rfl
@[simp] theorem State.onCard_chute (f : CardUnit → CardUnit) : (s.onCard f).chute = s.chute := rfl
@[simp] theorem State.onCard_causes (f : CardUnit → CardUnit) : (s.onCard f).causes = s.causes := rfl
@[simp] theorem State.onCard_doorOpen (f : CardUnit → CardUnit) : (s.onCard f).doorOpen = s.doorOpen := rfl
@[simp] theorem State.onCard_coils (f : CardUnit → CardUnit) : (s.onCard f).coils = s.coils := rfl
@[simp] theorem State.onCard_purchase (f : CardUnit → CardUnit) : (s.onCard f).purchase = s.purchase := rfl
@[simp] theorem State.onCard_card (f : CardUnit → CardUnit) : (s.onCard f).card = f s.card := rfl
@[simp] theorem State.onCard_tubes (f : CardUnit → CardUnit) : (s.onCard f).tubes = s.tubes := rfl
@[simp] theorem State.onCard_payout (f : CardUnit → CardUnit) : (s.onCard f).payout = s.payout := rfl
@[simp] theorem State.onCard_printer (f : CardUnit → CardUnit) : (s.onCard f).printer = s.printer := rfl
@[simp] theorem State.onCard_pending (f : CardUnit → CardUnit) : (s.onCard f).pending = s.pending := rfl

/-! ## onPrinter -/

@[simp] theorem State.onPrinter_power (f : Printer → Printer) : (s.onPrinter f).power = s.power := rfl
@[simp] theorem State.onPrinter_resetHeld (f : Printer → Printer) : (s.onPrinter f).resetHeld = s.resetHeld := rfl
@[simp] theorem State.onPrinter_retainedGood (f : Printer → Printer) : (s.onPrinter f).retainedGood = s.retainedGood := rfl
@[simp] theorem State.onPrinter_retained (f : Printer → Printer) : (s.onPrinter f).retained = s.retained := rfl
@[simp] theorem State.onPrinter_part (f : Printer → Printer) : (s.onPrinter f).part = s.part := rfl
@[simp] theorem State.onPrinter_detached (f : Printer → Printer) : (s.onPrinter f).detached = s.detached := rfl
@[simp] theorem State.onPrinter_inhibit (f : Printer → Printer) : (s.onPrinter f).inhibit = s.inhibit := rfl
@[simp] theorem State.onPrinter_machineId (f : Printer → Printer) : (s.onPrinter f).machineId = s.machineId := rfl
@[simp] theorem State.onPrinter_silenceLimit (f : Printer → Printer) : (s.onPrinter f).silenceLimit = s.silenceLimit := rfl
@[simp] theorem State.onPrinter_silenceRunning (f : Printer → Printer) : (s.onPrinter f).silenceRunning = s.silenceRunning := rfl
@[simp] theorem State.onPrinter_cRate (f : Printer → Printer) : (s.onPrinter f).cRate = s.cRate := rfl
@[simp] theorem State.onPrinter_mRate (f : Printer → Printer) : (s.onPrinter f).mRate = s.mRate := rfl
@[simp] theorem State.onPrinter_cRx (f : Printer → Printer) : (s.onPrinter f).cRx = s.cRx := rfl
@[simp] theorem State.onPrinter_mRx (f : Printer → Printer) : (s.onPrinter f).mRx = s.mRx := rfl
@[simp] theorem State.onPrinter_replies (f : Printer → Printer) : (s.onPrinter f).replies = s.replies := rfl
@[simp] theorem State.onPrinter_sending (f : Printer → Printer) : (s.onPrinter f).sending = s.sending := rfl
@[simp] theorem State.onPrinter_stopping (f : Printer → Printer) : (s.onPrinter f).stopping = s.stopping := rfl
@[simp] theorem State.onPrinter_forwardQ (f : Printer → Printer) : (s.onPrinter f).forwardQ = s.forwardQ := rfl
@[simp] theorem State.onPrinter_upwardQ (f : Printer → Printer) : (s.onPrinter f).upwardQ = s.upwardQ := rfl
@[simp] theorem State.onPrinter_slots (f : Printer → Printer) : (s.onPrinter f).slots = s.slots := rfl
@[simp] theorem State.onPrinter_lastPolled (f : Printer → Printer) : (s.onPrinter f).lastPolled = s.lastPolled := rfl
@[simp] theorem State.onPrinter_exchange (f : Printer → Printer) : (s.onPrinter f).exchange = s.exchange := rfl
@[simp] theorem State.onPrinter_loads (f : Printer → Printer) : (s.onPrinter f).loads = s.loads := rfl
@[simp] theorem State.onPrinter_reports (f : Printer → Printer) : (s.onPrinter f).reports = s.reports := rfl
@[simp] theorem State.onPrinter_reserved (f : Printer → Printer) : (s.onPrinter f).reserved = s.reserved := rfl
@[simp] theorem State.onPrinter_clock (f : Printer → Printer) : (s.onPrinter f).clock = s.clock := rfl
@[simp] theorem State.onPrinter_chute (f : Printer → Printer) : (s.onPrinter f).chute = s.chute := rfl
@[simp] theorem State.onPrinter_causes (f : Printer → Printer) : (s.onPrinter f).causes = s.causes := rfl
@[simp] theorem State.onPrinter_doorOpen (f : Printer → Printer) : (s.onPrinter f).doorOpen = s.doorOpen := rfl
@[simp] theorem State.onPrinter_coils (f : Printer → Printer) : (s.onPrinter f).coils = s.coils := rfl
@[simp] theorem State.onPrinter_purchase (f : Printer → Printer) : (s.onPrinter f).purchase = s.purchase := rfl
@[simp] theorem State.onPrinter_card (f : Printer → Printer) : (s.onPrinter f).card = s.card := rfl
@[simp] theorem State.onPrinter_tubes (f : Printer → Printer) : (s.onPrinter f).tubes = s.tubes := rfl
@[simp] theorem State.onPrinter_payout (f : Printer → Printer) : (s.onPrinter f).payout = s.payout := rfl
@[simp] theorem State.onPrinter_printer (f : Printer → Printer) : (s.onPrinter f).printer = f s.printer := rfl
@[simp] theorem State.onPrinter_pending (f : Printer → Printer) : (s.onPrinter f).pending = s.pending := rfl

/-! ## onTube -/

@[simp] theorem State.onTube_power (i : Fin 4) (f : Tube → Tube) : (s.onTube i f).power = s.power := rfl
@[simp] theorem State.onTube_resetHeld (i : Fin 4) (f : Tube → Tube) : (s.onTube i f).resetHeld = s.resetHeld := rfl
@[simp] theorem State.onTube_retainedGood (i : Fin 4) (f : Tube → Tube) : (s.onTube i f).retainedGood = s.retainedGood := rfl
@[simp] theorem State.onTube_retained (i : Fin 4) (f : Tube → Tube) : (s.onTube i f).retained = s.retained := rfl
@[simp] theorem State.onTube_part (i : Fin 4) (f : Tube → Tube) : (s.onTube i f).part = s.part := rfl
@[simp] theorem State.onTube_detached (i : Fin 4) (f : Tube → Tube) : (s.onTube i f).detached = s.detached := rfl
@[simp] theorem State.onTube_inhibit (i : Fin 4) (f : Tube → Tube) : (s.onTube i f).inhibit = s.inhibit := rfl
@[simp] theorem State.onTube_machineId (i : Fin 4) (f : Tube → Tube) : (s.onTube i f).machineId = s.machineId := rfl
@[simp] theorem State.onTube_silenceLimit (i : Fin 4) (f : Tube → Tube) : (s.onTube i f).silenceLimit = s.silenceLimit := rfl
@[simp] theorem State.onTube_silenceRunning (i : Fin 4) (f : Tube → Tube) : (s.onTube i f).silenceRunning = s.silenceRunning := rfl
@[simp] theorem State.onTube_cRate (i : Fin 4) (f : Tube → Tube) : (s.onTube i f).cRate = s.cRate := rfl
@[simp] theorem State.onTube_mRate (i : Fin 4) (f : Tube → Tube) : (s.onTube i f).mRate = s.mRate := rfl
@[simp] theorem State.onTube_cRx (i : Fin 4) (f : Tube → Tube) : (s.onTube i f).cRx = s.cRx := rfl
@[simp] theorem State.onTube_mRx (i : Fin 4) (f : Tube → Tube) : (s.onTube i f).mRx = s.mRx := rfl
@[simp] theorem State.onTube_replies (i : Fin 4) (f : Tube → Tube) : (s.onTube i f).replies = s.replies := rfl
@[simp] theorem State.onTube_sending (i : Fin 4) (f : Tube → Tube) : (s.onTube i f).sending = s.sending := rfl
@[simp] theorem State.onTube_stopping (i : Fin 4) (f : Tube → Tube) : (s.onTube i f).stopping = s.stopping := rfl
@[simp] theorem State.onTube_forwardQ (i : Fin 4) (f : Tube → Tube) : (s.onTube i f).forwardQ = s.forwardQ := rfl
@[simp] theorem State.onTube_upwardQ (i : Fin 4) (f : Tube → Tube) : (s.onTube i f).upwardQ = s.upwardQ := rfl
@[simp] theorem State.onTube_slots (i : Fin 4) (f : Tube → Tube) : (s.onTube i f).slots = s.slots := rfl
@[simp] theorem State.onTube_lastPolled (i : Fin 4) (f : Tube → Tube) : (s.onTube i f).lastPolled = s.lastPolled := rfl
@[simp] theorem State.onTube_exchange (i : Fin 4) (f : Tube → Tube) : (s.onTube i f).exchange = s.exchange := rfl
@[simp] theorem State.onTube_loads (i : Fin 4) (f : Tube → Tube) : (s.onTube i f).loads = s.loads := rfl
@[simp] theorem State.onTube_reports (i : Fin 4) (f : Tube → Tube) : (s.onTube i f).reports = s.reports := rfl
@[simp] theorem State.onTube_reserved (i : Fin 4) (f : Tube → Tube) : (s.onTube i f).reserved = s.reserved := rfl
@[simp] theorem State.onTube_clock (i : Fin 4) (f : Tube → Tube) : (s.onTube i f).clock = s.clock := rfl
@[simp] theorem State.onTube_chute (i : Fin 4) (f : Tube → Tube) : (s.onTube i f).chute = s.chute := rfl
@[simp] theorem State.onTube_causes (i : Fin 4) (f : Tube → Tube) : (s.onTube i f).causes = s.causes := rfl
@[simp] theorem State.onTube_doorOpen (i : Fin 4) (f : Tube → Tube) : (s.onTube i f).doorOpen = s.doorOpen := rfl
@[simp] theorem State.onTube_coils (i : Fin 4) (f : Tube → Tube) : (s.onTube i f).coils = s.coils := rfl
@[simp] theorem State.onTube_purchase (i : Fin 4) (f : Tube → Tube) : (s.onTube i f).purchase = s.purchase := rfl
@[simp] theorem State.onTube_card (i : Fin 4) (f : Tube → Tube) : (s.onTube i f).card = s.card := rfl
@[simp] theorem State.onTube_tubes (i : Fin 4) (f : Tube → Tube) :
    (s.onTube i f).tubes = s.tubes.set i (f (s.tubes.get i)) := rfl
@[simp] theorem State.onTube_payout (i : Fin 4) (f : Tube → Tube) : (s.onTube i f).payout = s.payout := rfl
@[simp] theorem State.onTube_printer (i : Fin 4) (f : Tube → Tube) : (s.onTube i f).printer = s.printer := rfl
@[simp] theorem State.onTube_pending (i : Fin 4) (f : Tube → Tube) : (s.onTube i f).pending = s.pending := rfl

/-! ## setTubeCount -/

@[simp] theorem State.setTubeCount_power (i : Fin 4) (n : Nat) : (s.setTubeCount i n).power = s.power := rfl
@[simp] theorem State.setTubeCount_resetHeld (i : Fin 4) (n : Nat) : (s.setTubeCount i n).resetHeld = s.resetHeld := rfl
@[simp] theorem State.setTubeCount_retainedGood (i : Fin 4) (n : Nat) : (s.setTubeCount i n).retainedGood = s.retainedGood := rfl
@[simp] theorem State.setTubeCount_retained (i : Fin 4) (n : Nat) :
    (s.setTubeCount i n).retained = { s.retained with tubeCounts := s.retained.tubeCounts.set i n } := rfl
@[simp] theorem State.setTubeCount_part (i : Fin 4) (n : Nat) : (s.setTubeCount i n).part = s.part := rfl
@[simp] theorem State.setTubeCount_detached (i : Fin 4) (n : Nat) : (s.setTubeCount i n).detached = s.detached := rfl
@[simp] theorem State.setTubeCount_inhibit (i : Fin 4) (n : Nat) : (s.setTubeCount i n).inhibit = s.inhibit := rfl
@[simp] theorem State.setTubeCount_machineId (i : Fin 4) (n : Nat) : (s.setTubeCount i n).machineId = s.machineId := rfl
@[simp] theorem State.setTubeCount_silenceLimit (i : Fin 4) (n : Nat) : (s.setTubeCount i n).silenceLimit = s.silenceLimit := rfl
@[simp] theorem State.setTubeCount_silenceRunning (i : Fin 4) (n : Nat) : (s.setTubeCount i n).silenceRunning = s.silenceRunning := rfl
@[simp] theorem State.setTubeCount_cRate (i : Fin 4) (n : Nat) : (s.setTubeCount i n).cRate = s.cRate := rfl
@[simp] theorem State.setTubeCount_mRate (i : Fin 4) (n : Nat) : (s.setTubeCount i n).mRate = s.mRate := rfl
@[simp] theorem State.setTubeCount_cRx (i : Fin 4) (n : Nat) : (s.setTubeCount i n).cRx = s.cRx := rfl
@[simp] theorem State.setTubeCount_mRx (i : Fin 4) (n : Nat) : (s.setTubeCount i n).mRx = s.mRx := rfl
@[simp] theorem State.setTubeCount_replies (i : Fin 4) (n : Nat) : (s.setTubeCount i n).replies = s.replies := rfl
@[simp] theorem State.setTubeCount_sending (i : Fin 4) (n : Nat) : (s.setTubeCount i n).sending = s.sending := rfl
@[simp] theorem State.setTubeCount_stopping (i : Fin 4) (n : Nat) : (s.setTubeCount i n).stopping = s.stopping := rfl
@[simp] theorem State.setTubeCount_forwardQ (i : Fin 4) (n : Nat) : (s.setTubeCount i n).forwardQ = s.forwardQ := rfl
@[simp] theorem State.setTubeCount_upwardQ (i : Fin 4) (n : Nat) : (s.setTubeCount i n).upwardQ = s.upwardQ := rfl
@[simp] theorem State.setTubeCount_slots (i : Fin 4) (n : Nat) : (s.setTubeCount i n).slots = s.slots := rfl
@[simp] theorem State.setTubeCount_lastPolled (i : Fin 4) (n : Nat) : (s.setTubeCount i n).lastPolled = s.lastPolled := rfl
@[simp] theorem State.setTubeCount_exchange (i : Fin 4) (n : Nat) : (s.setTubeCount i n).exchange = s.exchange := rfl
@[simp] theorem State.setTubeCount_loads (i : Fin 4) (n : Nat) : (s.setTubeCount i n).loads = s.loads := rfl
@[simp] theorem State.setTubeCount_reports (i : Fin 4) (n : Nat) : (s.setTubeCount i n).reports = s.reports := rfl
@[simp] theorem State.setTubeCount_reserved (i : Fin 4) (n : Nat) : (s.setTubeCount i n).reserved = s.reserved := rfl
@[simp] theorem State.setTubeCount_clock (i : Fin 4) (n : Nat) : (s.setTubeCount i n).clock = s.clock := rfl
@[simp] theorem State.setTubeCount_chute (i : Fin 4) (n : Nat) : (s.setTubeCount i n).chute = s.chute := rfl
@[simp] theorem State.setTubeCount_causes (i : Fin 4) (n : Nat) : (s.setTubeCount i n).causes = s.causes := rfl
@[simp] theorem State.setTubeCount_doorOpen (i : Fin 4) (n : Nat) : (s.setTubeCount i n).doorOpen = s.doorOpen := rfl
@[simp] theorem State.setTubeCount_coils (i : Fin 4) (n : Nat) : (s.setTubeCount i n).coils = s.coils := rfl
@[simp] theorem State.setTubeCount_purchase (i : Fin 4) (n : Nat) : (s.setTubeCount i n).purchase = s.purchase := rfl
@[simp] theorem State.setTubeCount_card (i : Fin 4) (n : Nat) : (s.setTubeCount i n).card = s.card := rfl
@[simp] theorem State.setTubeCount_tubes (i : Fin 4) (n : Nat) : (s.setTubeCount i n).tubes = s.tubes := rfl
@[simp] theorem State.setTubeCount_payout (i : Fin 4) (n : Nat) : (s.setTubeCount i n).payout = s.payout := rfl
@[simp] theorem State.setTubeCount_printer (i : Fin 4) (n : Nat) : (s.setTubeCount i n).printer = s.printer := rfl
@[simp] theorem State.setTubeCount_pending (i : Fin 4) (n : Nat) : (s.setTubeCount i n).pending = s.pending := rfl

/-! ## setLoad -/

@[simp] theorem State.setLoad_power (k : TableKind) (l : Load) : (s.setLoad k l).power = s.power := rfl
@[simp] theorem State.setLoad_resetHeld (k : TableKind) (l : Load) : (s.setLoad k l).resetHeld = s.resetHeld := rfl
@[simp] theorem State.setLoad_retainedGood (k : TableKind) (l : Load) : (s.setLoad k l).retainedGood = s.retainedGood := rfl
@[simp] theorem State.setLoad_retained (k : TableKind) (l : Load) : (s.setLoad k l).retained = s.retained := rfl
@[simp] theorem State.setLoad_part (k : TableKind) (l : Load) : (s.setLoad k l).part = s.part := rfl
@[simp] theorem State.setLoad_detached (k : TableKind) (l : Load) : (s.setLoad k l).detached = s.detached := rfl
@[simp] theorem State.setLoad_inhibit (k : TableKind) (l : Load) : (s.setLoad k l).inhibit = s.inhibit := rfl
@[simp] theorem State.setLoad_machineId (k : TableKind) (l : Load) : (s.setLoad k l).machineId = s.machineId := rfl
@[simp] theorem State.setLoad_silenceLimit (k : TableKind) (l : Load) : (s.setLoad k l).silenceLimit = s.silenceLimit := rfl
@[simp] theorem State.setLoad_silenceRunning (k : TableKind) (l : Load) : (s.setLoad k l).silenceRunning = s.silenceRunning := rfl
@[simp] theorem State.setLoad_cRate (k : TableKind) (l : Load) : (s.setLoad k l).cRate = s.cRate := rfl
@[simp] theorem State.setLoad_mRate (k : TableKind) (l : Load) : (s.setLoad k l).mRate = s.mRate := rfl
@[simp] theorem State.setLoad_cRx (k : TableKind) (l : Load) : (s.setLoad k l).cRx = s.cRx := rfl
@[simp] theorem State.setLoad_mRx (k : TableKind) (l : Load) : (s.setLoad k l).mRx = s.mRx := rfl
@[simp] theorem State.setLoad_replies (k : TableKind) (l : Load) : (s.setLoad k l).replies = s.replies := rfl
@[simp] theorem State.setLoad_sending (k : TableKind) (l : Load) : (s.setLoad k l).sending = s.sending := rfl
@[simp] theorem State.setLoad_stopping (k : TableKind) (l : Load) : (s.setLoad k l).stopping = s.stopping := rfl
@[simp] theorem State.setLoad_forwardQ (k : TableKind) (l : Load) : (s.setLoad k l).forwardQ = s.forwardQ := rfl
@[simp] theorem State.setLoad_upwardQ (k : TableKind) (l : Load) : (s.setLoad k l).upwardQ = s.upwardQ := rfl
@[simp] theorem State.setLoad_slots (k : TableKind) (l : Load) : (s.setLoad k l).slots = s.slots := rfl
@[simp] theorem State.setLoad_lastPolled (k : TableKind) (l : Load) : (s.setLoad k l).lastPolled = s.lastPolled := rfl
@[simp] theorem State.setLoad_exchange (k : TableKind) (l : Load) : (s.setLoad k l).exchange = s.exchange := rfl
@[simp] theorem State.setLoad_loads (k : TableKind) (l : Load) : (s.setLoad k l).loads = s.loads.set l k := rfl
@[simp] theorem State.setLoad_reports (k : TableKind) (l : Load) : (s.setLoad k l).reports = s.reports := rfl
@[simp] theorem State.setLoad_reserved (k : TableKind) (l : Load) : (s.setLoad k l).reserved = s.reserved := rfl
@[simp] theorem State.setLoad_clock (k : TableKind) (l : Load) : (s.setLoad k l).clock = s.clock := rfl
@[simp] theorem State.setLoad_chute (k : TableKind) (l : Load) : (s.setLoad k l).chute = s.chute := rfl
@[simp] theorem State.setLoad_causes (k : TableKind) (l : Load) : (s.setLoad k l).causes = s.causes := rfl
@[simp] theorem State.setLoad_doorOpen (k : TableKind) (l : Load) : (s.setLoad k l).doorOpen = s.doorOpen := rfl
@[simp] theorem State.setLoad_coils (k : TableKind) (l : Load) : (s.setLoad k l).coils = s.coils := rfl
@[simp] theorem State.setLoad_purchase (k : TableKind) (l : Load) : (s.setLoad k l).purchase = s.purchase := rfl
@[simp] theorem State.setLoad_card (k : TableKind) (l : Load) : (s.setLoad k l).card = s.card := rfl
@[simp] theorem State.setLoad_tubes (k : TableKind) (l : Load) : (s.setLoad k l).tubes = s.tubes := rfl
@[simp] theorem State.setLoad_payout (k : TableKind) (l : Load) : (s.setLoad k l).payout = s.payout := rfl
@[simp] theorem State.setLoad_printer (k : TableKind) (l : Load) : (s.setLoad k l).printer = s.printer := rfl
@[simp] theorem State.setLoad_pending (k : TableKind) (l : Load) : (s.setLoad k l).pending = s.pending := rfl

/-! ## reply -/

@[simp] theorem State.reply_power (k : Byte) (b : ReplyBody) : (s.reply k b).power = s.power := rfl
@[simp] theorem State.reply_resetHeld (k : Byte) (b : ReplyBody) : (s.reply k b).resetHeld = s.resetHeld := rfl
@[simp] theorem State.reply_retainedGood (k : Byte) (b : ReplyBody) : (s.reply k b).retainedGood = s.retainedGood := rfl
@[simp] theorem State.reply_retained (k : Byte) (b : ReplyBody) : (s.reply k b).retained = s.retained := rfl
@[simp] theorem State.reply_part (k : Byte) (b : ReplyBody) : (s.reply k b).part = s.part := rfl
@[simp] theorem State.reply_detached (k : Byte) (b : ReplyBody) : (s.reply k b).detached = s.detached := rfl
@[simp] theorem State.reply_inhibit (k : Byte) (b : ReplyBody) : (s.reply k b).inhibit = s.inhibit := rfl
@[simp] theorem State.reply_machineId (k : Byte) (b : ReplyBody) : (s.reply k b).machineId = s.machineId := rfl
@[simp] theorem State.reply_silenceLimit (k : Byte) (b : ReplyBody) : (s.reply k b).silenceLimit = s.silenceLimit := rfl
@[simp] theorem State.reply_silenceRunning (k : Byte) (b : ReplyBody) : (s.reply k b).silenceRunning = s.silenceRunning := rfl
@[simp] theorem State.reply_cRate (k : Byte) (b : ReplyBody) : (s.reply k b).cRate = s.cRate := rfl
@[simp] theorem State.reply_mRate (k : Byte) (b : ReplyBody) : (s.reply k b).mRate = s.mRate := rfl
@[simp] theorem State.reply_cRx (k : Byte) (b : ReplyBody) : (s.reply k b).cRx = s.cRx := rfl
@[simp] theorem State.reply_mRx (k : Byte) (b : ReplyBody) : (s.reply k b).mRx = s.mRx := rfl
@[simp] theorem State.reply_replies (k : Byte) (b : ReplyBody) : (s.reply k b).replies = s.replies ++ [⟨k, b, none⟩] := rfl
@[simp] theorem State.reply_sending (k : Byte) (b : ReplyBody) : (s.reply k b).sending = s.sending := rfl
@[simp] theorem State.reply_stopping (k : Byte) (b : ReplyBody) : (s.reply k b).stopping = s.stopping := rfl
@[simp] theorem State.reply_forwardQ (k : Byte) (b : ReplyBody) : (s.reply k b).forwardQ = s.forwardQ := rfl
@[simp] theorem State.reply_upwardQ (k : Byte) (b : ReplyBody) : (s.reply k b).upwardQ = s.upwardQ := rfl
@[simp] theorem State.reply_slots (k : Byte) (b : ReplyBody) : (s.reply k b).slots = s.slots := rfl
@[simp] theorem State.reply_lastPolled (k : Byte) (b : ReplyBody) : (s.reply k b).lastPolled = s.lastPolled := rfl
@[simp] theorem State.reply_exchange (k : Byte) (b : ReplyBody) : (s.reply k b).exchange = s.exchange := rfl
@[simp] theorem State.reply_loads (k : Byte) (b : ReplyBody) : (s.reply k b).loads = s.loads := rfl
@[simp] theorem State.reply_reports (k : Byte) (b : ReplyBody) : (s.reply k b).reports = s.reports := rfl
@[simp] theorem State.reply_reserved (k : Byte) (b : ReplyBody) : (s.reply k b).reserved = s.reserved := rfl
@[simp] theorem State.reply_clock (k : Byte) (b : ReplyBody) : (s.reply k b).clock = s.clock := rfl
@[simp] theorem State.reply_chute (k : Byte) (b : ReplyBody) : (s.reply k b).chute = s.chute := rfl
@[simp] theorem State.reply_causes (k : Byte) (b : ReplyBody) : (s.reply k b).causes = s.causes := rfl
@[simp] theorem State.reply_doorOpen (k : Byte) (b : ReplyBody) : (s.reply k b).doorOpen = s.doorOpen := rfl
@[simp] theorem State.reply_coils (k : Byte) (b : ReplyBody) : (s.reply k b).coils = s.coils := rfl
@[simp] theorem State.reply_purchase (k : Byte) (b : ReplyBody) : (s.reply k b).purchase = s.purchase := rfl
@[simp] theorem State.reply_card (k : Byte) (b : ReplyBody) : (s.reply k b).card = s.card := rfl
@[simp] theorem State.reply_tubes (k : Byte) (b : ReplyBody) : (s.reply k b).tubes = s.tubes := rfl
@[simp] theorem State.reply_payout (k : Byte) (b : ReplyBody) : (s.reply k b).payout = s.payout := rfl
@[simp] theorem State.reply_printer (k : Byte) (b : ReplyBody) : (s.reply k b).printer = s.printer := rfl
@[simp] theorem State.reply_pending (k : Byte) (b : ReplyBody) : (s.reply k b).pending = s.pending := rfl

/-! ## refuse -/

@[simp] theorem State.refuse_power (k : Byte) (r : Reason) : (s.refuse k r).power = s.power := rfl
@[simp] theorem State.refuse_resetHeld (k : Byte) (r : Reason) : (s.refuse k r).resetHeld = s.resetHeld := rfl
@[simp] theorem State.refuse_retainedGood (k : Byte) (r : Reason) : (s.refuse k r).retainedGood = s.retainedGood := rfl
@[simp] theorem State.refuse_retained (k : Byte) (r : Reason) : (s.refuse k r).retained = s.retained := rfl
@[simp] theorem State.refuse_part (k : Byte) (r : Reason) : (s.refuse k r).part = s.part := rfl
@[simp] theorem State.refuse_detached (k : Byte) (r : Reason) : (s.refuse k r).detached = s.detached := rfl
@[simp] theorem State.refuse_inhibit (k : Byte) (r : Reason) : (s.refuse k r).inhibit = s.inhibit := rfl
@[simp] theorem State.refuse_machineId (k : Byte) (r : Reason) : (s.refuse k r).machineId = s.machineId := rfl
@[simp] theorem State.refuse_silenceLimit (k : Byte) (r : Reason) : (s.refuse k r).silenceLimit = s.silenceLimit := rfl
@[simp] theorem State.refuse_silenceRunning (k : Byte) (r : Reason) : (s.refuse k r).silenceRunning = s.silenceRunning := rfl
@[simp] theorem State.refuse_cRate (k : Byte) (r : Reason) : (s.refuse k r).cRate = s.cRate := rfl
@[simp] theorem State.refuse_mRate (k : Byte) (r : Reason) : (s.refuse k r).mRate = s.mRate := rfl
@[simp] theorem State.refuse_cRx (k : Byte) (r : Reason) : (s.refuse k r).cRx = s.cRx := rfl
@[simp] theorem State.refuse_mRx (k : Byte) (r : Reason) : (s.refuse k r).mRx = s.mRx := rfl
@[simp] theorem State.refuse_replies (k : Byte) (r : Reason) : (s.refuse k r).replies = s.replies ++ [⟨k, .refused r, none⟩] := rfl
@[simp] theorem State.refuse_sending (k : Byte) (r : Reason) : (s.refuse k r).sending = s.sending := rfl
@[simp] theorem State.refuse_stopping (k : Byte) (r : Reason) : (s.refuse k r).stopping = s.stopping := rfl
@[simp] theorem State.refuse_forwardQ (k : Byte) (r : Reason) : (s.refuse k r).forwardQ = s.forwardQ := rfl
@[simp] theorem State.refuse_upwardQ (k : Byte) (r : Reason) : (s.refuse k r).upwardQ = s.upwardQ := rfl
@[simp] theorem State.refuse_slots (k : Byte) (r : Reason) : (s.refuse k r).slots = s.slots := rfl
@[simp] theorem State.refuse_lastPolled (k : Byte) (r : Reason) : (s.refuse k r).lastPolled = s.lastPolled := rfl
@[simp] theorem State.refuse_exchange (k : Byte) (r : Reason) : (s.refuse k r).exchange = s.exchange := rfl
@[simp] theorem State.refuse_loads (k : Byte) (r : Reason) : (s.refuse k r).loads = s.loads := rfl
@[simp] theorem State.refuse_reports (k : Byte) (r : Reason) : (s.refuse k r).reports = s.reports := rfl
@[simp] theorem State.refuse_reserved (k : Byte) (r : Reason) : (s.refuse k r).reserved = s.reserved := rfl
@[simp] theorem State.refuse_clock (k : Byte) (r : Reason) : (s.refuse k r).clock = s.clock := rfl
@[simp] theorem State.refuse_chute (k : Byte) (r : Reason) : (s.refuse k r).chute = s.chute := rfl
@[simp] theorem State.refuse_causes (k : Byte) (r : Reason) : (s.refuse k r).causes = s.causes := rfl
@[simp] theorem State.refuse_doorOpen (k : Byte) (r : Reason) : (s.refuse k r).doorOpen = s.doorOpen := rfl
@[simp] theorem State.refuse_coils (k : Byte) (r : Reason) : (s.refuse k r).coils = s.coils := rfl
@[simp] theorem State.refuse_purchase (k : Byte) (r : Reason) : (s.refuse k r).purchase = s.purchase := rfl
@[simp] theorem State.refuse_card (k : Byte) (r : Reason) : (s.refuse k r).card = s.card := rfl
@[simp] theorem State.refuse_tubes (k : Byte) (r : Reason) : (s.refuse k r).tubes = s.tubes := rfl
@[simp] theorem State.refuse_payout (k : Byte) (r : Reason) : (s.refuse k r).payout = s.payout := rfl
@[simp] theorem State.refuse_printer (k : Byte) (r : Reason) : (s.refuse k r).printer = s.printer := rfl
@[simp] theorem State.refuse_pending (k : Byte) (r : Reason) : (s.refuse k r).pending = s.pending := rfl

/-! ## replyThenStart -/

@[simp] theorem State.replyThenStart_power (k : Byte) (b : ReplyBody) (c : StartCause) : (s.replyThenStart k b c).power = s.power := rfl
@[simp] theorem State.replyThenStart_resetHeld (k : Byte) (b : ReplyBody) (c : StartCause) : (s.replyThenStart k b c).resetHeld = s.resetHeld := rfl
@[simp] theorem State.replyThenStart_retainedGood (k : Byte) (b : ReplyBody) (c : StartCause) : (s.replyThenStart k b c).retainedGood = s.retainedGood := rfl
@[simp] theorem State.replyThenStart_retained (k : Byte) (b : ReplyBody) (c : StartCause) : (s.replyThenStart k b c).retained = s.retained := rfl
@[simp] theorem State.replyThenStart_part (k : Byte) (b : ReplyBody) (c : StartCause) : (s.replyThenStart k b c).part = s.part := rfl
@[simp] theorem State.replyThenStart_detached (k : Byte) (b : ReplyBody) (c : StartCause) : (s.replyThenStart k b c).detached = s.detached := rfl
@[simp] theorem State.replyThenStart_inhibit (k : Byte) (b : ReplyBody) (c : StartCause) : (s.replyThenStart k b c).inhibit = s.inhibit := rfl
@[simp] theorem State.replyThenStart_machineId (k : Byte) (b : ReplyBody) (c : StartCause) : (s.replyThenStart k b c).machineId = s.machineId := rfl
@[simp] theorem State.replyThenStart_silenceLimit (k : Byte) (b : ReplyBody) (c : StartCause) : (s.replyThenStart k b c).silenceLimit = s.silenceLimit := rfl
@[simp] theorem State.replyThenStart_silenceRunning (k : Byte) (b : ReplyBody) (c : StartCause) : (s.replyThenStart k b c).silenceRunning = s.silenceRunning := rfl
@[simp] theorem State.replyThenStart_cRate (k : Byte) (b : ReplyBody) (c : StartCause) : (s.replyThenStart k b c).cRate = s.cRate := rfl
@[simp] theorem State.replyThenStart_mRate (k : Byte) (b : ReplyBody) (c : StartCause) : (s.replyThenStart k b c).mRate = s.mRate := rfl
@[simp] theorem State.replyThenStart_cRx (k : Byte) (b : ReplyBody) (c : StartCause) : (s.replyThenStart k b c).cRx = s.cRx := rfl
@[simp] theorem State.replyThenStart_mRx (k : Byte) (b : ReplyBody) (c : StartCause) : (s.replyThenStart k b c).mRx = s.mRx := rfl
@[simp] theorem State.replyThenStart_replies (k : Byte) (b : ReplyBody) (c : StartCause) :
    (s.replyThenStart k b c).replies = s.replies ++ [⟨k, b, some c⟩] := rfl
@[simp] theorem State.replyThenStart_sending (k : Byte) (b : ReplyBody) (c : StartCause) : (s.replyThenStart k b c).sending = s.sending := rfl
@[simp] theorem State.replyThenStart_stopping (k : Byte) (b : ReplyBody) (c : StartCause) : (s.replyThenStart k b c).stopping = true := rfl
@[simp] theorem State.replyThenStart_forwardQ (k : Byte) (b : ReplyBody) (c : StartCause) : (s.replyThenStart k b c).forwardQ = s.forwardQ := rfl
@[simp] theorem State.replyThenStart_upwardQ (k : Byte) (b : ReplyBody) (c : StartCause) : (s.replyThenStart k b c).upwardQ = s.upwardQ := rfl
@[simp] theorem State.replyThenStart_slots (k : Byte) (b : ReplyBody) (c : StartCause) : (s.replyThenStart k b c).slots = s.slots := rfl
@[simp] theorem State.replyThenStart_lastPolled (k : Byte) (b : ReplyBody) (c : StartCause) : (s.replyThenStart k b c).lastPolled = s.lastPolled := rfl
@[simp] theorem State.replyThenStart_exchange (k : Byte) (b : ReplyBody) (c : StartCause) : (s.replyThenStart k b c).exchange = s.exchange := rfl
@[simp] theorem State.replyThenStart_loads (k : Byte) (b : ReplyBody) (c : StartCause) : (s.replyThenStart k b c).loads = s.loads := rfl
@[simp] theorem State.replyThenStart_reports (k : Byte) (b : ReplyBody) (c : StartCause) : (s.replyThenStart k b c).reports = s.reports := rfl
@[simp] theorem State.replyThenStart_reserved (k : Byte) (b : ReplyBody) (c : StartCause) : (s.replyThenStart k b c).reserved = s.reserved := rfl
@[simp] theorem State.replyThenStart_clock (k : Byte) (b : ReplyBody) (c : StartCause) : (s.replyThenStart k b c).clock = s.clock := rfl
@[simp] theorem State.replyThenStart_chute (k : Byte) (b : ReplyBody) (c : StartCause) : (s.replyThenStart k b c).chute = s.chute := rfl
@[simp] theorem State.replyThenStart_causes (k : Byte) (b : ReplyBody) (c : StartCause) : (s.replyThenStart k b c).causes = s.causes := rfl
@[simp] theorem State.replyThenStart_doorOpen (k : Byte) (b : ReplyBody) (c : StartCause) : (s.replyThenStart k b c).doorOpen = s.doorOpen := rfl
@[simp] theorem State.replyThenStart_coils (k : Byte) (b : ReplyBody) (c : StartCause) : (s.replyThenStart k b c).coils = s.coils := rfl
@[simp] theorem State.replyThenStart_purchase (k : Byte) (b : ReplyBody) (c : StartCause) : (s.replyThenStart k b c).purchase = s.purchase := rfl
@[simp] theorem State.replyThenStart_card (k : Byte) (b : ReplyBody) (c : StartCause) : (s.replyThenStart k b c).card = s.card := rfl
@[simp] theorem State.replyThenStart_tubes (k : Byte) (b : ReplyBody) (c : StartCause) : (s.replyThenStart k b c).tubes = s.tubes := rfl
@[simp] theorem State.replyThenStart_payout (k : Byte) (b : ReplyBody) (c : StartCause) : (s.replyThenStart k b c).payout = s.payout := rfl
@[simp] theorem State.replyThenStart_printer (k : Byte) (b : ReplyBody) (c : StartCause) : (s.replyThenStart k b c).printer = s.printer := rfl
@[simp] theorem State.replyThenStart_pending (k : Byte) (b : ReplyBody) (c : StartCause) : (s.replyThenStart k b c).pending = s.pending := rfl

/-! ## refuseLoad -/

@[simp] theorem State.refuseLoad_power (k : TableKind) (r : Reason) : (s.refuseLoad k r).power = s.power := rfl
@[simp] theorem State.refuseLoad_resetHeld (k : TableKind) (r : Reason) : (s.refuseLoad k r).resetHeld = s.resetHeld := rfl
@[simp] theorem State.refuseLoad_retainedGood (k : TableKind) (r : Reason) : (s.refuseLoad k r).retainedGood = s.retainedGood := rfl
@[simp] theorem State.refuseLoad_retained (k : TableKind) (r : Reason) : (s.refuseLoad k r).retained = s.retained := rfl
@[simp] theorem State.refuseLoad_part (k : TableKind) (r : Reason) : (s.refuseLoad k r).part = s.part := rfl
@[simp] theorem State.refuseLoad_detached (k : TableKind) (r : Reason) : (s.refuseLoad k r).detached = s.detached := rfl
@[simp] theorem State.refuseLoad_inhibit (k : TableKind) (r : Reason) : (s.refuseLoad k r).inhibit = s.inhibit := rfl
@[simp] theorem State.refuseLoad_machineId (k : TableKind) (r : Reason) : (s.refuseLoad k r).machineId = s.machineId := rfl
@[simp] theorem State.refuseLoad_silenceLimit (k : TableKind) (r : Reason) : (s.refuseLoad k r).silenceLimit = s.silenceLimit := rfl
@[simp] theorem State.refuseLoad_silenceRunning (k : TableKind) (r : Reason) : (s.refuseLoad k r).silenceRunning = s.silenceRunning := rfl
@[simp] theorem State.refuseLoad_cRate (k : TableKind) (r : Reason) : (s.refuseLoad k r).cRate = s.cRate := rfl
@[simp] theorem State.refuseLoad_mRate (k : TableKind) (r : Reason) : (s.refuseLoad k r).mRate = s.mRate := rfl
@[simp] theorem State.refuseLoad_cRx (k : TableKind) (r : Reason) : (s.refuseLoad k r).cRx = s.cRx := rfl
@[simp] theorem State.refuseLoad_mRx (k : TableKind) (r : Reason) : (s.refuseLoad k r).mRx = s.mRx := rfl
@[simp] theorem State.refuseLoad_replies (k : TableKind) (r : Reason) :
    (s.refuseLoad k r).replies = s.replies ++ [⟨Kind.load, .refusedLoad r (s.loads.get k).view, none⟩] := rfl
@[simp] theorem State.refuseLoad_sending (k : TableKind) (r : Reason) : (s.refuseLoad k r).sending = s.sending := rfl
@[simp] theorem State.refuseLoad_stopping (k : TableKind) (r : Reason) : (s.refuseLoad k r).stopping = s.stopping := rfl
@[simp] theorem State.refuseLoad_forwardQ (k : TableKind) (r : Reason) : (s.refuseLoad k r).forwardQ = s.forwardQ := rfl
@[simp] theorem State.refuseLoad_upwardQ (k : TableKind) (r : Reason) : (s.refuseLoad k r).upwardQ = s.upwardQ := rfl
@[simp] theorem State.refuseLoad_slots (k : TableKind) (r : Reason) : (s.refuseLoad k r).slots = s.slots := rfl
@[simp] theorem State.refuseLoad_lastPolled (k : TableKind) (r : Reason) : (s.refuseLoad k r).lastPolled = s.lastPolled := rfl
@[simp] theorem State.refuseLoad_exchange (k : TableKind) (r : Reason) : (s.refuseLoad k r).exchange = s.exchange := rfl
@[simp] theorem State.refuseLoad_loads (k : TableKind) (r : Reason) : (s.refuseLoad k r).loads = s.loads := rfl
@[simp] theorem State.refuseLoad_reports (k : TableKind) (r : Reason) : (s.refuseLoad k r).reports = s.reports := rfl
@[simp] theorem State.refuseLoad_reserved (k : TableKind) (r : Reason) : (s.refuseLoad k r).reserved = s.reserved := rfl
@[simp] theorem State.refuseLoad_clock (k : TableKind) (r : Reason) : (s.refuseLoad k r).clock = s.clock := rfl
@[simp] theorem State.refuseLoad_chute (k : TableKind) (r : Reason) : (s.refuseLoad k r).chute = s.chute := rfl
@[simp] theorem State.refuseLoad_causes (k : TableKind) (r : Reason) : (s.refuseLoad k r).causes = s.causes := rfl
@[simp] theorem State.refuseLoad_doorOpen (k : TableKind) (r : Reason) : (s.refuseLoad k r).doorOpen = s.doorOpen := rfl
@[simp] theorem State.refuseLoad_coils (k : TableKind) (r : Reason) : (s.refuseLoad k r).coils = s.coils := rfl
@[simp] theorem State.refuseLoad_purchase (k : TableKind) (r : Reason) : (s.refuseLoad k r).purchase = s.purchase := rfl
@[simp] theorem State.refuseLoad_card (k : TableKind) (r : Reason) : (s.refuseLoad k r).card = s.card := rfl
@[simp] theorem State.refuseLoad_tubes (k : TableKind) (r : Reason) : (s.refuseLoad k r).tubes = s.tubes := rfl
@[simp] theorem State.refuseLoad_payout (k : TableKind) (r : Reason) : (s.refuseLoad k r).payout = s.payout := rfl
@[simp] theorem State.refuseLoad_printer (k : TableKind) (r : Reason) : (s.refuseLoad k r).printer = s.printer := rfl
@[simp] theorem State.refuseLoad_pending (k : TableKind) (r : Reason) : (s.refuseLoad k r).pending = s.pending := rfl

/-! ## issueFixed -/

@[simp] theorem State.issueFixed_power (r : Report) : (s.issueFixed r).power = s.power := rfl
@[simp] theorem State.issueFixed_resetHeld (r : Report) : (s.issueFixed r).resetHeld = s.resetHeld := rfl
@[simp] theorem State.issueFixed_retainedGood (r : Report) : (s.issueFixed r).retainedGood = s.retainedGood := rfl
@[simp] theorem State.issueFixed_retained (r : Report) : (s.issueFixed r).retained = s.retained := rfl
@[simp] theorem State.issueFixed_part (r : Report) : (s.issueFixed r).part = s.part := rfl
@[simp] theorem State.issueFixed_detached (r : Report) : (s.issueFixed r).detached = s.detached := rfl
@[simp] theorem State.issueFixed_inhibit (r : Report) : (s.issueFixed r).inhibit = s.inhibit := rfl
@[simp] theorem State.issueFixed_machineId (r : Report) : (s.issueFixed r).machineId = s.machineId := rfl
@[simp] theorem State.issueFixed_silenceLimit (r : Report) : (s.issueFixed r).silenceLimit = s.silenceLimit := rfl
@[simp] theorem State.issueFixed_silenceRunning (r : Report) : (s.issueFixed r).silenceRunning = s.silenceRunning := rfl
@[simp] theorem State.issueFixed_cRate (r : Report) : (s.issueFixed r).cRate = s.cRate := rfl
@[simp] theorem State.issueFixed_mRate (r : Report) : (s.issueFixed r).mRate = s.mRate := rfl
@[simp] theorem State.issueFixed_cRx (r : Report) : (s.issueFixed r).cRx = s.cRx := rfl
@[simp] theorem State.issueFixed_mRx (r : Report) : (s.issueFixed r).mRx = s.mRx := rfl
@[simp] theorem State.issueFixed_replies (r : Report) : (s.issueFixed r).replies = s.replies := rfl
@[simp] theorem State.issueFixed_sending (r : Report) : (s.issueFixed r).sending = s.sending := rfl
@[simp] theorem State.issueFixed_stopping (r : Report) : (s.issueFixed r).stopping = s.stopping := rfl
@[simp] theorem State.issueFixed_forwardQ (r : Report) : (s.issueFixed r).forwardQ = s.forwardQ := rfl
@[simp] theorem State.issueFixed_upwardQ (r : Report) : (s.issueFixed r).upwardQ = s.upwardQ := rfl
@[simp] theorem State.issueFixed_slots (r : Report) : (s.issueFixed r).slots = s.slots := rfl
@[simp] theorem State.issueFixed_lastPolled (r : Report) : (s.issueFixed r).lastPolled = s.lastPolled := rfl
@[simp] theorem State.issueFixed_exchange (r : Report) : (s.issueFixed r).exchange = s.exchange := rfl
@[simp] theorem State.issueFixed_loads (r : Report) : (s.issueFixed r).loads = s.loads := rfl
@[simp] theorem State.issueFixed_reports (r : Report) : (s.issueFixed r).reports = putFixed r s.reports := rfl
@[simp] theorem State.issueFixed_reserved (r : Report) : (s.issueFixed r).reserved = s.reserved := rfl
@[simp] theorem State.issueFixed_clock (r : Report) : (s.issueFixed r).clock = s.clock := rfl
@[simp] theorem State.issueFixed_chute (r : Report) : (s.issueFixed r).chute = s.chute := rfl
@[simp] theorem State.issueFixed_causes (r : Report) : (s.issueFixed r).causes = s.causes := rfl
@[simp] theorem State.issueFixed_doorOpen (r : Report) : (s.issueFixed r).doorOpen = s.doorOpen := rfl
@[simp] theorem State.issueFixed_coils (r : Report) : (s.issueFixed r).coils = s.coils := rfl
@[simp] theorem State.issueFixed_purchase (r : Report) : (s.issueFixed r).purchase = s.purchase := rfl
@[simp] theorem State.issueFixed_card (r : Report) : (s.issueFixed r).card = s.card := rfl
@[simp] theorem State.issueFixed_tubes (r : Report) : (s.issueFixed r).tubes = s.tubes := rfl
@[simp] theorem State.issueFixed_payout (r : Report) : (s.issueFixed r).payout = s.payout := rfl
@[simp] theorem State.issueFixed_printer (r : Report) : (s.issueFixed r).printer = s.printer := rfl
@[simp] theorem State.issueFixed_pending (r : Report) : (s.issueFixed r).pending = s.pending := rfl

/-! ## reserve -/

@[simp] theorem State.reserve_power (n : Nat) : (s.reserve n).power = s.power := rfl
@[simp] theorem State.reserve_resetHeld (n : Nat) : (s.reserve n).resetHeld = s.resetHeld := rfl
@[simp] theorem State.reserve_retainedGood (n : Nat) : (s.reserve n).retainedGood = s.retainedGood := rfl
@[simp] theorem State.reserve_retained (n : Nat) : (s.reserve n).retained = s.retained := rfl
@[simp] theorem State.reserve_part (n : Nat) : (s.reserve n).part = s.part := rfl
@[simp] theorem State.reserve_detached (n : Nat) : (s.reserve n).detached = s.detached := rfl
@[simp] theorem State.reserve_inhibit (n : Nat) : (s.reserve n).inhibit = s.inhibit := rfl
@[simp] theorem State.reserve_machineId (n : Nat) : (s.reserve n).machineId = s.machineId := rfl
@[simp] theorem State.reserve_silenceLimit (n : Nat) : (s.reserve n).silenceLimit = s.silenceLimit := rfl
@[simp] theorem State.reserve_silenceRunning (n : Nat) : (s.reserve n).silenceRunning = s.silenceRunning := rfl
@[simp] theorem State.reserve_cRate (n : Nat) : (s.reserve n).cRate = s.cRate := rfl
@[simp] theorem State.reserve_mRate (n : Nat) : (s.reserve n).mRate = s.mRate := rfl
@[simp] theorem State.reserve_cRx (n : Nat) : (s.reserve n).cRx = s.cRx := rfl
@[simp] theorem State.reserve_mRx (n : Nat) : (s.reserve n).mRx = s.mRx := rfl
@[simp] theorem State.reserve_replies (n : Nat) : (s.reserve n).replies = s.replies := rfl
@[simp] theorem State.reserve_sending (n : Nat) : (s.reserve n).sending = s.sending := rfl
@[simp] theorem State.reserve_stopping (n : Nat) : (s.reserve n).stopping = s.stopping := rfl
@[simp] theorem State.reserve_forwardQ (n : Nat) : (s.reserve n).forwardQ = s.forwardQ := rfl
@[simp] theorem State.reserve_upwardQ (n : Nat) : (s.reserve n).upwardQ = s.upwardQ := rfl
@[simp] theorem State.reserve_slots (n : Nat) : (s.reserve n).slots = s.slots := rfl
@[simp] theorem State.reserve_lastPolled (n : Nat) : (s.reserve n).lastPolled = s.lastPolled := rfl
@[simp] theorem State.reserve_exchange (n : Nat) : (s.reserve n).exchange = s.exchange := rfl
@[simp] theorem State.reserve_loads (n : Nat) : (s.reserve n).loads = s.loads := rfl
@[simp] theorem State.reserve_reports (n : Nat) : (s.reserve n).reports = s.reports := rfl
@[simp] theorem State.reserve_reserved (n : Nat) : (s.reserve n).reserved = s.reserved + n := rfl
@[simp] theorem State.reserve_clock (n : Nat) : (s.reserve n).clock = s.clock := rfl
@[simp] theorem State.reserve_chute (n : Nat) : (s.reserve n).chute = s.chute := rfl
@[simp] theorem State.reserve_causes (n : Nat) : (s.reserve n).causes = s.causes := rfl
@[simp] theorem State.reserve_doorOpen (n : Nat) : (s.reserve n).doorOpen = s.doorOpen := rfl
@[simp] theorem State.reserve_coils (n : Nat) : (s.reserve n).coils = s.coils := rfl
@[simp] theorem State.reserve_purchase (n : Nat) : (s.reserve n).purchase = s.purchase := rfl
@[simp] theorem State.reserve_card (n : Nat) : (s.reserve n).card = s.card := rfl
@[simp] theorem State.reserve_tubes (n : Nat) : (s.reserve n).tubes = s.tubes := rfl
@[simp] theorem State.reserve_payout (n : Nat) : (s.reserve n).payout = s.payout := rfl
@[simp] theorem State.reserve_printer (n : Nat) : (s.reserve n).printer = s.printer := rfl
@[simp] theorem State.reserve_pending (n : Nat) : (s.reserve n).pending = s.pending := rfl

/-! ## release -/

@[simp] theorem State.release_power : s.release.power = s.power := rfl
@[simp] theorem State.release_resetHeld : s.release.resetHeld = s.resetHeld := rfl
@[simp] theorem State.release_retainedGood : s.release.retainedGood = s.retainedGood := rfl
@[simp] theorem State.release_retained : s.release.retained = s.retained := rfl
@[simp] theorem State.release_part : s.release.part = s.part := rfl
@[simp] theorem State.release_detached : s.release.detached = s.detached := rfl
@[simp] theorem State.release_inhibit : s.release.inhibit = s.inhibit := rfl
@[simp] theorem State.release_machineId : s.release.machineId = s.machineId := rfl
@[simp] theorem State.release_silenceLimit : s.release.silenceLimit = s.silenceLimit := rfl
@[simp] theorem State.release_silenceRunning : s.release.silenceRunning = s.silenceRunning := rfl
@[simp] theorem State.release_cRate : s.release.cRate = s.cRate := rfl
@[simp] theorem State.release_mRate : s.release.mRate = s.mRate := rfl
@[simp] theorem State.release_cRx : s.release.cRx = s.cRx := rfl
@[simp] theorem State.release_mRx : s.release.mRx = s.mRx := rfl
@[simp] theorem State.release_replies : s.release.replies = s.replies := rfl
@[simp] theorem State.release_sending : s.release.sending = s.sending := rfl
@[simp] theorem State.release_stopping : s.release.stopping = s.stopping := rfl
@[simp] theorem State.release_forwardQ : s.release.forwardQ = s.forwardQ := rfl
@[simp] theorem State.release_upwardQ : s.release.upwardQ = s.upwardQ := rfl
@[simp] theorem State.release_slots : s.release.slots = s.slots := rfl
@[simp] theorem State.release_lastPolled : s.release.lastPolled = s.lastPolled := rfl
@[simp] theorem State.release_exchange : s.release.exchange = s.exchange := rfl
@[simp] theorem State.release_loads : s.release.loads = s.loads := rfl
@[simp] theorem State.release_reports : s.release.reports = s.reports := rfl
@[simp] theorem State.release_reserved : s.release.reserved = s.reserved - 1 := rfl
@[simp] theorem State.release_clock : s.release.clock = s.clock := rfl
@[simp] theorem State.release_chute : s.release.chute = s.chute := rfl
@[simp] theorem State.release_causes : s.release.causes = s.causes := rfl
@[simp] theorem State.release_doorOpen : s.release.doorOpen = s.doorOpen := rfl
@[simp] theorem State.release_coils : s.release.coils = s.coils := rfl
@[simp] theorem State.release_purchase : s.release.purchase = s.purchase := rfl
@[simp] theorem State.release_card : s.release.card = s.card := rfl
@[simp] theorem State.release_tubes : s.release.tubes = s.tubes := rfl
@[simp] theorem State.release_payout : s.release.payout = s.payout := rfl
@[simp] theorem State.release_printer : s.release.printer = s.printer := rfl
@[simp] theorem State.release_pending : s.release.pending = s.pending := rfl

/-! ## onJournal -/

@[simp] theorem State.onJournal_power (f : List JournalRecord → List JournalRecord) : (s.onJournal f).power = s.power := rfl
@[simp] theorem State.onJournal_resetHeld (f : List JournalRecord → List JournalRecord) : (s.onJournal f).resetHeld = s.resetHeld := rfl
@[simp] theorem State.onJournal_retainedGood (f : List JournalRecord → List JournalRecord) : (s.onJournal f).retainedGood = s.retainedGood := rfl
@[simp] theorem State.onJournal_retained (f : List JournalRecord → List JournalRecord) :
    (s.onJournal f).retained = { s.retained with journal := f s.retained.journal } := rfl
@[simp] theorem State.onJournal_part (f : List JournalRecord → List JournalRecord) : (s.onJournal f).part = s.part := rfl
@[simp] theorem State.onJournal_detached (f : List JournalRecord → List JournalRecord) : (s.onJournal f).detached = s.detached := rfl
@[simp] theorem State.onJournal_inhibit (f : List JournalRecord → List JournalRecord) : (s.onJournal f).inhibit = s.inhibit := rfl
@[simp] theorem State.onJournal_machineId (f : List JournalRecord → List JournalRecord) : (s.onJournal f).machineId = s.machineId := rfl
@[simp] theorem State.onJournal_silenceLimit (f : List JournalRecord → List JournalRecord) : (s.onJournal f).silenceLimit = s.silenceLimit := rfl
@[simp] theorem State.onJournal_silenceRunning (f : List JournalRecord → List JournalRecord) :
    (s.onJournal f).silenceRunning = s.silenceRunning := rfl
@[simp] theorem State.onJournal_cRate (f : List JournalRecord → List JournalRecord) : (s.onJournal f).cRate = s.cRate := rfl
@[simp] theorem State.onJournal_mRate (f : List JournalRecord → List JournalRecord) : (s.onJournal f).mRate = s.mRate := rfl
@[simp] theorem State.onJournal_cRx (f : List JournalRecord → List JournalRecord) : (s.onJournal f).cRx = s.cRx := rfl
@[simp] theorem State.onJournal_mRx (f : List JournalRecord → List JournalRecord) : (s.onJournal f).mRx = s.mRx := rfl
@[simp] theorem State.onJournal_replies (f : List JournalRecord → List JournalRecord) : (s.onJournal f).replies = s.replies := rfl
@[simp] theorem State.onJournal_sending (f : List JournalRecord → List JournalRecord) : (s.onJournal f).sending = s.sending := rfl
@[simp] theorem State.onJournal_stopping (f : List JournalRecord → List JournalRecord) : (s.onJournal f).stopping = s.stopping := rfl
@[simp] theorem State.onJournal_forwardQ (f : List JournalRecord → List JournalRecord) : (s.onJournal f).forwardQ = s.forwardQ := rfl
@[simp] theorem State.onJournal_upwardQ (f : List JournalRecord → List JournalRecord) : (s.onJournal f).upwardQ = s.upwardQ := rfl
@[simp] theorem State.onJournal_slots (f : List JournalRecord → List JournalRecord) : (s.onJournal f).slots = s.slots := rfl
@[simp] theorem State.onJournal_lastPolled (f : List JournalRecord → List JournalRecord) : (s.onJournal f).lastPolled = s.lastPolled := rfl
@[simp] theorem State.onJournal_exchange (f : List JournalRecord → List JournalRecord) : (s.onJournal f).exchange = s.exchange := rfl
@[simp] theorem State.onJournal_loads (f : List JournalRecord → List JournalRecord) : (s.onJournal f).loads = s.loads := rfl
@[simp] theorem State.onJournal_reports (f : List JournalRecord → List JournalRecord) : (s.onJournal f).reports = s.reports := rfl
@[simp] theorem State.onJournal_reserved (f : List JournalRecord → List JournalRecord) : (s.onJournal f).reserved = s.reserved := rfl
@[simp] theorem State.onJournal_clock (f : List JournalRecord → List JournalRecord) : (s.onJournal f).clock = s.clock := rfl
@[simp] theorem State.onJournal_chute (f : List JournalRecord → List JournalRecord) : (s.onJournal f).chute = s.chute := rfl
@[simp] theorem State.onJournal_causes (f : List JournalRecord → List JournalRecord) : (s.onJournal f).causes = s.causes := rfl
@[simp] theorem State.onJournal_doorOpen (f : List JournalRecord → List JournalRecord) : (s.onJournal f).doorOpen = s.doorOpen := rfl
@[simp] theorem State.onJournal_coils (f : List JournalRecord → List JournalRecord) : (s.onJournal f).coils = s.coils := rfl
@[simp] theorem State.onJournal_purchase (f : List JournalRecord → List JournalRecord) : (s.onJournal f).purchase = s.purchase := rfl
@[simp] theorem State.onJournal_card (f : List JournalRecord → List JournalRecord) : (s.onJournal f).card = s.card := rfl
@[simp] theorem State.onJournal_tubes (f : List JournalRecord → List JournalRecord) : (s.onJournal f).tubes = s.tubes := rfl
@[simp] theorem State.onJournal_payout (f : List JournalRecord → List JournalRecord) : (s.onJournal f).payout = s.payout := rfl
@[simp] theorem State.onJournal_printer (f : List JournalRecord → List JournalRecord) : (s.onJournal f).printer = s.printer := rfl
@[simp] theorem State.onJournal_pending (f : List JournalRecord → List JournalRecord) : (s.onJournal f).pending = s.pending := rfl

/-! ## begin -/

@[simp] theorem State.begin_power (t : Target) (o : Owner) (f : Frame) : (s.begin t o f).power = s.power := rfl
@[simp] theorem State.begin_resetHeld (t : Target) (o : Owner) (f : Frame) : (s.begin t o f).resetHeld = s.resetHeld := rfl
@[simp] theorem State.begin_retainedGood (t : Target) (o : Owner) (f : Frame) : (s.begin t o f).retainedGood = s.retainedGood := rfl
@[simp] theorem State.begin_retained (t : Target) (o : Owner) (f : Frame) : (s.begin t o f).retained = s.retained := rfl
@[simp] theorem State.begin_part (t : Target) (o : Owner) (f : Frame) : (s.begin t o f).part = s.part := rfl
@[simp] theorem State.begin_detached (t : Target) (o : Owner) (f : Frame) : (s.begin t o f).detached = s.detached := rfl
@[simp] theorem State.begin_inhibit (t : Target) (o : Owner) (f : Frame) : (s.begin t o f).inhibit = s.inhibit := rfl
@[simp] theorem State.begin_machineId (t : Target) (o : Owner) (f : Frame) : (s.begin t o f).machineId = s.machineId := rfl
@[simp] theorem State.begin_silenceLimit (t : Target) (o : Owner) (f : Frame) : (s.begin t o f).silenceLimit = s.silenceLimit := rfl
@[simp] theorem State.begin_silenceRunning (t : Target) (o : Owner) (f : Frame) : (s.begin t o f).silenceRunning = s.silenceRunning := rfl
@[simp] theorem State.begin_cRate (t : Target) (o : Owner) (f : Frame) : (s.begin t o f).cRate = s.cRate := rfl
@[simp] theorem State.begin_mRate (t : Target) (o : Owner) (f : Frame) : (s.begin t o f).mRate = s.mRate := rfl
@[simp] theorem State.begin_cRx (t : Target) (o : Owner) (f : Frame) : (s.begin t o f).cRx = s.cRx := rfl
@[simp] theorem State.begin_mRx (t : Target) (o : Owner) (f : Frame) : (s.begin t o f).mRx = s.mRx := rfl
@[simp] theorem State.begin_replies (t : Target) (o : Owner) (f : Frame) : (s.begin t o f).replies = s.replies := rfl
@[simp] theorem State.begin_sending (t : Target) (o : Owner) (f : Frame) : (s.begin t o f).sending = s.sending := rfl
@[simp] theorem State.begin_stopping (t : Target) (o : Owner) (f : Frame) : (s.begin t o f).stopping = s.stopping := rfl
@[simp] theorem State.begin_forwardQ (t : Target) (o : Owner) (f : Frame) : (s.begin t o f).forwardQ = s.forwardQ := rfl
@[simp] theorem State.begin_upwardQ (t : Target) (o : Owner) (f : Frame) : (s.begin t o f).upwardQ = s.upwardQ := rfl
@[simp] theorem State.begin_slots (t : Target) (o : Owner) (f : Frame) : (s.begin t o f).slots = s.slots := rfl
@[simp] theorem State.begin_lastPolled (t : Target) (o : Owner) (f : Frame) : (s.begin t o f).lastPolled = s.lastPolled := rfl
@[simp] theorem State.begin_exchange (t : Target) (o : Owner) (f : Frame) : (s.begin t o f).exchange = some ⟨t, o, f⟩ := rfl
@[simp] theorem State.begin_loads (t : Target) (o : Owner) (f : Frame) : (s.begin t o f).loads = s.loads := rfl
@[simp] theorem State.begin_reports (t : Target) (o : Owner) (f : Frame) : (s.begin t o f).reports = s.reports := rfl
@[simp] theorem State.begin_reserved (t : Target) (o : Owner) (f : Frame) : (s.begin t o f).reserved = s.reserved := rfl
@[simp] theorem State.begin_clock (t : Target) (o : Owner) (f : Frame) : (s.begin t o f).clock = s.clock := rfl
@[simp] theorem State.begin_chute (t : Target) (o : Owner) (f : Frame) : (s.begin t o f).chute = s.chute := rfl
@[simp] theorem State.begin_causes (t : Target) (o : Owner) (f : Frame) : (s.begin t o f).causes = s.causes := rfl
@[simp] theorem State.begin_doorOpen (t : Target) (o : Owner) (f : Frame) : (s.begin t o f).doorOpen = s.doorOpen := rfl
@[simp] theorem State.begin_coils (t : Target) (o : Owner) (f : Frame) : (s.begin t o f).coils = s.coils := rfl
@[simp] theorem State.begin_purchase (t : Target) (o : Owner) (f : Frame) : (s.begin t o f).purchase = s.purchase := rfl
@[simp] theorem State.begin_card (t : Target) (o : Owner) (f : Frame) : (s.begin t o f).card = s.card := rfl
@[simp] theorem State.begin_tubes (t : Target) (o : Owner) (f : Frame) : (s.begin t o f).tubes = s.tubes := rfl
@[simp] theorem State.begin_payout (t : Target) (o : Owner) (f : Frame) : (s.begin t o f).payout = s.payout := rfl
@[simp] theorem State.begin_printer (t : Target) (o : Owner) (f : Frame) : (s.begin t o f).printer = s.printer := rfl
@[simp] theorem State.begin_pending (t : Target) (o : Owner) (f : Frame) : (s.begin t o f).pending = s.pending := rfl

/-! ## endExchange -/

@[simp] theorem State.endExchange_power : s.endExchange.power = s.power := rfl
@[simp] theorem State.endExchange_resetHeld : s.endExchange.resetHeld = s.resetHeld := rfl
@[simp] theorem State.endExchange_retainedGood : s.endExchange.retainedGood = s.retainedGood := rfl
@[simp] theorem State.endExchange_retained : s.endExchange.retained = s.retained := rfl
@[simp] theorem State.endExchange_part : s.endExchange.part = s.part := rfl
@[simp] theorem State.endExchange_detached : s.endExchange.detached = s.detached := rfl
@[simp] theorem State.endExchange_inhibit : s.endExchange.inhibit = s.inhibit := rfl
@[simp] theorem State.endExchange_machineId : s.endExchange.machineId = s.machineId := rfl
@[simp] theorem State.endExchange_silenceLimit : s.endExchange.silenceLimit = s.silenceLimit := rfl
@[simp] theorem State.endExchange_silenceRunning : s.endExchange.silenceRunning = s.silenceRunning := rfl
@[simp] theorem State.endExchange_cRate : s.endExchange.cRate = s.cRate := rfl
@[simp] theorem State.endExchange_mRate : s.endExchange.mRate = s.mRate := rfl
@[simp] theorem State.endExchange_cRx : s.endExchange.cRx = s.cRx := rfl
@[simp] theorem State.endExchange_mRx :
    s.endExchange.mRx = { s.mRx with fifo := [], overrunNext := false, gapRunning := false, asm := .hunting } := rfl
@[simp] theorem State.endExchange_replies : s.endExchange.replies = s.replies := rfl
@[simp] theorem State.endExchange_sending : s.endExchange.sending = s.sending := rfl
@[simp] theorem State.endExchange_stopping : s.endExchange.stopping = s.stopping := rfl
@[simp] theorem State.endExchange_forwardQ : s.endExchange.forwardQ = s.forwardQ := rfl
@[simp] theorem State.endExchange_upwardQ : s.endExchange.upwardQ = s.upwardQ := rfl
@[simp] theorem State.endExchange_slots : s.endExchange.slots = s.slots := rfl
@[simp] theorem State.endExchange_lastPolled : s.endExchange.lastPolled = s.lastPolled := rfl
@[simp] theorem State.endExchange_exchange : s.endExchange.exchange = none := rfl
@[simp] theorem State.endExchange_loads : s.endExchange.loads = s.loads := rfl
@[simp] theorem State.endExchange_reports : s.endExchange.reports = s.reports := rfl
@[simp] theorem State.endExchange_reserved : s.endExchange.reserved = s.reserved := rfl
@[simp] theorem State.endExchange_clock : s.endExchange.clock = s.clock := rfl
@[simp] theorem State.endExchange_chute : s.endExchange.chute = s.chute := rfl
@[simp] theorem State.endExchange_causes : s.endExchange.causes = s.causes := rfl
@[simp] theorem State.endExchange_doorOpen : s.endExchange.doorOpen = s.doorOpen := rfl
@[simp] theorem State.endExchange_coils : s.endExchange.coils = s.coils := rfl
@[simp] theorem State.endExchange_purchase : s.endExchange.purchase = s.purchase := rfl
@[simp] theorem State.endExchange_card : s.endExchange.card = s.card := rfl
@[simp] theorem State.endExchange_tubes : s.endExchange.tubes = s.tubes := rfl
@[simp] theorem State.endExchange_payout : s.endExchange.payout = s.payout := rfl
@[simp] theorem State.endExchange_printer : s.endExchange.printer = s.printer := rfl
@[simp] theorem State.endExchange_pending : s.endExchange.pending = s.pending := rfl

/-! ## clearTallies -/

@[simp] theorem State.clearTallies_power : s.clearTallies.power = s.power := rfl
@[simp] theorem State.clearTallies_resetHeld : s.clearTallies.resetHeld = s.resetHeld := rfl
@[simp] theorem State.clearTallies_retainedGood : s.clearTallies.retainedGood = s.retainedGood := rfl
@[simp] theorem State.clearTallies_retained : s.clearTallies.retained = s.retained := rfl
@[simp] theorem State.clearTallies_part : s.clearTallies.part = s.part := rfl
@[simp] theorem State.clearTallies_detached : s.clearTallies.detached = s.detached := rfl
@[simp] theorem State.clearTallies_inhibit : s.clearTallies.inhibit = s.inhibit := rfl
@[simp] theorem State.clearTallies_machineId : s.clearTallies.machineId = s.machineId := rfl
@[simp] theorem State.clearTallies_silenceLimit : s.clearTallies.silenceLimit = s.silenceLimit := rfl
@[simp] theorem State.clearTallies_silenceRunning : s.clearTallies.silenceRunning = s.silenceRunning := rfl
@[simp] theorem State.clearTallies_cRate : s.clearTallies.cRate = s.cRate := rfl
@[simp] theorem State.clearTallies_mRate : s.clearTallies.mRate = s.mRate := rfl
@[simp] theorem State.clearTallies_cRx : s.clearTallies.cRx = { s.cRx with tallies := .zero } := rfl
@[simp] theorem State.clearTallies_mRx : s.clearTallies.mRx = { s.mRx with tallies := .zero } := rfl
@[simp] theorem State.clearTallies_replies : s.clearTallies.replies = s.replies := rfl
@[simp] theorem State.clearTallies_sending : s.clearTallies.sending = s.sending := rfl
@[simp] theorem State.clearTallies_stopping : s.clearTallies.stopping = s.stopping := rfl
@[simp] theorem State.clearTallies_forwardQ : s.clearTallies.forwardQ = s.forwardQ := rfl
@[simp] theorem State.clearTallies_upwardQ : s.clearTallies.upwardQ = s.upwardQ := rfl
@[simp] theorem State.clearTallies_slots : s.clearTallies.slots = s.slots := rfl
@[simp] theorem State.clearTallies_lastPolled : s.clearTallies.lastPolled = s.lastPolled := rfl
@[simp] theorem State.clearTallies_exchange : s.clearTallies.exchange = s.exchange := rfl
@[simp] theorem State.clearTallies_loads : s.clearTallies.loads = s.loads := rfl
@[simp] theorem State.clearTallies_reports : s.clearTallies.reports = s.reports := rfl
@[simp] theorem State.clearTallies_reserved : s.clearTallies.reserved = s.reserved := rfl
@[simp] theorem State.clearTallies_clock : s.clearTallies.clock = s.clock := rfl
@[simp] theorem State.clearTallies_chute : s.clearTallies.chute = s.chute := rfl
@[simp] theorem State.clearTallies_causes : s.clearTallies.causes = s.causes := rfl
@[simp] theorem State.clearTallies_doorOpen : s.clearTallies.doorOpen = s.doorOpen := rfl
@[simp] theorem State.clearTallies_coils : s.clearTallies.coils = s.coils := rfl
@[simp] theorem State.clearTallies_purchase : s.clearTallies.purchase = s.purchase := rfl
@[simp] theorem State.clearTallies_card : s.clearTallies.card = s.card := rfl
@[simp] theorem State.clearTallies_tubes : s.clearTallies.tubes = s.tubes := rfl
@[simp] theorem State.clearTallies_payout : s.clearTallies.payout = s.payout := rfl
@[simp] theorem State.clearTallies_printer : s.clearTallies.printer = s.printer := rfl
@[simp] theorem State.clearTallies_pending : s.clearTallies.pending = s.pending := rfl

/-! ## issueCredit -/

@[simp] theorem State.issueCredit_power (a r : Nat) : (s.issueCredit a r).power = s.power := rfl
@[simp] theorem State.issueCredit_resetHeld (a r : Nat) : (s.issueCredit a r).resetHeld = s.resetHeld := rfl
@[simp] theorem State.issueCredit_retainedGood (a r : Nat) : (s.issueCredit a r).retainedGood = s.retainedGood := rfl
@[simp] theorem State.issueCredit_retained (a r : Nat) : (s.issueCredit a r).retained = s.retained := rfl
@[simp] theorem State.issueCredit_part (a r : Nat) : (s.issueCredit a r).part = s.part := rfl
@[simp] theorem State.issueCredit_detached (a r : Nat) : (s.issueCredit a r).detached = s.detached := rfl
@[simp] theorem State.issueCredit_inhibit (a r : Nat) : (s.issueCredit a r).inhibit = s.inhibit := rfl
@[simp] theorem State.issueCredit_machineId (a r : Nat) : (s.issueCredit a r).machineId = s.machineId := rfl
@[simp] theorem State.issueCredit_silenceLimit (a r : Nat) : (s.issueCredit a r).silenceLimit = s.silenceLimit := rfl
@[simp] theorem State.issueCredit_silenceRunning (a r : Nat) : (s.issueCredit a r).silenceRunning = s.silenceRunning := rfl
@[simp] theorem State.issueCredit_cRate (a r : Nat) : (s.issueCredit a r).cRate = s.cRate := rfl
@[simp] theorem State.issueCredit_mRate (a r : Nat) : (s.issueCredit a r).mRate = s.mRate := rfl
@[simp] theorem State.issueCredit_cRx (a r : Nat) : (s.issueCredit a r).cRx = s.cRx := rfl
@[simp] theorem State.issueCredit_mRx (a r : Nat) : (s.issueCredit a r).mRx = s.mRx := rfl
@[simp] theorem State.issueCredit_replies (a r : Nat) : (s.issueCredit a r).replies = s.replies := rfl
@[simp] theorem State.issueCredit_sending (a r : Nat) : (s.issueCredit a r).sending = s.sending := rfl
@[simp] theorem State.issueCredit_stopping (a r : Nat) : (s.issueCredit a r).stopping = s.stopping := rfl
@[simp] theorem State.issueCredit_forwardQ (a r : Nat) : (s.issueCredit a r).forwardQ = s.forwardQ := rfl
@[simp] theorem State.issueCredit_upwardQ (a r : Nat) : (s.issueCredit a r).upwardQ = s.upwardQ := rfl
@[simp] theorem State.issueCredit_slots (a r : Nat) : (s.issueCredit a r).slots = s.slots := rfl
@[simp] theorem State.issueCredit_lastPolled (a r : Nat) : (s.issueCredit a r).lastPolled = s.lastPolled := rfl
@[simp] theorem State.issueCredit_exchange (a r : Nat) : (s.issueCredit a r).exchange = s.exchange := rfl
@[simp] theorem State.issueCredit_loads (a r : Nat) : (s.issueCredit a r).loads = s.loads := rfl
@[simp] theorem State.issueCredit_reports (a r : Nat) :
    (s.issueCredit a r).reports = putFixed (.credit ⟨s.retained.ledger.c, s.purchase, a, r, 0⟩) s.reports := rfl
@[simp] theorem State.issueCredit_reserved (a r : Nat) : (s.issueCredit a r).reserved = s.reserved := rfl
@[simp] theorem State.issueCredit_clock (a r : Nat) : (s.issueCredit a r).clock = s.clock := rfl
@[simp] theorem State.issueCredit_chute (a r : Nat) : (s.issueCredit a r).chute = s.chute := rfl
@[simp] theorem State.issueCredit_causes (a r : Nat) : (s.issueCredit a r).causes = s.causes := rfl
@[simp] theorem State.issueCredit_doorOpen (a r : Nat) : (s.issueCredit a r).doorOpen = s.doorOpen := rfl
@[simp] theorem State.issueCredit_coils (a r : Nat) : (s.issueCredit a r).coils = s.coils := rfl
@[simp] theorem State.issueCredit_purchase (a r : Nat) : (s.issueCredit a r).purchase = s.purchase := rfl
@[simp] theorem State.issueCredit_card (a r : Nat) : (s.issueCredit a r).card = s.card := rfl
@[simp] theorem State.issueCredit_tubes (a r : Nat) : (s.issueCredit a r).tubes = s.tubes := rfl
@[simp] theorem State.issueCredit_payout (a r : Nat) : (s.issueCredit a r).payout = s.payout := rfl
@[simp] theorem State.issueCredit_printer (a r : Nat) : (s.issueCredit a r).printer = s.printer := rfl
@[simp] theorem State.issueCredit_pending (a r : Nat) : (s.issueCredit a r).pending = s.pending := rfl

/-! ## issueChute -/

@[simp] theorem State.issueChute_power : s.issueChute.power = s.power := rfl
@[simp] theorem State.issueChute_resetHeld : s.issueChute.resetHeld = s.resetHeld := rfl
@[simp] theorem State.issueChute_retainedGood : s.issueChute.retainedGood = s.retainedGood := rfl
@[simp] theorem State.issueChute_retained : s.issueChute.retained = s.retained := rfl
@[simp] theorem State.issueChute_part : s.issueChute.part = s.part := rfl
@[simp] theorem State.issueChute_detached : s.issueChute.detached = s.detached := rfl
@[simp] theorem State.issueChute_inhibit : s.issueChute.inhibit = s.inhibit := rfl
@[simp] theorem State.issueChute_machineId : s.issueChute.machineId = s.machineId := rfl
@[simp] theorem State.issueChute_silenceLimit : s.issueChute.silenceLimit = s.silenceLimit := rfl
@[simp] theorem State.issueChute_silenceRunning : s.issueChute.silenceRunning = s.silenceRunning := rfl
@[simp] theorem State.issueChute_cRate : s.issueChute.cRate = s.cRate := rfl
@[simp] theorem State.issueChute_mRate : s.issueChute.mRate = s.mRate := rfl
@[simp] theorem State.issueChute_cRx : s.issueChute.cRx = s.cRx := rfl
@[simp] theorem State.issueChute_mRx : s.issueChute.mRx = s.mRx := rfl
@[simp] theorem State.issueChute_replies : s.issueChute.replies = s.replies := rfl
@[simp] theorem State.issueChute_sending : s.issueChute.sending = s.sending := rfl
@[simp] theorem State.issueChute_stopping : s.issueChute.stopping = s.stopping := rfl
@[simp] theorem State.issueChute_forwardQ : s.issueChute.forwardQ = s.forwardQ := rfl
@[simp] theorem State.issueChute_upwardQ : s.issueChute.upwardQ = s.upwardQ := rfl
@[simp] theorem State.issueChute_slots : s.issueChute.slots = s.slots := rfl
@[simp] theorem State.issueChute_lastPolled : s.issueChute.lastPolled = s.lastPolled := rfl
@[simp] theorem State.issueChute_exchange : s.issueChute.exchange = s.exchange := rfl
@[simp] theorem State.issueChute_loads : s.issueChute.loads = s.loads := rfl
@[simp] theorem State.issueChute_reports :
    s.issueChute.reports = putFixed (.chute ⟨s.chute.state, s.chute.fault, s.causes, s.chute.last, s.coils.status⟩) s.reports := rfl
@[simp] theorem State.issueChute_reserved : s.issueChute.reserved = s.reserved := rfl
@[simp] theorem State.issueChute_clock : s.issueChute.clock = s.clock := rfl
@[simp] theorem State.issueChute_chute : s.issueChute.chute = s.chute := rfl
@[simp] theorem State.issueChute_causes : s.issueChute.causes = s.causes := rfl
@[simp] theorem State.issueChute_doorOpen : s.issueChute.doorOpen = s.doorOpen := rfl
@[simp] theorem State.issueChute_coils : s.issueChute.coils = s.coils := rfl
@[simp] theorem State.issueChute_purchase : s.issueChute.purchase = s.purchase := rfl
@[simp] theorem State.issueChute_card : s.issueChute.card = s.card := rfl
@[simp] theorem State.issueChute_tubes : s.issueChute.tubes = s.tubes := rfl
@[simp] theorem State.issueChute_payout : s.issueChute.payout = s.payout := rfl
@[simp] theorem State.issueChute_printer : s.issueChute.printer = s.printer := rfl
@[simp] theorem State.issueChute_pending : s.issueChute.pending = s.pending := rfl

/-! ## issueTubes -/

@[simp] theorem State.issueTubes_power : s.issueTubes.power = s.power := rfl
@[simp] theorem State.issueTubes_resetHeld : s.issueTubes.resetHeld = s.resetHeld := rfl
@[simp] theorem State.issueTubes_retainedGood : s.issueTubes.retainedGood = s.retainedGood := rfl
@[simp] theorem State.issueTubes_retained : s.issueTubes.retained = s.retained := rfl
@[simp] theorem State.issueTubes_part : s.issueTubes.part = s.part := rfl
@[simp] theorem State.issueTubes_detached : s.issueTubes.detached = s.detached := rfl
@[simp] theorem State.issueTubes_inhibit : s.issueTubes.inhibit = s.inhibit := rfl
@[simp] theorem State.issueTubes_machineId : s.issueTubes.machineId = s.machineId := rfl
@[simp] theorem State.issueTubes_silenceLimit : s.issueTubes.silenceLimit = s.silenceLimit := rfl
@[simp] theorem State.issueTubes_silenceRunning : s.issueTubes.silenceRunning = s.silenceRunning := rfl
@[simp] theorem State.issueTubes_cRate : s.issueTubes.cRate = s.cRate := rfl
@[simp] theorem State.issueTubes_mRate : s.issueTubes.mRate = s.mRate := rfl
@[simp] theorem State.issueTubes_cRx : s.issueTubes.cRx = s.cRx := rfl
@[simp] theorem State.issueTubes_mRx : s.issueTubes.mRx = s.mRx := rfl
@[simp] theorem State.issueTubes_replies : s.issueTubes.replies = s.replies := rfl
@[simp] theorem State.issueTubes_sending : s.issueTubes.sending = s.sending := rfl
@[simp] theorem State.issueTubes_stopping : s.issueTubes.stopping = s.stopping := rfl
@[simp] theorem State.issueTubes_forwardQ : s.issueTubes.forwardQ = s.forwardQ := rfl
@[simp] theorem State.issueTubes_upwardQ : s.issueTubes.upwardQ = s.upwardQ := rfl
@[simp] theorem State.issueTubes_slots : s.issueTubes.slots = s.slots := rfl
@[simp] theorem State.issueTubes_lastPolled : s.issueTubes.lastPolled = s.lastPolled := rfl
@[simp] theorem State.issueTubes_exchange : s.issueTubes.exchange = s.exchange := rfl
@[simp] theorem State.issueTubes_loads : s.issueTubes.loads = s.loads := rfl
@[simp] theorem State.issueTubes_reports : s.issueTubes.reports = putFixed (.tubes s.tubesReport) s.reports := rfl
@[simp] theorem State.issueTubes_reserved : s.issueTubes.reserved = s.reserved := rfl
@[simp] theorem State.issueTubes_clock : s.issueTubes.clock = s.clock := rfl
@[simp] theorem State.issueTubes_chute : s.issueTubes.chute = s.chute := rfl
@[simp] theorem State.issueTubes_causes : s.issueTubes.causes = s.causes := rfl
@[simp] theorem State.issueTubes_doorOpen : s.issueTubes.doorOpen = s.doorOpen := rfl
@[simp] theorem State.issueTubes_coils : s.issueTubes.coils = s.coils := rfl
@[simp] theorem State.issueTubes_purchase : s.issueTubes.purchase = s.purchase := rfl
@[simp] theorem State.issueTubes_card : s.issueTubes.card = s.card := rfl
@[simp] theorem State.issueTubes_tubes : s.issueTubes.tubes = s.tubes := rfl
@[simp] theorem State.issueTubes_payout : s.issueTubes.payout = s.payout := rfl
@[simp] theorem State.issueTubes_printer : s.issueTubes.printer = s.printer := rfl
@[simp] theorem State.issueTubes_pending : s.issueTubes.pending = s.pending := rfl

/-! ## issueCard -/

@[simp] theorem State.issueCard_power (d : Nat) : (s.issueCard d).power = s.power := rfl
@[simp] theorem State.issueCard_resetHeld (d : Nat) : (s.issueCard d).resetHeld = s.resetHeld := rfl
@[simp] theorem State.issueCard_retainedGood (d : Nat) : (s.issueCard d).retainedGood = s.retainedGood := rfl
@[simp] theorem State.issueCard_retained (d : Nat) : (s.issueCard d).retained = s.retained := rfl
@[simp] theorem State.issueCard_part (d : Nat) : (s.issueCard d).part = s.part := rfl
@[simp] theorem State.issueCard_detached (d : Nat) : (s.issueCard d).detached = s.detached := rfl
@[simp] theorem State.issueCard_inhibit (d : Nat) : (s.issueCard d).inhibit = s.inhibit := rfl
@[simp] theorem State.issueCard_machineId (d : Nat) : (s.issueCard d).machineId = s.machineId := rfl
@[simp] theorem State.issueCard_silenceLimit (d : Nat) : (s.issueCard d).silenceLimit = s.silenceLimit := rfl
@[simp] theorem State.issueCard_silenceRunning (d : Nat) : (s.issueCard d).silenceRunning = s.silenceRunning := rfl
@[simp] theorem State.issueCard_cRate (d : Nat) : (s.issueCard d).cRate = s.cRate := rfl
@[simp] theorem State.issueCard_mRate (d : Nat) : (s.issueCard d).mRate = s.mRate := rfl
@[simp] theorem State.issueCard_cRx (d : Nat) : (s.issueCard d).cRx = s.cRx := rfl
@[simp] theorem State.issueCard_mRx (d : Nat) : (s.issueCard d).mRx = s.mRx := rfl
@[simp] theorem State.issueCard_replies (d : Nat) : (s.issueCard d).replies = s.replies := rfl
@[simp] theorem State.issueCard_sending (d : Nat) : (s.issueCard d).sending = s.sending := rfl
@[simp] theorem State.issueCard_stopping (d : Nat) : (s.issueCard d).stopping = s.stopping := rfl
@[simp] theorem State.issueCard_forwardQ (d : Nat) : (s.issueCard d).forwardQ = s.forwardQ := rfl
@[simp] theorem State.issueCard_upwardQ (d : Nat) : (s.issueCard d).upwardQ = s.upwardQ := rfl
@[simp] theorem State.issueCard_slots (d : Nat) : (s.issueCard d).slots = s.slots := rfl
@[simp] theorem State.issueCard_lastPolled (d : Nat) : (s.issueCard d).lastPolled = s.lastPolled := rfl
@[simp] theorem State.issueCard_exchange (d : Nat) : (s.issueCard d).exchange = s.exchange := rfl
@[simp] theorem State.issueCard_loads (d : Nat) : (s.issueCard d).loads = s.loads := rfl
@[simp] theorem State.issueCard_reports (d : Nat) :
    (s.issueCard d).reports = putFixed (.card ⟨s.bindingReport, s.presence, satAdd 0 d⟩) s.reports := rfl
@[simp] theorem State.issueCard_reserved (d : Nat) : (s.issueCard d).reserved = s.reserved := rfl
@[simp] theorem State.issueCard_clock (d : Nat) : (s.issueCard d).clock = s.clock := rfl
@[simp] theorem State.issueCard_chute (d : Nat) : (s.issueCard d).chute = s.chute := rfl
@[simp] theorem State.issueCard_causes (d : Nat) : (s.issueCard d).causes = s.causes := rfl
@[simp] theorem State.issueCard_doorOpen (d : Nat) : (s.issueCard d).doorOpen = s.doorOpen := rfl
@[simp] theorem State.issueCard_coils (d : Nat) : (s.issueCard d).coils = s.coils := rfl
@[simp] theorem State.issueCard_purchase (d : Nat) : (s.issueCard d).purchase = s.purchase := rfl
@[simp] theorem State.issueCard_card (d : Nat) : (s.issueCard d).card = s.card := rfl
@[simp] theorem State.issueCard_tubes (d : Nat) : (s.issueCard d).tubes = s.tubes := rfl
@[simp] theorem State.issueCard_payout (d : Nat) : (s.issueCard d).payout = s.payout := rfl
@[simp] theorem State.issueCard_printer (d : Nat) : (s.issueCard d).printer = s.printer := rfl
@[simp] theorem State.issueCard_pending (d : Nat) : (s.issueCard d).pending = s.pending := rfl

/-! ## issuePrinter -/

@[simp] theorem State.issuePrinter_power (a b c : Bool) (d : Nat) : (s.issuePrinter a b c d).power = s.power := rfl
@[simp] theorem State.issuePrinter_resetHeld (a b c : Bool) (d : Nat) : (s.issuePrinter a b c d).resetHeld = s.resetHeld := rfl
@[simp] theorem State.issuePrinter_retainedGood (a b c : Bool) (d : Nat) : (s.issuePrinter a b c d).retainedGood = s.retainedGood := rfl
@[simp] theorem State.issuePrinter_retained (a b c : Bool) (d : Nat) : (s.issuePrinter a b c d).retained = s.retained := rfl
@[simp] theorem State.issuePrinter_part (a b c : Bool) (d : Nat) : (s.issuePrinter a b c d).part = s.part := rfl
@[simp] theorem State.issuePrinter_detached (a b c : Bool) (d : Nat) : (s.issuePrinter a b c d).detached = s.detached := rfl
@[simp] theorem State.issuePrinter_inhibit (a b c : Bool) (d : Nat) : (s.issuePrinter a b c d).inhibit = s.inhibit := rfl
@[simp] theorem State.issuePrinter_machineId (a b c : Bool) (d : Nat) : (s.issuePrinter a b c d).machineId = s.machineId := rfl
@[simp] theorem State.issuePrinter_silenceLimit (a b c : Bool) (d : Nat) : (s.issuePrinter a b c d).silenceLimit = s.silenceLimit := rfl
@[simp] theorem State.issuePrinter_silenceRunning (a b c : Bool) (d : Nat) : (s.issuePrinter a b c d).silenceRunning = s.silenceRunning := rfl
@[simp] theorem State.issuePrinter_cRate (a b c : Bool) (d : Nat) : (s.issuePrinter a b c d).cRate = s.cRate := rfl
@[simp] theorem State.issuePrinter_mRate (a b c : Bool) (d : Nat) : (s.issuePrinter a b c d).mRate = s.mRate := rfl
@[simp] theorem State.issuePrinter_cRx (a b c : Bool) (d : Nat) : (s.issuePrinter a b c d).cRx = s.cRx := rfl
@[simp] theorem State.issuePrinter_mRx (a b c : Bool) (d : Nat) : (s.issuePrinter a b c d).mRx = s.mRx := rfl
@[simp] theorem State.issuePrinter_replies (a b c : Bool) (d : Nat) : (s.issuePrinter a b c d).replies = s.replies := rfl
@[simp] theorem State.issuePrinter_sending (a b c : Bool) (d : Nat) : (s.issuePrinter a b c d).sending = s.sending := rfl
@[simp] theorem State.issuePrinter_stopping (a b c : Bool) (d : Nat) : (s.issuePrinter a b c d).stopping = s.stopping := rfl
@[simp] theorem State.issuePrinter_forwardQ (a b c : Bool) (d : Nat) : (s.issuePrinter a b c d).forwardQ = s.forwardQ := rfl
@[simp] theorem State.issuePrinter_upwardQ (a b c : Bool) (d : Nat) : (s.issuePrinter a b c d).upwardQ = s.upwardQ := rfl
@[simp] theorem State.issuePrinter_slots (a b c : Bool) (d : Nat) : (s.issuePrinter a b c d).slots = s.slots := rfl
@[simp] theorem State.issuePrinter_lastPolled (a b c : Bool) (d : Nat) : (s.issuePrinter a b c d).lastPolled = s.lastPolled := rfl
@[simp] theorem State.issuePrinter_exchange (a b c : Bool) (d : Nat) : (s.issuePrinter a b c d).exchange = s.exchange := rfl
@[simp] theorem State.issuePrinter_loads (a b c : Bool) (d : Nat) : (s.issuePrinter a b c d).loads = s.loads := rfl
@[simp] theorem State.issuePrinter_reports (a b c : Bool) (d : Nat) :
    (s.issuePrinter a b c d).reports = putFixed (.printer ⟨s.printer.paper, s.printer.head, s.printer.fault, a, b, c, s.presence, satAdd 0 d⟩) s.reports := rfl
@[simp] theorem State.issuePrinter_reserved (a b c : Bool) (d : Nat) : (s.issuePrinter a b c d).reserved = s.reserved := rfl
@[simp] theorem State.issuePrinter_clock (a b c : Bool) (d : Nat) : (s.issuePrinter a b c d).clock = s.clock := rfl
@[simp] theorem State.issuePrinter_chute (a b c : Bool) (d : Nat) : (s.issuePrinter a b c d).chute = s.chute := rfl
@[simp] theorem State.issuePrinter_causes (a b c : Bool) (d : Nat) : (s.issuePrinter a b c d).causes = s.causes := rfl
@[simp] theorem State.issuePrinter_doorOpen (a b c : Bool) (d : Nat) : (s.issuePrinter a b c d).doorOpen = s.doorOpen := rfl
@[simp] theorem State.issuePrinter_coils (a b c : Bool) (d : Nat) : (s.issuePrinter a b c d).coils = s.coils := rfl
@[simp] theorem State.issuePrinter_purchase (a b c : Bool) (d : Nat) : (s.issuePrinter a b c d).purchase = s.purchase := rfl
@[simp] theorem State.issuePrinter_card (a b c : Bool) (d : Nat) : (s.issuePrinter a b c d).card = s.card := rfl
@[simp] theorem State.issuePrinter_tubes (a b c : Bool) (d : Nat) : (s.issuePrinter a b c d).tubes = s.tubes := rfl
@[simp] theorem State.issuePrinter_payout (a b c : Bool) (d : Nat) : (s.issuePrinter a b c d).payout = s.payout := rfl
@[simp] theorem State.issuePrinter_printer (a b c : Bool) (d : Nat) : (s.issuePrinter a b c d).printer = s.printer := rfl
@[simp] theorem State.issuePrinter_pending (a b c : Bool) (d : Nat) : (s.issuePrinter a b c d).pending = s.pending := rfl

/-! ## withLows -/

@[simp] theorem State.withLows_power : s.withLows.power = s.power := rfl
@[simp] theorem State.withLows_resetHeld : s.withLows.resetHeld = s.resetHeld := rfl
@[simp] theorem State.withLows_retainedGood : s.withLows.retainedGood = s.retainedGood := rfl
@[simp] theorem State.withLows_retained : s.withLows.retained = s.retained := rfl
@[simp] theorem State.withLows_part : s.withLows.part = s.part := rfl
@[simp] theorem State.withLows_detached : s.withLows.detached = s.detached := rfl
@[simp] theorem State.withLows_inhibit : s.withLows.inhibit = s.inhibit := rfl
@[simp] theorem State.withLows_machineId : s.withLows.machineId = s.machineId := rfl
@[simp] theorem State.withLows_silenceLimit : s.withLows.silenceLimit = s.silenceLimit := rfl
@[simp] theorem State.withLows_silenceRunning : s.withLows.silenceRunning = s.silenceRunning := rfl
@[simp] theorem State.withLows_cRate : s.withLows.cRate = s.cRate := rfl
@[simp] theorem State.withLows_mRate : s.withLows.mRate = s.mRate := rfl
@[simp] theorem State.withLows_cRx : s.withLows.cRx = s.cRx := rfl
@[simp] theorem State.withLows_mRx : s.withLows.mRx = s.mRx := rfl
@[simp] theorem State.withLows_replies : s.withLows.replies = s.replies := rfl
@[simp] theorem State.withLows_sending : s.withLows.sending = s.sending := rfl
@[simp] theorem State.withLows_stopping : s.withLows.stopping = s.stopping := rfl
@[simp] theorem State.withLows_forwardQ : s.withLows.forwardQ = s.forwardQ := rfl
@[simp] theorem State.withLows_upwardQ : s.withLows.upwardQ = s.upwardQ := rfl
@[simp] theorem State.withLows_slots : s.withLows.slots = s.slots := rfl
@[simp] theorem State.withLows_lastPolled : s.withLows.lastPolled = s.lastPolled := rfl
@[simp] theorem State.withLows_exchange : s.withLows.exchange = s.exchange := rfl
@[simp] theorem State.withLows_loads : s.withLows.loads = s.loads := rfl
@[simp] theorem State.withLows_reports : s.withLows.reports = s.reports := rfl
@[simp] theorem State.withLows_reserved : s.withLows.reserved = s.reserved := rfl
@[simp] theorem State.withLows_clock : s.withLows.clock = s.clock := rfl
@[simp] theorem State.withLows_chute : s.withLows.chute = s.chute := rfl
@[simp] theorem State.withLows_causes : s.withLows.causes = s.causes := rfl
@[simp] theorem State.withLows_doorOpen : s.withLows.doorOpen = s.doorOpen := rfl
@[simp] theorem State.withLows_coils : s.withLows.coils = s.coils := rfl
@[simp] theorem State.withLows_purchase : s.withLows.purchase = s.purchase := rfl
@[simp] theorem State.withLows_card : s.withLows.card = s.card := rfl
@[simp] theorem State.withLows_tubes : s.withLows.tubes = Vector.ofFn fun i => { s.tubes.get i with low := s.isLow i } := rfl
@[simp] theorem State.withLows_payout : s.withLows.payout = s.payout := rfl
@[simp] theorem State.withLows_printer : s.withLows.printer = s.printer := rfl
@[simp] theorem State.withLows_pending : s.withLows.pending = s.pending := rfl

/-! ## rest -/

@[simp] theorem State.rest_power : s.rest.power = s.power := rfl
@[simp] theorem State.rest_resetHeld : s.rest.resetHeld = s.resetHeld := rfl
@[simp] theorem State.rest_retainedGood : s.rest.retainedGood = s.retainedGood := rfl
@[simp] theorem State.rest_retained : s.rest.retained = s.retained := rfl
@[simp] theorem State.rest_part : s.rest.part = s.part := rfl
@[simp] theorem State.rest_detached : s.rest.detached = s.detached := rfl
@[simp] theorem State.rest_inhibit : s.rest.inhibit = s.inhibit := rfl
@[simp] theorem State.rest_machineId : s.rest.machineId = s.machineId := rfl
@[simp] theorem State.rest_silenceLimit : s.rest.silenceLimit = s.silenceLimit := rfl
@[simp] theorem State.rest_silenceRunning : s.rest.silenceRunning = s.silenceRunning := rfl
@[simp] theorem State.rest_cRate : s.rest.cRate = s.cRate := rfl
@[simp] theorem State.rest_mRate : s.rest.mRate = s.mRate := rfl
@[simp] theorem State.rest_cRx : s.rest.cRx = s.cRx := rfl
@[simp] theorem State.rest_mRx : s.rest.mRx = s.mRx := rfl
@[simp] theorem State.rest_replies : s.rest.replies = s.replies := rfl
@[simp] theorem State.rest_sending : s.rest.sending = s.sending := rfl
@[simp] theorem State.rest_stopping : s.rest.stopping = s.stopping := rfl
@[simp] theorem State.rest_forwardQ : s.rest.forwardQ = s.forwardQ := rfl
@[simp] theorem State.rest_upwardQ : s.rest.upwardQ = s.upwardQ := rfl
@[simp] theorem State.rest_slots : s.rest.slots = s.slots := rfl
@[simp] theorem State.rest_lastPolled : s.rest.lastPolled = s.lastPolled := rfl
@[simp] theorem State.rest_exchange : s.rest.exchange = s.exchange := rfl
@[simp] theorem State.rest_loads : s.rest.loads = s.loads := rfl
@[simp] theorem State.rest_reports : s.rest.reports = s.reports := rfl
@[simp] theorem State.rest_reserved : s.rest.reserved = s.reserved := rfl
@[simp] theorem State.rest_clock : s.rest.clock = s.clock := rfl
@[simp] theorem State.rest_chute : s.rest.chute = s.chute := rfl
@[simp] theorem State.rest_causes : s.rest.causes = s.causes := rfl
@[simp] theorem State.rest_doorOpen : s.rest.doorOpen = s.doorOpen := rfl
@[simp] theorem State.rest_coils : s.rest.coils = s.coils := rfl
@[simp] theorem State.rest_purchase :
    s.rest.purchase = if s.card.binding.isSome || s.retained.ledger.c != 0 then .opened else .idle := rfl
@[simp] theorem State.rest_card : s.rest.card = s.card := rfl
@[simp] theorem State.rest_tubes : s.rest.tubes = s.tubes := rfl
@[simp] theorem State.rest_payout : s.rest.payout = s.payout := rfl
@[simp] theorem State.rest_printer : s.rest.printer = s.printer := rfl
@[simp] theorem State.rest_pending : s.rest.pending = s.pending := rfl

/-! ## storeFrame -/

@[simp] theorem State.storeFrame_power (f : Frame) : (s.storeFrame f).power = s.power := rfl
@[simp] theorem State.storeFrame_resetHeld (f : Frame) : (s.storeFrame f).resetHeld = s.resetHeld := rfl
@[simp] theorem State.storeFrame_retainedGood (f : Frame) : (s.storeFrame f).retainedGood = s.retainedGood := rfl
@[simp] theorem State.storeFrame_retained (f : Frame) : (s.storeFrame f).retained = s.retained := rfl
@[simp] theorem State.storeFrame_part (f : Frame) : (s.storeFrame f).part = s.part := rfl
@[simp] theorem State.storeFrame_detached (f : Frame) : (s.storeFrame f).detached = s.detached := rfl
@[simp] theorem State.storeFrame_inhibit (f : Frame) : (s.storeFrame f).inhibit = s.inhibit := rfl
@[simp] theorem State.storeFrame_machineId (f : Frame) : (s.storeFrame f).machineId = s.machineId := rfl
@[simp] theorem State.storeFrame_silenceLimit (f : Frame) : (s.storeFrame f).silenceLimit = s.silenceLimit := rfl
@[simp] theorem State.storeFrame_silenceRunning (f : Frame) : (s.storeFrame f).silenceRunning = s.silenceRunning := rfl
@[simp] theorem State.storeFrame_cRate (f : Frame) : (s.storeFrame f).cRate = s.cRate := rfl
@[simp] theorem State.storeFrame_mRate (f : Frame) : (s.storeFrame f).mRate = s.mRate := rfl
@[simp] theorem State.storeFrame_cRx (f : Frame) :
    (s.storeFrame f).cRx = (frameBytes f).foldl (fun r b => r.store b false false) s.cRx := by rw [State.storeFrame]
@[simp] theorem State.storeFrame_mRx (f : Frame) : (s.storeFrame f).mRx = s.mRx := rfl
@[simp] theorem State.storeFrame_replies (f : Frame) : (s.storeFrame f).replies = s.replies := rfl
@[simp] theorem State.storeFrame_sending (f : Frame) : (s.storeFrame f).sending = s.sending := rfl
@[simp] theorem State.storeFrame_stopping (f : Frame) : (s.storeFrame f).stopping = s.stopping := rfl
@[simp] theorem State.storeFrame_forwardQ (f : Frame) : (s.storeFrame f).forwardQ = s.forwardQ := rfl
@[simp] theorem State.storeFrame_upwardQ (f : Frame) : (s.storeFrame f).upwardQ = s.upwardQ := rfl
@[simp] theorem State.storeFrame_slots (f : Frame) : (s.storeFrame f).slots = s.slots := rfl
@[simp] theorem State.storeFrame_lastPolled (f : Frame) : (s.storeFrame f).lastPolled = s.lastPolled := rfl
@[simp] theorem State.storeFrame_exchange (f : Frame) : (s.storeFrame f).exchange = s.exchange := rfl
@[simp] theorem State.storeFrame_loads (f : Frame) : (s.storeFrame f).loads = s.loads := rfl
@[simp] theorem State.storeFrame_reports (f : Frame) : (s.storeFrame f).reports = s.reports := rfl
@[simp] theorem State.storeFrame_reserved (f : Frame) : (s.storeFrame f).reserved = s.reserved := rfl
@[simp] theorem State.storeFrame_clock (f : Frame) : (s.storeFrame f).clock = s.clock := rfl
@[simp] theorem State.storeFrame_chute (f : Frame) : (s.storeFrame f).chute = s.chute := rfl
@[simp] theorem State.storeFrame_causes (f : Frame) : (s.storeFrame f).causes = s.causes := rfl
@[simp] theorem State.storeFrame_doorOpen (f : Frame) : (s.storeFrame f).doorOpen = s.doorOpen := rfl
@[simp] theorem State.storeFrame_coils (f : Frame) : (s.storeFrame f).coils = s.coils := rfl
@[simp] theorem State.storeFrame_purchase (f : Frame) : (s.storeFrame f).purchase = s.purchase := rfl
@[simp] theorem State.storeFrame_card (f : Frame) : (s.storeFrame f).card = s.card := rfl
@[simp] theorem State.storeFrame_tubes (f : Frame) : (s.storeFrame f).tubes = s.tubes := rfl
@[simp] theorem State.storeFrame_payout (f : Frame) : (s.storeFrame f).payout = s.payout := rfl
@[simp] theorem State.storeFrame_printer (f : Frame) : (s.storeFrame f).printer = s.printer := rfl
@[simp] theorem State.storeFrame_pending (f : Frame) : (s.storeFrame f).pending = s.pending := rfl

end Sys2Proof.Machine
end

