-- ==== Sys2Proof/Laws/Pending.lean ====
section
/-! SUPPORT. Every operation leaves the queue of waiting commands as it is. -/

namespace Sys2Proof.Machine

@[simp] theorem State.issueFree_pending (r : Report) (s : State) :
    (State.issueFree r s).pending = s.pending := by
  unfold State.issueFree
  split <;> simp

@[simp] theorem State.issueReserved_pending (r : Report) (s : State) :
    (State.issueReserved r s).pending = s.pending := by
  unfold State.issueReserved
  split <;> simp

@[simp] theorem State.entryTest_pending (s : State) :
    (State.entryTest s).pending = s.pending := by
  unfold State.entryTest
  split <;> simp

@[simp] theorem State.tubesChanged_pending (s : State) (before : State) :
    (State.tubesChanged s before).pending = s.pending := by
  unfold State.tubesChanged
  split <;> simp

@[simp] theorem State.enterFault_pending (k : FaultKind) (s : State) :
    (State.enterFault k s).pending = s.pending := by
  simp [State.enterFault]

@[simp] theorem State.coilFault_pending (failed : PerCoil Bool) (s : State) :
    (State.coilFault failed s).pending = s.pending := by
  simp [State.coilFault]

@[simp] theorem State.pwmPeriod_pending (sense : PerCoil Sense) (s : State) :
    (State.pwmPeriod sense s).pending = s.pending := by
  unfold State.pwmPeriod
  dsimp only
  (repeat' split) <;> simp

@[simp] theorem State.pullInCheck_pending (ends : PerCoil Bool) (sense : PerCoil Sense) (s : State) :
    (State.pullInCheck ends sense s).pending = s.pending := by
  unfold State.pullInCheck
  dsimp only
  (repeat' split) <;> simp

@[simp] theorem State.diverterChangeover_pending (s : State) :
    (State.diverterChangeover s).pending = s.pending := by
  unfold State.diverterChangeover
  split <;> simp

@[simp] theorem State.serveLoad_pending (kind : TableKind) (generation index total check count : Nat) (bytes : List Byte) (s : State) :
    (State.serveLoad kind generation index total check count bytes s).pending = s.pending := by
  unfold State.serveLoad
  dsimp only
  (repeat' split) <;> simp

@[simp] theorem State.serveDiscard_pending (kind : TableKind) (s : State) :
    (State.serveDiscard kind s).pending = s.pending := by
  unfold State.serveDiscard
  dsimp only
  (repeat' split) <;> simp

@[simp] theorem State.afterActivation_pending (kind : TableKind) (before : State) (s : State) :
    (State.afterActivation kind before s).pending = s.pending := by
  unfold State.afterActivation
  dsimp only
  (repeat' split) <;> simp

@[simp] theorem State.takeActivation_pending (kind : TableKind) (waited : Bool) (s : State) :
    (State.takeActivation kind waited s).pending = s.pending := by
  simp [State.takeActivation]

@[simp] theorem State.fallDue_pending (kind : TableKind) (s : State) :
    (State.fallDue kind s).pending = s.pending := by
  unfold State.fallDue
  dsimp only
  (repeat' split) <;> simp

@[simp] theorem State.takeWaiting_pending (kind : TableKind) (s : State) :
    (State.takeWaiting kind s).pending = s.pending := by
  unfold State.takeWaiting
  dsimp only
  (repeat' split) <;> simp

@[simp] theorem State.testSchedules_pending (s : State) : s.testSchedules.2.pending = s.pending := by
  have key : ∀ (l : List TableKind) (p : Nat × State),
      (l.foldl (fun p k => if p.2.fallsDue k then (p.1 + 1, p.2.fallDue k) else p) p).2.pending = p.2.pending := by
    intro l
    induction l with
    | nil => intro p; rfl
    | cons k ks ih => intro p; rw [List.foldl_cons, ih]; split <;> simp
  exact key allKinds (0, s)

@[simp] theorem State.serveActivate_pending (kind : TableKind) (generation : Word16) (due : Due) (s : State) :
    (State.serveActivate kind generation due s).pending = s.pending := by
  unfold State.serveActivate
  dsimp only
  (repeat' split) <;> simp

@[simp] theorem State.returnCoin_pending (m : Measurement) (s : State) :
    (State.returnCoin m s).pending = s.pending := by
  unfold State.returnCoin
  split <;> simp

@[simp] theorem State.acceptCoin_pending (a : AcceptedCoin) (m : Measurement) (s : State) :
    (State.acceptCoin a m s).pending = s.pending := by
  simp [State.acceptCoin]

@[simp] theorem State.decideCoin_pending (s : State) :
    (State.decideCoin s).pending = s.pending := by
  unfold State.decideCoin
  dsimp only
  (repeat' split) <;> simp

@[simp] theorem State.chuteToIdle_pending (s : State) :
    (State.chuteToIdle s).pending = s.pending := by
  simp [State.chuteToIdle]

@[simp] theorem State.creditCoin_pending (a : AcceptedCoin) (s : State) :
    (State.creditCoin a s).pending = s.pending := by
  unfold State.creditCoin
  split <;> simp

@[simp] theorem State.coinAtC_pending (s : State) :
    (State.coinAtC s).pending = s.pending := by
  unfold State.coinAtC
  split <;> simp

@[simp] theorem State.coinBegins_pending (s : State) :
    (State.coinBegins s).pending = s.pending := by
  simp [State.coinBegins]

@[simp] theorem State.riseIn_pending (s : State) (c : ChuteState) (x : Sensor) : (s.riseIn c x).pending = s.pending := by
  unfold State.riseIn; split <;> simp

@[simp] theorem State.sensorRise_pending (x : Sensor) (ticks : Nat) (s : State) :
    (State.sensorRise x ticks s).pending = s.pending := by
  unfold State.sensorRise
  split <;> simp

@[simp] theorem State.fallIn_pending (s : State) (c : ChuteState) (x : Sensor) : (s.fallIn c x).pending = s.pending := by
  unfold State.fallIn; split <;> simp

@[simp] theorem State.sensorFall_pending (x : Sensor) (ticks : Nat) (s : State) :
    (State.sensorFall x ticks s).pending = s.pending := by
  unfold State.sensorFall
  split <;> simp

@[simp] theorem State.aLimitPasses_pending (s : State) :
    (State.aLimitPasses s).pending = s.pending := by
  unfold State.aLimitPasses
  split <;> simp

@[simp] theorem State.gapLimitPasses_pending (s : State) :
    (State.gapLimitPasses s).pending = s.pending := by
  unfold State.gapLimitPasses
  split <;> simp

@[simp] theorem State.acceptWaitPasses_pending (s : State) :
    (State.acceptWaitPasses s).pending = s.pending := by
  unfold State.acceptWaitPasses
  split <;> simp

@[simp] theorem State.returnWaitPasses_pending (s : State) :
    (State.returnWaitPasses s).pending = s.pending := by
  unfold State.returnWaitPasses
  split <;> simp

@[simp] theorem State.faultClears_pending (s : State) :
    (State.faultClears s).pending = s.pending := by
  simp [State.faultClears]

@[simp] theorem State.idleWaitPasses_pending (s : State) :
    (State.idleWaitPasses s).pending = s.pending := by
  unfold State.idleWaitPasses
  split <;> simp

@[simp] theorem State.serveChuteClear_pending (s : State) :
    (State.serveChuteClear s).pending = s.pending := by
  unfold State.serveChuteClear
  (repeat' split) <;> simp

@[simp] theorem State.endPayout_pending (s : State) :
    (State.endPayout s).pending = s.pending := by
  unfold State.endPayout
  split <;> simp

@[simp] theorem State.startEntry_pending (s : State) :
    (State.startEntry s).pending = s.pending := by
  unfold State.startEntry
  (repeat' split) <;> simp

@[simp] theorem State.runPlan_pending (entries : List PlanEntry) (s : State) :
    (State.runPlan entries s).pending = s.pending := by
  unfold State.runPlan
  (repeat' split) <;> simp

@[simp] theorem State.startPayout_pending (cause : PayoutCause) (s : State) :
    (State.startPayout cause s).pending = s.pending := by
  simp [State.startPayout]

@[simp] theorem State.entryDone_pending (s : State) :
    (State.entryDone s).pending = s.pending := by
  unfold State.entryDone
  (repeat' split) <;> simp

@[simp] theorem State.paidCoin_pending (i : Fin 4) (s : State) :
    (State.paidCoin i s).pending = s.pending := by
  unfold State.paidCoin
  dsimp only
  (repeat' split) <;> simp

@[simp] theorem State.extraCoin_pending (i : Fin 4) (s : State) :
    (State.extraCoin i s).pending = s.pending := by
  simp [State.extraCoin]

@[simp] theorem State.exitPulse_pending (i : Fin 4) (s : State) :
    (State.exitPulse i s).pending = s.pending := by
  unfold State.exitPulse
  split <;> simp

@[simp] theorem State.jam_pending (i : Fin 4) (s : State) :
    (State.jam i s).pending = s.pending := by
  simp [State.jam]

@[simp] theorem State.afterJam_pending (s : State) :
    (State.afterJam s).pending = s.pending := by
  unfold State.afterJam
  (repeat' split) <;> simp

@[simp] theorem State.jamTimeout_pending (i : Fin 4) (s : State) :
    (State.jamTimeout i s).pending = s.pending := by
  unfold State.jamTimeout
  split <;> simp

@[simp] theorem State.trailingEnds_pending (i : Fin 4) (s : State) :
    (State.trailingEnds i s).pending = s.pending := by
  unfold State.trailingEnds
  split <;> simp

@[simp] theorem State.doorChange_pending (isOpen : Bool) (s : State) :
    (State.doorChange isOpen s).pending = s.pending := by
  unfold State.doorChange
  split <;> simp

@[simp] theorem State.leverPress_pending (s : State) :
    (State.leverPress s).pending = s.pending := by
  unfold State.leverPress
  split <;> simp

@[simp] theorem State.acceptOp_pending (o : OpRecord) (slots : Nat) (s : State) :
    (State.acceptOp o slots s).pending = s.pending := by
  simp [State.acceptOp]

@[simp] theorem State.endOp_pending (move : Ledger → Ledger) (report : Report) (s : State) :
    (State.endOp move report s).pending = s.pending := by
  simp [State.endOp]

@[simp] theorem State.comeToRest_pending (s : State) :
    (State.comeToRest s).pending = s.pending := by
  simp [State.comeToRest]

@[simp] theorem State.afterSale_pending (o : OpRecord) (void : Bool) (s : State) :
    (State.afterSale o void s).pending = s.pending := by
  unfold State.afterSale
  split <;> simp

@[simp] theorem State.ticketEnds_pending (failure : Option VoidCause) (s : State) :
    (State.ticketEnds failure s).pending = s.pending := by
  unfold State.ticketEnds
  (repeat' split) <;> simp

@[simp] theorem State.voucherEnds_pending (failure : Option VoidCause) (s : State) :
    (State.voucherEnds failure s).pending = s.pending := by
  unfold State.voucherEnds
  (repeat' split) <;> simp

@[simp] theorem State.serveCancel_pending (s : State) :
    (State.serveCancel s).pending = s.pending := by
  unfold State.serveCancel
  (repeat' split) <;> simp

@[simp] theorem State.serveTube_pending (tube count : Nat) (s : State) :
    (State.serveTube tube count s).pending = s.pending := by
  unfold State.serveTube
  dsimp only
  (repeat' split) <;> simp

@[simp] theorem State.serveClearTotals_pending (s : State) :
    (State.serveClearTotals s).pending = s.pending := by
  unfold State.serveClearTotals
  (repeat' split) <;> simp

@[simp] theorem State.printDuty_pending (s : State) :
    (State.printDuty s).pending = s.pending := by
  unfold State.printDuty
  split <;> simp

@[simp] theorem State.startJob_pending (kind : JobKind) (txn template : Nat) (v : FieldValues) (s : State) :
    (State.startJob kind txn template v s).pending = s.pending := by
  simp [State.startJob]

@[simp] theorem State.receiptEnds_pending (txn : Nat) (failure : Option VoidCause) (s : State) :
    (State.receiptEnds txn failure s).pending = s.pending := by
  simp [State.receiptEnds]

@[simp] theorem State.tellOwner_pending (j : Job) (failure : Option VoidCause) (s : State) :
    (State.tellOwner j failure s).pending = s.pending := by
  unfold State.tellOwner
  split <;> simp

@[simp] theorem State.jobEnds_pending (failure : Option VoidCause) (s : State) :
    (State.jobEnds failure s).pending = s.pending := by
  unfold State.jobEnds
  split <;> simp

@[simp] theorem State.cutTimeout_pending (s : State) :
    (State.cutTimeout s).pending = s.pending := by
  unfold State.cutTimeout
  (repeat' split) <;> simp

@[simp] theorem State.roomAskDelay_pending (s : State) :
    (State.roomAskDelay s).pending = s.pending := by
  unfold State.roomAskDelay
  split <;> simp

@[simp] theorem State.takeState_pending (paper : Paper) (head : Head) (fault : PrinterFault) (s : State) :
    (State.takeState paper head fault s).pending = s.pending := by
  unfold State.takeState
  dsimp only
  (repeat' split) <;> simp

@[simp] theorem State.takeCutDone_pending (tag : Nat) (s : State) :
    (State.takeCutDone tag s).pending = s.pending := by
  unfold State.takeCutDone
  (repeat' split) <;> simp

@[simp] theorem State.takeNotice_pending (s : State) (n : Notice) : (s.takeNotice n).pending = s.pending := by
  unfold State.takeNotice; split <;> simp

@[simp] theorem State.takeNotices_pending (kind : Byte) (payload : List Byte) (s : State) :
    (s.takeNotices kind payload).pending = s.pending := by
  unfold State.takeNotices
  generalize (printerNotices kind payload).getD [] = l
  induction l generalizing s with
  | nil => rfl
  | cons n ns ih => rw [List.foldl_cons, ih]; simp

@[simp] theorem State.lineOutcome_pending (tag : Nat) (valid : Bool) (s : State) :
    (State.lineOutcome tag valid s).pending = s.pending := by
  simp [State.lineOutcome]

@[simp] theorem State.cutOutcome_pending (tag : Nat) (valid : Bool) (s : State) :
    (State.cutOutcome tag valid s).pending = s.pending := by
  simp [State.cutOutcome]

@[simp] theorem State.askOutcome_pending (forRoom valid : Bool) (s : State) :
    (State.askOutcome forRoom valid s).pending = s.pending := by
  simp [State.askOutcome]

@[simp] theorem State.printerAbsent_pending (s : State) :
    (State.printerAbsent s).pending = s.pending := by
  simp [State.printerAbsent]

@[simp] theorem State.serveVoucher_pending (s : State) :
    (State.serveVoucher s).pending = s.pending := by
  unfold State.serveVoucher
  split <;> simp

@[simp] theorem State.serveReprint_pending (s : State) :
    (State.serveReprint s).pending = s.pending := by
  unfold State.serveReprint
  (repeat' split) <;> simp

@[simp] theorem State.carryOut_pending (r : JournalRecord) (o : Resolution) (s : State) :
    (State.carryOut r o s).pending = s.pending := by
  simp [State.carryOut]

@[simp] theorem State.resolve_pending (p : Presentation) (s : State) :
    (State.resolve p s).pending = s.pending := by
  unfold State.resolve
  split <;> simp

@[simp] theorem State.bindCard_pending (p : Presentation) (s : State) :
    (State.bindCard p s).pending = s.pending := by
  unfold State.bindCard
  dsimp only
  (repeat' split) <;> simp

@[simp] theorem State.unbind_pending (s : State) :
    (State.unbind s).pending = s.pending := by
  simp [State.unbind]

@[simp] theorem State.afterUnbind_pending (s : State) :
    (State.afterUnbind s).pending = s.pending := by
  unfold State.afterUnbind
  dsimp only
  (repeat' split) <;> simp

@[simp] theorem State.cardLeaves_pending (s : State) :
    (State.cardLeaves s).pending = s.pending := by
  unfold State.cardLeaves
  (repeat' split) <;> simp

@[simp] theorem State.takeSeen_pending (p : Presentation) (s : State) :
    (State.takeSeen p s).pending = s.pending := by
  unfold State.takeSeen
  (repeat' split) <;> simp

@[simp] theorem State.startWrite_pending (o : OpRecord) (b : Binding) (w : Written) (s : State) :
    (State.startWrite o b w s).pending = s.pending := by
  simp [State.startWrite]

@[simp] theorem State.handReceipt_pending (o : OpRecord) (w : CardWrite) (newBalance : Nat) (s : State) :
    (State.handReceipt o w newBalance s).pending = s.pending := by
  unfold State.handReceipt
  dsimp only
  (repeat' split) <;> simp

@[simp] theorem State.writeEnds_pending (s : State) :
    (State.writeEnds s).pending = s.pending := by
  unfold State.writeEnds
  dsimp only
  (repeat' split) <;> simp

@[simp] theorem State.writeDone_pending (o : OpRecord) (w : CardWrite) (newSequence : Nat) (s : State) :
    (State.writeDone o w newSequence s).pending = s.pending := by
  unfold State.writeDone
  split <;> simp

@[simp] theorem State.writeFail_pending (o : OpRecord) (w : CardWrite) (s : State) :
    (State.writeFail o w s).pending = s.pending := by
  unfold State.writeFail
  split <;> simp

@[simp] theorem State.writeUncertain_pending (o : OpRecord) (w : CardWrite) (cause : UncertainCause) (s : State) :
    (State.writeUncertain o w cause s).pending = s.pending := by
  unfold State.writeUncertain
  dsimp only
  (repeat' split) <;> simp

@[simp] theorem State.takeWritten_pending (txn : Nat) (r : WriteResult) (s : State) :
    (State.takeWritten txn r s).pending = s.pending := by
  unfold State.takeWritten
  (repeat' split) <;> simp

@[simp] theorem State.writeTimeout_pending (s : State) :
    (State.writeTimeout s).pending = s.pending := by
  unfold State.writeTimeout
  (repeat' split) <;> simp

@[simp] theorem State.cardAbsent_pending (s : State) :
    (State.cardAbsent s).pending = s.pending := by
  unfold State.cardAbsent
  dsimp only
  (repeat' split) <;> simp

@[simp] theorem State.takeCardFrame_pending (kind : Byte) (p : List Byte) (s : State) :
    (State.takeCardFrame kind p s).pending = s.pending := by
  unfold State.takeCardFrame
  (repeat' split) <;> simp

@[simp] theorem State.serveTopup_pending (amount : Word16) (receipt : Bool) (s : State) :
    (State.serveTopup amount receipt s).pending = s.pending := by
  unfold State.serveTopup
  split <;> simp

@[simp] theorem State.serveWriteOff_pending (txn : Nat) (s : State) :
    (State.serveWriteOff txn s).pending = s.pending := by
  unfold State.serveWriteOff
  dsimp only
  (repeat' split) <;> simp

@[simp] theorem State.startSale_pending (o : OpRecord) (q : SellRequest) (t : SaleTerms) (s : State) :
    (State.startSale o q t s).pending = s.pending := by
  unfold State.startSale
  split <;> simp

@[simp] theorem State.serveSell_pending (q : SellRequest) (s : State) :
    (State.serveSell q s).pending = s.pending := by
  unfold State.serveSell
  split <;> simp

@[simp] theorem State.passDown_pending (f : Frame) (s : State) :
    (State.passDown f s).pending = s.pending := by
  unfold State.passDown
  split <;> simp

@[simp] theorem State.consume_pending (r : Role) (f : Frame) (s : State) :
    (State.consume r f s).pending = s.pending := by
  unfold State.consume
  split <;> simp

@[simp] theorem State.disposeAnswer_pending (i : Fin 6) (f : Frame) (s : State) :
    (State.disposeAnswer i f s).pending = s.pending := by
  unfold State.disposeAnswer
  dsimp only
  (repeat' split) <;> simp

theorem State.grantWrite_pending {s t : State} (h : s.grantWrite = some t) : t.pending = s.pending := by
  unfold State.grantWrite at h
  repeat' split at h
  all_goals first | (cases h; done) | (simp only [Option.some.injEq] at h; subst h; simp) | (simp only [Option.map_eq_some_iff] at h; obtain ⟨_, _, rfl⟩ := h; simp)

theorem State.grantPrint_pending {s t : State} (h : s.grantPrint = some t) : t.pending = s.pending := by
  unfold State.grantPrint at h
  repeat' split at h
  all_goals first | (cases h; done) | (simp only [Option.some.injEq] at h; subst h; simp) | (simp only [Option.map_eq_some_iff] at h; obtain ⟨_, _, rfl⟩ := h; simp)

theorem State.grantClass3_pending {s t : State} (h : s.grantClass3 = some t) : t.pending = s.pending := by
  unfold State.grantClass3 at h
  repeat' split at h
  all_goals first | (cases h; done) | (simp only [Option.some.injEq] at h; subst h; simp) | (simp only [Option.map_eq_some_iff] at h; obtain ⟨_, _, rfl⟩ := h; simp)

theorem State.grantForward_pending {s t : State} (h : s.grantForward = some t) : t.pending = s.pending := by
  unfold State.grantForward at h
  repeat' split at h
  all_goals first | (cases h; done) | (simp only [Option.some.injEq] at h; subst h; simp) | (simp only [Option.map_eq_some_iff] at h; obtain ⟨_, _, rfl⟩ := h; simp)

theorem State.grantPoll_pending {s t : State} (h : s.grantPoll = some t) : t.pending = s.pending := by
  unfold State.grantPoll at h
  repeat' split at h
  all_goals first | (cases h; done) | (simp only [Option.some.injEq] at h; subst h; simp) | (simp only [Option.map_eq_some_iff] at h; obtain ⟨_, _, rfl⟩ := h; simp)

@[simp] theorem State.grant_pending (s : State) : s.grant.pending = s.pending := by
  unfold State.grant
  split
  · cases h1 : s.grantWrite with
    | some t => simpa using State.grantWrite_pending h1
    | none =>
      cases h2 : s.grantPrint with
      | some t => simpa using State.grantPrint_pending h2
      | none =>
        cases h3 : s.grantClass3 with
        | some t => simpa using State.grantClass3_pending h3
        | none =>
          cases h4 : s.grantForward with
          | some t => simpa using State.grantForward_pending h4
          | none =>
            cases h5 : s.grantPoll with
            | some t => simpa using State.grantPoll_pending h5
            | none => rfl
  · rfl

@[simp] theorem State.issuePresence_pending (r : Role) (discards : Nat) (s : State) :
    (State.issuePresence r discards s).pending = s.pending := by
  unfold State.issuePresence
  split <;> simp

@[simp] theorem State.tellAbsent_pending (r : Role) (s : State) :
    (State.tellAbsent r s).pending = s.pending := by
  unfold State.tellAbsent
  split <;> simp

@[simp] theorem State.slotAbsent_pending (i : Fin 6) (s : State) :
    (State.slotAbsent i s).pending = s.pending := by
  simp [State.slotAbsent]

@[simp] theorem State.tellPresent_pending (r : Role) (s : State) :
    (State.tellPresent r s).pending = s.pending := by
  unfold State.tellPresent
  split <;> simp

@[simp] theorem State.slotPresent_pending (i : Fin 6) (s : State) :
    (State.slotPresent i s).pending = s.pending := by
  simp [State.slotPresent]

@[simp] theorem State.answered_pending (i : Fin 6) (s : State) :
    (State.answered i s).pending = s.pending := by
  unfold State.answered
  split <;> simp

@[simp] theorem State.missed_pending (i : Fin 6) (s : State) :
    (State.missed i s).pending = s.pending := by
  unfold State.missed
  dsimp only
  (repeat' split) <;> simp

@[simp] theorem State.reprobeDue_pending (i : Fin 6) (s : State) :
    (State.reprobeDue i s).pending = s.pending := by
  unfold State.reprobeDue
  split <;> simp

@[simp] theorem State.tellOutcome_pending (o : Owner) (valid : Bool) (s : State) :
    (State.tellOutcome o valid s).pending = s.pending := by
  unfold State.tellOutcome
  split <;> simp

@[simp] theorem State.endValid_pending (i : Fin 6) (o : Owner) (f : Frame) (s : State) :
    (State.endValid i o f s).pending = s.pending := by
  simp [State.endValid]

@[simp] theorem State.endInvalid_pending (i : Fin 6) (o : Owner) (s : State) :
    (State.endInvalid i o s).pending = s.pending := by
  simp [State.endInvalid]

@[simp] theorem State.moduleFrame_pending (f : Frame) (s : State) :
    (State.moduleFrame f s).pending = s.pending := by
  unfold State.moduleFrame
  (repeat' split) <;> simp

@[simp] theorem State.noAnswer_pending (s : State) :
    (State.noAnswer s).pending = s.pending := by
  unfold State.noAnswer
  split <;> simp

@[simp] theorem State.windowPasses_pending (s : State) :
    (State.windowPasses s).pending = s.pending := by
  unfold State.windowPasses
  split <;> simp

@[simp] theorem State.groupEnds_pending (s : State) :
    (State.groupEnds s).pending = s.pending := by
  unfold State.groupEnds
  split <;> simp

@[simp] theorem State.frameSeen_pending (s : State) :
    (State.frameSeen s).pending = s.pending := by
  unfold State.frameSeen
  split <;> simp

/-- A request is refused or served by its owner. -/
@[simp] theorem State.gated_pending (k : Byte) (f : State → State) (s : State) (h : (f s).pending = s.pending) :
    (s.gated k f).pending = s.pending := by
  unfold State.gated; split <;> simp [h]

@[simp] theorem State.setUp_pending (id rate : Nat) (roles : Vector Role 6) (silence : Nat) (s : State) :
    (State.setUp id rate roles silence s).pending = s.pending := by
  simp [State.setUp]

@[simp] theorem State.serveSetup_pending (id : Word16) (rate : Byte) (codes : Vector Byte 6) (silence : Byte) (s : State) :
    (State.serveSetup id rate codes silence s).pending = s.pending := by
  unfold State.serveSetup
  (repeat' split) <;> simp

@[simp] theorem State.serveAlive_pending (s : State) :
    (State.serveAlive s).pending = s.pending := by
  simp [State.serveAlive]

@[simp] theorem State.serveService_pending (on : Bool) (s : State) :
    (State.serveService on s).pending = s.pending := by
  unfold State.serveService
  (repeat' split) <;> simp

@[simp] theorem State.serveInhibit_pending (on : Bool) (s : State) :
    (State.serveInhibit on s).pending = s.pending := by
  simp [State.serveInhibit]

@[simp] theorem State.serveRestart_pending (s : State) :
    (State.serveRestart s).pending = s.pending := by
  simp [State.serveRestart]

@[simp] theorem State.serveClearAll_pending (s : State) :
    (State.serveClearAll s).pending = s.pending := by
  unfold State.serveClearAll
  (repeat' split) <;> simp

@[simp] theorem State.serveClock_pending (day second dayOfWeek : Nat) (s : State) :
    (State.serveClock day second dayOfWeek s).pending = s.pending := by
  unfold State.serveClock
  split <;> simp

@[simp] theorem State.serveQuery_pending (topic index : Byte) (s : State) :
    (State.serveQuery topic index s).pending = s.pending := by
  unfold State.serveQuery
  (repeat' split) <;> simp

@[simp] theorem State.takeSetup_pending (id : Word16) (rate : Byte) (roles : Vector Byte 6) (silence : Byte) (s : State) :
    (State.takeSetup id rate roles silence s).pending = s.pending := by
  simp [State.takeSetup]

@[simp] theorem State.takeLoad_pending (kind : TableKind) (generation : Word16) (index total : Byte) (check count : Word16) (entries : List Byte) (s : State) :
    (State.takeLoad kind generation index total check count entries s).pending = s.pending := by
  unfold State.takeLoad
  (repeat' split) <;> simp

@[simp] theorem State.takeActivate_pending (kind : TableKind) (generation : Word16) (due : Due) (s : State) :
    (State.takeActivate kind generation due s).pending = s.pending := by
  unfold State.takeActivate; exact State.gated_pending _ _ _ (by simp)

@[simp] theorem State.takeSell_pending (product zones : Byte) (concession : Fin 8) (medium : Medium) (keep : Bool) (s : State) :
    (State.takeSell product zones concession medium keep s).pending = s.pending := by
  unfold State.takeSell; exact State.gated_pending _ _ _ (by simp)

@[simp] theorem State.takeClock_pending (day : Word16) (second : Word32) (dayOfWeek : Byte) (s : State) :
    (State.takeClock day second dayOfWeek s).pending = s.pending := by
  unfold State.takeClock; exact State.gated_pending _ _ _ (by simp)

@[simp] theorem State.takeTube_pending (tube count : Byte) (s : State) :
    (State.takeTube tube count s).pending = s.pending := by
  unfold State.takeTube; exact State.gated_pending _ _ _ (by simp)

@[simp] theorem State.takeRequest_pending (i : Instr) (s : State) :
    (State.takeRequest i s).pending = s.pending := by
  unfold State.takeRequest
  split <;> first | (simp; done) | exact State.gated_pending _ _ _ (by simp)

@[simp] theorem State.refuseFormat_pending (kind : Byte) (p : List Byte) (s : State) :
    (State.refuseFormat kind p s).pending = s.pending := by
  unfold State.refuseFormat
  split <;> simp

@[simp] theorem State.disposeRequest_pending (kind : Byte) (p : List Byte) (s : State) :
    (State.disposeRequest kind p s).pending = s.pending := by
  unfold State.disposeRequest
  split <;> simp

@[simp] theorem State.disposeDownward_pending (f : Frame) (s : State) :
    (State.disposeDownward f s).pending = s.pending := by
  unfold State.disposeDownward
  split <;> simp

@[simp] theorem State.disposeFrame_pending (f : Frame) (s : State) :
    (State.disposeFrame f s).pending = s.pending := by
  unfold State.disposeFrame
  (repeat' split) <;> simp

theorem State.onCLine_pending (f : Frame) (g : State → State) (s : State) (h : ∀ t : State, (g t).pending = t.pending) :
    (s.onCLine f g).pending = s.pending := by
  unfold State.onCLine; repeat' split
  all_goals simp [h]

theorem State.onRequest_pending (i : Instr) (g : State → State) (s : State) (h : ∀ t : State, (g t).pending = t.pending) :
    (s.onRequest i g).pending = s.pending := by
  unfold State.onRequest; split <;> simp [State.onCLine_pending, h]

@[simp] theorem State.pumpC_pending (n : Nat) (s : State) : (s.pumpC n).pending = s.pending := by
  induction n generalizing s with
  | zero => rfl
  | succ n ih =>
    unfold State.pumpC
    split
    · rfl
    · split
      · rfl
      · dsimp only
        split <;> simp [ih]

@[simp] theorem State.runC_pending (s : State) : s.runC.pending = s.pending := by unfold State.runC; simp

@[simp] theorem State.pumpM_pending (n : Nat) (s : State) : (s.pumpM n).pending = s.pending := by
  induction n generalizing s with
  | zero => rfl
  | succ n ih =>
    unfold State.pumpM
    split
    · rfl
    · split
      · rfl
      · dsimp only
        split <;> simp [ih]

@[simp] theorem State.runM_pending (s : State) : s.runM.pending = s.pending := by unfold State.runM; simp

@[simp] theorem State.onReceiver_pending (l : Line) (f : Receiver → Receiver) (s : State) :
    (s.onReceiver l f).pending = s.pending := by
  unfold State.onReceiver; repeat' split
  all_goals simp

@[simp] theorem State.characterArrives_pending (l : Line) (value : Byte) (parity stopMark : Bool) (s : State) :
    (State.characterArrives l value parity stopMark s).pending = s.pending := by
  simp [State.characterArrives]

@[simp] theorem State.breakArrives_pending (l : Line) (s : State) :
    (State.breakArrives l s).pending = s.pending := by
  simp [State.breakArrives]

@[simp] theorem State.gapExpires_pending (l : Line) (s : State) :
    (State.gapExpires l s).pending = s.pending := by
  unfold State.gapExpires
  split <;> simp

@[simp] theorem State.takeNext_pending (s : State) :
    (State.takeNext s).pending = s.pending := by
  unfold State.takeNext
  split <;> simp

@[simp] theorem State.transmitEnds_pending (s : State) :
    (State.transmitEnds s).pending = s.pending := by
  unfold State.transmitEnds
  split <;> simp

@[simp] theorem State.transmit_pending (s : State) :
    (State.transmit s).pending = s.pending := by
  unfold State.transmit
  split <;> simp

@[simp] theorem State.silenceExpires_pending (s : State) :
    (State.silenceExpires s).pending = s.pending := by
  unfold State.silenceExpires
  split <;> simp

@[simp] theorem State.secondAdvances_pending (s : State) :
    (State.secondAdvances s).pending = s.pending := by
  unfold State.secondAdvances
  dsimp only
  (repeat' split) <;> simp

@[simp] theorem State.hundredthAdvances_pending (s : State) :
    (State.hundredthAdvances s).pending = s.pending := by
  unfold State.hundredthAdvances
  (repeat' split) <;> simp

@[simp] theorem State.oscillatorStops_pending (s : State) :
    (State.oscillatorStops s).pending = s.pending := by
  unfold State.oscillatorStops
  split <;> simp

@[simp] theorem State.timeBaseRuns_pending (s : State) :
    (State.timeBaseRuns s).pending = s.pending := by
  simp [State.timeBaseRuns]

@[simp] theorem State.startValues_pending (r : Resolved) (c : Clock) (pins : Pins) (s : State) :
    (State.startValues r c pins s).pending = s.pending := by
  simp [State.startValues]

@[simp] theorem State.firstPeriod_pending (s : State) :
    (State.firstPeriod s).pending = s.pending := by
  unfold State.firstPeriod
  split <;> simp

@[simp] theorem State.boot_pending (cold : Bool) (cause : StartCause) (pins : Pins) (s : State) :
    (State.boot cold cause pins s).pending = s.pending := by
  simp [State.boot]

@[simp] theorem State.checkedStart_pending (cause : StartCause) (pins : Pins) (s : State) :
    (State.checkedStart cause pins s).pending = s.pending := by
  unfold State.checkedStart
  split <;> simp

@[simp] theorem State.quiet_pending (s : State) :
    (State.quiet s).pending = s.pending := by
  simp [State.quiet]

@[simp] theorem State.powerReturns_pending (pins : Pins) (s : State) :
    (State.powerReturns pins s).pending = s.pending := by
  unfold State.powerReturns
  dsimp only
  (repeat' split) <;> simp

@[simp] theorem State.powerFails_pending (s : State) :
    (State.powerFails s).pending = s.pending := by
  unfold State.powerFails
  split <;> simp

@[simp] theorem State.resetHolds_pending (s : State) :
    (State.resetHolds s).pending = s.pending := by
  simp [State.resetHolds]

@[simp] theorem State.resetReleases_pending (pins : Pins) (s : State) :
    (State.resetReleases pins s).pending = s.pending := by
  unfold State.resetReleases
  dsimp only
  (repeat' split) <;> simp

@[simp] theorem State.backupFails_pending (s : State) :
    (State.backupFails s).pending = s.pending := by
  unfold State.backupFails
  split <;> simp

@[simp] theorem State.startAfterReply_pending (pins : Pins) (s : State) :
    (State.startAfterReply pins s).pending = s.pending := by
  unfold State.startAfterReply
  split <;> simp

end Sys2Proof.Machine
end

