-- ==== Sys2Proof/Laws/Money.lean ====
section
/-! SUPPORT. The conservation of money (R98): every movement keeps the balance of INSERTED against the nine terms, and so
does every operation; CLEAR TOTALS and a cold start set every term to 0. -/

namespace Sys2Proof.Machine

theorem Move.credit_sum {G : Type} [AddCommGroup G] (i a b c d e f g h k v : G) :
    (i + v) - (a + b + c + d + e + f + (g + v) + h + k) = i - (a + b + c + d + e + f + g + h + k) := by
  abel

/-- R98. -/
@[simp] theorem Move.credit_balance (v : Money) (l : Ledger) : (Move.credit v l).balance = l.balance := by
  simp only [Move.credit, Ledger.balance]
  exact Move.credit_sum l.inserted l.sold l.topped l.paid l.vouchered l.writtenOff l.h l.c l.k l.pp v

theorem Move.commit_sum {G : Type} [AddCommGroup G] (i a b c d e f g h k v : G) :
    i - (a + b + c + d + e + f + (g - v) + (h + v) + k) = i - (a + b + c + d + e + f + g + h + k) := by
  abel

/-- R98. -/
@[simp] theorem Move.commit_balance (v : Money) (l : Ledger) : (Move.commit v l).balance = l.balance := by
  simp only [Move.commit, Ledger.balance]
  exact Move.commit_sum l.inserted l.sold l.topped l.paid l.vouchered l.writtenOff l.h l.c l.k l.pp v

theorem Move.settleSale_sum {G : Type} [AddCommGroup G] (i a b c d e f g h k v : G) :
    i - ((a + h) + b + c + d + e + f + g + 0 + k) = i - (a + b + c + d + e + f + g + h + k) := by
  abel

/-- R98. -/
@[simp] theorem Move.settleSale_balance (l : Ledger) : (Move.settleSale l).balance = l.balance := by
  simp only [Move.settleSale, Ledger.balance]
  exact Move.settleSale_sum l.inserted l.sold l.topped l.paid l.vouchered l.writtenOff l.h l.c l.k l.pp 0

theorem Move.settleTopup_sum {G : Type} [AddCommGroup G] (i a b c d e f g h k v : G) :
    i - (a + (b + h) + c + d + e + f + g + 0 + k) = i - (a + b + c + d + e + f + g + h + k) := by
  abel

/-- R98. -/
@[simp] theorem Move.settleTopup_balance (v : Money) (l : Ledger) : (Move.settleTopup v l).balance = l.balance := by
  simp only [Move.settleTopup, Ledger.balance]
  exact Move.settleTopup_sum l.inserted l.sold l.topped l.paid l.vouchered l.writtenOff l.h l.c l.k l.pp v

theorem Move.settleVoucher_sum {G : Type} [AddCommGroup G] (i a b c d e f g h k v : G) :
    i - (a + b + c + (d + h) + e + f + g + 0 + k) = i - (a + b + c + d + e + f + g + h + k) := by
  abel

/-- R98. -/
@[simp] theorem Move.settleVoucher_balance (l : Ledger) : (Move.settleVoucher l).balance = l.balance := by
  simp only [Move.settleVoucher, Ledger.balance]
  exact Move.settleVoucher_sum l.inserted l.sold l.topped l.paid l.vouchered l.writtenOff l.h l.c l.k l.pp 0

theorem Move.void_sum {G : Type} [AddCommGroup G] (i a b c d e f g h k v : G) :
    i - (a + b + c + d + e + f + (g + h) + 0 + k) = i - (a + b + c + d + e + f + g + h + k) := by
  abel

/-- R98. -/
@[simp] theorem Move.void_balance (l : Ledger) : (Move.void l).balance = l.balance := by
  simp only [Move.void, Ledger.balance]
  exact Move.void_sum l.inserted l.sold l.topped l.paid l.vouchered l.writtenOff l.h l.c l.k l.pp 0

theorem Move.hold_sum {G : Type} [AddCommGroup G] (i a b c d e f g h k v : G) :
    i - (a + b + c + d + e + (f + h) + g + 0 + k) = i - (a + b + c + d + e + f + g + h + k) := by
  abel

/-- R98. -/
@[simp] theorem Move.hold_balance (l : Ledger) : (Move.hold l).balance = l.balance := by
  simp only [Move.hold, Ledger.balance]
  exact Move.hold_sum l.inserted l.sold l.topped l.paid l.vouchered l.writtenOff l.h l.c l.k l.pp 0

theorem Move.startPayout_sum {G : Type} [AddCommGroup G] (i a b c d e f g h k v : G) :
    i - (a + b + c + d + e + f + 0 + h + (k + g)) = i - (a + b + c + d + e + f + g + h + k) := by
  abel

/-- R98. -/
@[simp] theorem Move.startPayout_balance (l : Ledger) : (Move.startPayout l).balance = l.balance := by
  simp only [Move.startPayout, Ledger.balance]
  exact Move.startPayout_sum l.inserted l.sold l.topped l.paid l.vouchered l.writtenOff l.h l.c l.k l.pp 0

theorem Move.endPayout_sum {G : Type} [AddCommGroup G] (i a b c d e f g h k v : G) :
    i - (a + b + c + d + e + f + (g + k) + h + 0) = i - (a + b + c + d + e + f + g + h + k) := by
  abel

/-- R98. -/
@[simp] theorem Move.endPayout_balance (l : Ledger) : (Move.endPayout l).balance = l.balance := by
  simp only [Move.endPayout, Ledger.balance]
  exact Move.endPayout_sum l.inserted l.sold l.topped l.paid l.vouchered l.writtenOff l.h l.c l.k l.pp 0

theorem Move.landedSale_sum {G : Type} [AddCommGroup G] (i a b c d e f g h k v : G) :
    i - ((a + v) + b + c + d + e + (f - v) + g + h + k) = i - (a + b + c + d + e + f + g + h + k) := by
  abel

/-- R98. -/
@[simp] theorem Move.landedSale_balance (v : Money) (l : Ledger) : (Move.landedSale v l).balance = l.balance := by
  simp only [Move.landedSale, Ledger.balance]
  exact Move.landedSale_sum l.inserted l.sold l.topped l.paid l.vouchered l.writtenOff l.h l.c l.k l.pp v

theorem Move.landedTopup_sum {G : Type} [AddCommGroup G] (i a b c d e f g h k v : G) :
    i - (a + (b + v) + c + d + e + (f - v) + g + h + k) = i - (a + b + c + d + e + f + g + h + k) := by
  abel

/-- R98. -/
@[simp] theorem Move.landedTopup_balance (v w : Money) (l : Ledger) : (Move.landedTopup v w l).balance = l.balance := by
  simp only [Move.landedTopup, Ledger.balance]
  exact Move.landedTopup_sum l.inserted l.sold l.topped l.paid l.vouchered l.writtenOff l.h l.c l.k l.pp v

theorem Move.restore_sum {G : Type} [AddCommGroup G] (i a b c d e f g h k v : G) :
    i - (a + b + c + d + e + (f - v) + (g + v) + h + k) = i - (a + b + c + d + e + f + g + h + k) := by
  abel

/-- R98. -/
@[simp] theorem Move.restore_balance (v : Money) (l : Ledger) : (Move.restore v l).balance = l.balance := by
  simp only [Move.restore, Ledger.balance]
  exact Move.restore_sum l.inserted l.sold l.topped l.paid l.vouchered l.writtenOff l.h l.c l.k l.pp v

theorem Move.writeOff_sum {G : Type} [AddCommGroup G] (i a b c d e f g h k v : G) :
    i - (a + b + c + d + (e + v) + (f - v) + g + h + k) = i - (a + b + c + d + e + f + g + h + k) := by
  abel

/-- R98. -/
@[simp] theorem Move.writeOff_balance (v : Money) (l : Ledger) : (Move.writeOff v l).balance = l.balance := by
  simp only [Move.writeOff, Ledger.balance]
  exact Move.writeOff_sum l.inserted l.sold l.topped l.paid l.vouchered l.writtenOff l.h l.c l.k l.pp v

theorem Move.paidCoin_less {G : Type} [AddCommGroup G] (i a b c d e f g h k v : G) :
    i - (a + b + (c + v) + d + e + f + g + h + (k - v)) = i - (a + b + c + d + e + f + g + h + k) := by
  abel

theorem Move.paidCoin_more {G : Type} [AddCommGroup G] (i a b c d e f g h k : G) :
    i - (a + b + (c + k) + d + e + f + g + h + 0) = i - (a + b + c + d + e + f + g + h + k) := by
  abel

/-- R95, R98. -/
@[simp] theorem Move.paidCoin_balance (v : Money) (l : Ledger) : (Move.paidCoin v l).balance = l.balance := by
  unfold Move.paidCoin
  split
  · simp only [Ledger.balance]
    exact Move.paidCoin_less l.inserted l.sold l.topped l.paid l.vouchered l.writtenOff l.h l.c l.k l.pp v
  · simp only [Ledger.balance]
    exact Move.paidCoin_more l.inserted l.sold l.topped l.paid l.vouchered l.writtenOff l.h l.c l.k l.pp

/-- R95, R98. -/
@[simp] theorem Move.extraCoin_balance (v : Money) (l : Ledger) : (Move.extraCoin v l).balance = l.balance := rfl

/-- R100. -/
theorem Move.clearCounters_balance (l : Ledger) (h : l.noMoney = true) : (Move.clearCounters l).balance = 0 := by
  simp only [Ledger.noMoney, Bool.and_eq_true, beq_iff_eq] at h
  obtain ⟨⟨⟨hc, hk⟩, hp⟩, hh⟩ := h
  simp [Move.clearCounters, Ledger.balance, hc, hk, hp, hh]

@[simp] theorem Retained.install_ledger (k : TableKind) (l : Load) (r : Retained) :
    (Retained.install k l r).ledger = r.ledger := by
  cases k <;> rfl

@[simp] theorem JournalRecord.resolution_balance (r : JournalRecord) (o : Resolution) (l : Ledger) :
    (r.resolution o l).balance = l.balance := by
  unfold JournalRecord.resolution
  split
  · split <;> simp
  · simp

@[simp] theorem State.issueFree_balance (r : Report) (s : State) :
    (State.issueFree r s).retained.ledger.balance = s.retained.ledger.balance := by
  unfold State.issueFree
  split <;> simp

@[simp] theorem State.issueReserved_balance (r : Report) (s : State) :
    (State.issueReserved r s).retained.ledger.balance = s.retained.ledger.balance := by
  unfold State.issueReserved
  split <;> simp

@[simp] theorem State.entryTest_balance (s : State) :
    (State.entryTest s).retained.ledger.balance = s.retained.ledger.balance := by
  unfold State.entryTest
  split <;> simp

@[simp] theorem State.tubesChanged_balance (s : State) (before : State) :
    (State.tubesChanged s before).retained.ledger.balance = s.retained.ledger.balance := by
  unfold State.tubesChanged
  split <;> simp

@[simp] theorem State.enterFault_balance (k : FaultKind) (s : State) :
    (State.enterFault k s).retained.ledger.balance = s.retained.ledger.balance := by
  simp [State.enterFault]

@[simp] theorem State.coilFault_balance (failed : PerCoil Bool) (s : State) :
    (State.coilFault failed s).retained.ledger.balance = s.retained.ledger.balance := by
  simp [State.coilFault]

@[simp] theorem State.pwmPeriod_balance (sense : PerCoil Sense) (s : State) :
    (State.pwmPeriod sense s).retained.ledger.balance = s.retained.ledger.balance := by
  unfold State.pwmPeriod
  dsimp only
  (repeat' split) <;> simp

@[simp] theorem State.pullInCheck_balance (ends : PerCoil Bool) (sense : PerCoil Sense) (s : State) :
    (State.pullInCheck ends sense s).retained.ledger.balance = s.retained.ledger.balance := by
  unfold State.pullInCheck
  dsimp only
  (repeat' split) <;> simp

@[simp] theorem State.diverterChangeover_balance (s : State) :
    (State.diverterChangeover s).retained.ledger.balance = s.retained.ledger.balance := by
  unfold State.diverterChangeover
  split <;> simp

@[simp] theorem State.serveLoad_balance (kind : TableKind) (generation index total check count : Nat) (bytes : List Byte) (s : State) :
    (State.serveLoad kind generation index total check count bytes s).retained.ledger.balance = s.retained.ledger.balance := by
  unfold State.serveLoad
  dsimp only
  (repeat' split) <;> simp

@[simp] theorem State.serveDiscard_balance (kind : TableKind) (s : State) :
    (State.serveDiscard kind s).retained.ledger.balance = s.retained.ledger.balance := by
  unfold State.serveDiscard
  dsimp only
  (repeat' split) <;> simp

@[simp] theorem State.afterActivation_balance (kind : TableKind) (before : State) (s : State) :
    (State.afterActivation kind before s).retained.ledger.balance = s.retained.ledger.balance := by
  unfold State.afterActivation
  dsimp only
  (repeat' split) <;> simp

@[simp] theorem State.takeActivation_balance (kind : TableKind) (waited : Bool) (s : State) :
    (State.takeActivation kind waited s).retained.ledger.balance = s.retained.ledger.balance := by
  simp [State.takeActivation]

@[simp] theorem State.fallDue_balance (kind : TableKind) (s : State) :
    (State.fallDue kind s).retained.ledger.balance = s.retained.ledger.balance := by
  unfold State.fallDue
  dsimp only
  (repeat' split) <;> simp

@[simp] theorem State.takeWaiting_balance (kind : TableKind) (s : State) :
    (State.takeWaiting kind s).retained.ledger.balance = s.retained.ledger.balance := by
  unfold State.takeWaiting
  dsimp only
  (repeat' split) <;> simp

@[simp] theorem State.testSchedules_balance (s : State) : s.testSchedules.2.retained.ledger.balance = s.retained.ledger.balance := by
  have key : ∀ (l : List TableKind) (p : Nat × State),
      (l.foldl (fun p k => if p.2.fallsDue k then (p.1 + 1, p.2.fallDue k) else p) p).2.retained.ledger.balance = p.2.retained.ledger.balance := by
    intro l
    induction l with
    | nil => intro p; rfl
    | cons k ks ih => intro p; rw [List.foldl_cons, ih]; split <;> simp
  exact key allKinds (0, s)

@[simp] theorem State.serveActivate_balance (kind : TableKind) (generation : Word16) (due : Due) (s : State) :
    (State.serveActivate kind generation due s).retained.ledger.balance = s.retained.ledger.balance := by
  unfold State.serveActivate
  dsimp only
  (repeat' split) <;> simp

@[simp] theorem State.returnCoin_balance (m : Measurement) (s : State) :
    (State.returnCoin m s).retained.ledger.balance = s.retained.ledger.balance := by
  unfold State.returnCoin
  split <;> simp

@[simp] theorem State.acceptCoin_balance (a : AcceptedCoin) (m : Measurement) (s : State) :
    (State.acceptCoin a m s).retained.ledger.balance = s.retained.ledger.balance := by
  simp [State.acceptCoin]

@[simp] theorem State.decideCoin_balance (s : State) :
    (State.decideCoin s).retained.ledger.balance = s.retained.ledger.balance := by
  unfold State.decideCoin
  dsimp only
  (repeat' split) <;> simp

@[simp] theorem State.chuteToIdle_balance (s : State) :
    (State.chuteToIdle s).retained.ledger.balance = s.retained.ledger.balance := by
  simp [State.chuteToIdle]

@[simp] theorem State.creditCoin_balance (a : AcceptedCoin) (s : State) :
    (State.creditCoin a s).retained.ledger.balance = s.retained.ledger.balance := by
  unfold State.creditCoin
  split <;> simp

@[simp] theorem State.coinAtC_balance (s : State) :
    (State.coinAtC s).retained.ledger.balance = s.retained.ledger.balance := by
  unfold State.coinAtC
  split <;> simp

@[simp] theorem State.coinBegins_balance (s : State) :
    (State.coinBegins s).retained.ledger.balance = s.retained.ledger.balance := by
  simp [State.coinBegins]

@[simp] theorem State.riseIn_balance (s : State) (c : ChuteState) (x : Sensor) : (s.riseIn c x).retained.ledger.balance = s.retained.ledger.balance := by
  unfold State.riseIn; split <;> simp

@[simp] theorem State.sensorRise_balance (x : Sensor) (ticks : Nat) (s : State) :
    (State.sensorRise x ticks s).retained.ledger.balance = s.retained.ledger.balance := by
  unfold State.sensorRise
  split <;> simp

@[simp] theorem State.fallIn_balance (s : State) (c : ChuteState) (x : Sensor) : (s.fallIn c x).retained.ledger.balance = s.retained.ledger.balance := by
  unfold State.fallIn; split <;> simp

@[simp] theorem State.sensorFall_balance (x : Sensor) (ticks : Nat) (s : State) :
    (State.sensorFall x ticks s).retained.ledger.balance = s.retained.ledger.balance := by
  unfold State.sensorFall
  split <;> simp

@[simp] theorem State.aLimitPasses_balance (s : State) :
    (State.aLimitPasses s).retained.ledger.balance = s.retained.ledger.balance := by
  unfold State.aLimitPasses
  split <;> simp

@[simp] theorem State.gapLimitPasses_balance (s : State) :
    (State.gapLimitPasses s).retained.ledger.balance = s.retained.ledger.balance := by
  unfold State.gapLimitPasses
  split <;> simp

@[simp] theorem State.acceptWaitPasses_balance (s : State) :
    (State.acceptWaitPasses s).retained.ledger.balance = s.retained.ledger.balance := by
  unfold State.acceptWaitPasses
  split <;> simp

@[simp] theorem State.returnWaitPasses_balance (s : State) :
    (State.returnWaitPasses s).retained.ledger.balance = s.retained.ledger.balance := by
  unfold State.returnWaitPasses
  split <;> simp

@[simp] theorem State.faultClears_balance (s : State) :
    (State.faultClears s).retained.ledger.balance = s.retained.ledger.balance := by
  simp [State.faultClears]

@[simp] theorem State.idleWaitPasses_balance (s : State) :
    (State.idleWaitPasses s).retained.ledger.balance = s.retained.ledger.balance := by
  unfold State.idleWaitPasses
  split <;> simp

@[simp] theorem State.serveChuteClear_balance (s : State) :
    (State.serveChuteClear s).retained.ledger.balance = s.retained.ledger.balance := by
  unfold State.serveChuteClear
  (repeat' split) <;> simp

@[simp] theorem State.endPayout_balance (s : State) :
    (State.endPayout s).retained.ledger.balance = s.retained.ledger.balance := by
  unfold State.endPayout
  split <;> simp

@[simp] theorem State.startEntry_balance (s : State) :
    (State.startEntry s).retained.ledger.balance = s.retained.ledger.balance := by
  unfold State.startEntry
  (repeat' split) <;> simp

@[simp] theorem State.runPlan_balance (entries : List PlanEntry) (s : State) :
    (State.runPlan entries s).retained.ledger.balance = s.retained.ledger.balance := by
  unfold State.runPlan
  (repeat' split) <;> simp

@[simp] theorem State.startPayout_balance (cause : PayoutCause) (s : State) :
    (State.startPayout cause s).retained.ledger.balance = s.retained.ledger.balance := by
  simp [State.startPayout]

@[simp] theorem State.entryDone_balance (s : State) :
    (State.entryDone s).retained.ledger.balance = s.retained.ledger.balance := by
  unfold State.entryDone
  (repeat' split) <;> simp

@[simp] theorem State.paidCoin_balance (i : Fin 4) (s : State) :
    (State.paidCoin i s).retained.ledger.balance = s.retained.ledger.balance := by
  unfold State.paidCoin
  dsimp only
  (repeat' split) <;> simp

@[simp] theorem State.extraCoin_balance (i : Fin 4) (s : State) :
    (State.extraCoin i s).retained.ledger.balance = s.retained.ledger.balance := by
  simp [State.extraCoin]

@[simp] theorem State.exitPulse_balance (i : Fin 4) (s : State) :
    (State.exitPulse i s).retained.ledger.balance = s.retained.ledger.balance := by
  unfold State.exitPulse
  split <;> simp

@[simp] theorem State.jam_balance (i : Fin 4) (s : State) :
    (State.jam i s).retained.ledger.balance = s.retained.ledger.balance := by
  simp [State.jam]

@[simp] theorem State.afterJam_balance (s : State) :
    (State.afterJam s).retained.ledger.balance = s.retained.ledger.balance := by
  unfold State.afterJam
  (repeat' split) <;> simp

@[simp] theorem State.jamTimeout_balance (i : Fin 4) (s : State) :
    (State.jamTimeout i s).retained.ledger.balance = s.retained.ledger.balance := by
  unfold State.jamTimeout
  split <;> simp

@[simp] theorem State.trailingEnds_balance (i : Fin 4) (s : State) :
    (State.trailingEnds i s).retained.ledger.balance = s.retained.ledger.balance := by
  unfold State.trailingEnds
  split <;> simp

@[simp] theorem State.doorChange_balance (isOpen : Bool) (s : State) :
    (State.doorChange isOpen s).retained.ledger.balance = s.retained.ledger.balance := by
  unfold State.doorChange
  split <;> simp

@[simp] theorem State.leverPress_balance (s : State) :
    (State.leverPress s).retained.ledger.balance = s.retained.ledger.balance := by
  unfold State.leverPress
  split <;> simp

@[simp] theorem State.acceptOp_balance (o : OpRecord) (slots : Nat) (s : State) :
    (State.acceptOp o slots s).retained.ledger.balance = s.retained.ledger.balance := by
  simp [State.acceptOp]

theorem State.endOp_balance (move : Ledger → Ledger) (report : Report) (s : State)
    (h : ∀ l, (move l).balance = l.balance) :
    (State.endOp move report s).retained.ledger.balance = s.retained.ledger.balance := by
  unfold State.endOp State.issueReserved State.issueFree; repeat' split
  all_goals simp [h]

@[simp] theorem State.comeToRest_balance (s : State) :
    (State.comeToRest s).retained.ledger.balance = s.retained.ledger.balance := by
  simp [State.comeToRest]

@[simp] theorem State.afterSale_balance (o : OpRecord) (void : Bool) (s : State) :
    (State.afterSale o void s).retained.ledger.balance = s.retained.ledger.balance := by
  unfold State.afterSale
  split <;> simp

@[simp] theorem State.ticketEnds_balance (failure : Option VoidCause) (s : State) :
    (State.ticketEnds failure s).retained.ledger.balance = s.retained.ledger.balance := by
  unfold State.ticketEnds
  (repeat' split) <;> simp [State.endOp_balance]

@[simp] theorem State.voucherEnds_balance (failure : Option VoidCause) (s : State) :
    (State.voucherEnds failure s).retained.ledger.balance = s.retained.ledger.balance := by
  unfold State.voucherEnds
  (repeat' split) <;> simp [State.endOp_balance]

@[simp] theorem State.serveCancel_balance (s : State) :
    (State.serveCancel s).retained.ledger.balance = s.retained.ledger.balance := by
  unfold State.serveCancel
  (repeat' split) <;> simp

@[simp] theorem State.serveTube_balance (tube count : Nat) (s : State) :
    (State.serveTube tube count s).retained.ledger.balance = s.retained.ledger.balance := by
  unfold State.serveTube
  dsimp only
  (repeat' split) <;> simp

@[simp] theorem State.printDuty_balance (s : State) :
    (State.printDuty s).retained.ledger.balance = s.retained.ledger.balance := by
  unfold State.printDuty
  split <;> simp

@[simp] theorem State.startJob_balance (kind : JobKind) (txn template : Nat) (v : FieldValues) (s : State) :
    (State.startJob kind txn template v s).retained.ledger.balance = s.retained.ledger.balance := by
  simp [State.startJob]

@[simp] theorem State.receiptEnds_balance (txn : Nat) (failure : Option VoidCause) (s : State) :
    (State.receiptEnds txn failure s).retained.ledger.balance = s.retained.ledger.balance := by
  simp [State.receiptEnds]

@[simp] theorem State.tellOwner_balance (j : Job) (failure : Option VoidCause) (s : State) :
    (State.tellOwner j failure s).retained.ledger.balance = s.retained.ledger.balance := by
  unfold State.tellOwner
  split <;> simp

@[simp] theorem State.jobEnds_balance (failure : Option VoidCause) (s : State) :
    (State.jobEnds failure s).retained.ledger.balance = s.retained.ledger.balance := by
  unfold State.jobEnds
  split <;> simp

@[simp] theorem State.cutTimeout_balance (s : State) :
    (State.cutTimeout s).retained.ledger.balance = s.retained.ledger.balance := by
  unfold State.cutTimeout
  (repeat' split) <;> simp

@[simp] theorem State.roomAskDelay_balance (s : State) :
    (State.roomAskDelay s).retained.ledger.balance = s.retained.ledger.balance := by
  unfold State.roomAskDelay
  split <;> simp

@[simp] theorem State.takeState_balance (paper : Paper) (head : Head) (fault : PrinterFault) (s : State) :
    (State.takeState paper head fault s).retained.ledger.balance = s.retained.ledger.balance := by
  unfold State.takeState
  dsimp only
  (repeat' split) <;> simp

@[simp] theorem State.takeCutDone_balance (tag : Nat) (s : State) :
    (State.takeCutDone tag s).retained.ledger.balance = s.retained.ledger.balance := by
  unfold State.takeCutDone
  (repeat' split) <;> simp

@[simp] theorem State.takeNotice_balance (s : State) (n : Notice) : (s.takeNotice n).retained.ledger.balance = s.retained.ledger.balance := by
  unfold State.takeNotice; split <;> simp

@[simp] theorem State.takeNotices_balance (kind : Byte) (payload : List Byte) (s : State) :
    (s.takeNotices kind payload).retained.ledger.balance = s.retained.ledger.balance := by
  unfold State.takeNotices
  generalize (printerNotices kind payload).getD [] = l
  induction l generalizing s with
  | nil => rfl
  | cons n ns ih => rw [List.foldl_cons, ih]; simp

@[simp] theorem State.lineOutcome_balance (tag : Nat) (valid : Bool) (s : State) :
    (State.lineOutcome tag valid s).retained.ledger.balance = s.retained.ledger.balance := by
  simp [State.lineOutcome]

@[simp] theorem State.cutOutcome_balance (tag : Nat) (valid : Bool) (s : State) :
    (State.cutOutcome tag valid s).retained.ledger.balance = s.retained.ledger.balance := by
  simp [State.cutOutcome]

@[simp] theorem State.askOutcome_balance (forRoom valid : Bool) (s : State) :
    (State.askOutcome forRoom valid s).retained.ledger.balance = s.retained.ledger.balance := by
  simp [State.askOutcome]

@[simp] theorem State.printerAbsent_balance (s : State) :
    (State.printerAbsent s).retained.ledger.balance = s.retained.ledger.balance := by
  simp [State.printerAbsent]

@[simp] theorem State.serveVoucher_balance (s : State) :
    (State.serveVoucher s).retained.ledger.balance = s.retained.ledger.balance := by
  unfold State.serveVoucher
  split <;> simp

@[simp] theorem State.serveReprint_balance (s : State) :
    (State.serveReprint s).retained.ledger.balance = s.retained.ledger.balance := by
  unfold State.serveReprint
  (repeat' split) <;> simp

@[simp] theorem State.carryOut_balance (r : JournalRecord) (o : Resolution) (s : State) :
    (State.carryOut r o s).retained.ledger.balance = s.retained.ledger.balance := by
  simp [State.carryOut]

@[simp] theorem State.resolve_balance (p : Presentation) (s : State) :
    (State.resolve p s).retained.ledger.balance = s.retained.ledger.balance := by
  unfold State.resolve
  split <;> simp

@[simp] theorem State.bindCard_balance (p : Presentation) (s : State) :
    (State.bindCard p s).retained.ledger.balance = s.retained.ledger.balance := by
  unfold State.bindCard
  dsimp only
  (repeat' split) <;> simp

@[simp] theorem State.unbind_balance (s : State) :
    (State.unbind s).retained.ledger.balance = s.retained.ledger.balance := by
  simp [State.unbind]

@[simp] theorem State.afterUnbind_balance (s : State) :
    (State.afterUnbind s).retained.ledger.balance = s.retained.ledger.balance := by
  unfold State.afterUnbind
  dsimp only
  (repeat' split) <;> simp

@[simp] theorem State.cardLeaves_balance (s : State) :
    (State.cardLeaves s).retained.ledger.balance = s.retained.ledger.balance := by
  unfold State.cardLeaves
  (repeat' split) <;> simp

@[simp] theorem State.takeSeen_balance (p : Presentation) (s : State) :
    (State.takeSeen p s).retained.ledger.balance = s.retained.ledger.balance := by
  unfold State.takeSeen
  (repeat' split) <;> simp

@[simp] theorem State.startWrite_balance (o : OpRecord) (b : Binding) (w : Written) (s : State) :
    (State.startWrite o b w s).retained.ledger.balance = s.retained.ledger.balance := by
  simp [State.startWrite]

@[simp] theorem State.handReceipt_balance (o : OpRecord) (w : CardWrite) (newBalance : Nat) (s : State) :
    (State.handReceipt o w newBalance s).retained.ledger.balance = s.retained.ledger.balance := by
  unfold State.handReceipt
  dsimp only
  (repeat' split) <;> simp

@[simp] theorem State.writeEnds_balance (s : State) :
    (State.writeEnds s).retained.ledger.balance = s.retained.ledger.balance := by
  unfold State.writeEnds
  dsimp only
  (repeat' split) <;> simp

@[simp] theorem State.writeDone_balance (o : OpRecord) (w : CardWrite) (newSequence : Nat) (s : State) :
    (State.writeDone o w newSequence s).retained.ledger.balance = s.retained.ledger.balance := by
  unfold State.writeDone
  (repeat' split) <;> simp [State.endOp_balance]

@[simp] theorem State.writeFail_balance (o : OpRecord) (w : CardWrite) (s : State) :
    (State.writeFail o w s).retained.ledger.balance = s.retained.ledger.balance := by
  unfold State.writeFail
  (repeat' split) <;> simp [State.endOp_balance]

@[simp] theorem State.writeUncertain_balance (o : OpRecord) (w : CardWrite) (cause : UncertainCause) (s : State) :
    (State.writeUncertain o w cause s).retained.ledger.balance = s.retained.ledger.balance := by
  unfold State.writeUncertain
  try dsimp only
  repeat' first | (simp [State.endOp_balance]; done) | split | (simp [State.endOp_balance, apply_ite State.retained, apply_ite Retained.ledger, apply_ite Ledger.balance]; done)

@[simp] theorem State.takeWritten_balance (txn : Nat) (r : WriteResult) (s : State) :
    (State.takeWritten txn r s).retained.ledger.balance = s.retained.ledger.balance := by
  unfold State.takeWritten
  (repeat' split) <;> simp

@[simp] theorem State.writeTimeout_balance (s : State) :
    (State.writeTimeout s).retained.ledger.balance = s.retained.ledger.balance := by
  unfold State.writeTimeout
  (repeat' split) <;> simp

@[simp] theorem State.cardAbsent_balance (s : State) :
    (State.cardAbsent s).retained.ledger.balance = s.retained.ledger.balance := by
  unfold State.cardAbsent
  dsimp only
  (repeat' split) <;> simp

@[simp] theorem State.takeCardFrame_balance (kind : Byte) (p : List Byte) (s : State) :
    (State.takeCardFrame kind p s).retained.ledger.balance = s.retained.ledger.balance := by
  unfold State.takeCardFrame
  (repeat' split) <;> simp

@[simp] theorem State.serveTopup_balance (amount : Word16) (receipt : Bool) (s : State) :
    (State.serveTopup amount receipt s).retained.ledger.balance = s.retained.ledger.balance := by
  unfold State.serveTopup
  split <;> simp

@[simp] theorem State.serveWriteOff_balance (txn : Nat) (s : State) :
    (State.serveWriteOff txn s).retained.ledger.balance = s.retained.ledger.balance := by
  unfold State.serveWriteOff
  dsimp only
  (repeat' split) <;> simp

@[simp] theorem State.startSale_balance (o : OpRecord) (q : SellRequest) (t : SaleTerms) (s : State) :
    (State.startSale o q t s).retained.ledger.balance = s.retained.ledger.balance := by
  unfold State.startSale
  split <;> simp

@[simp] theorem State.serveSell_balance (q : SellRequest) (s : State) :
    (State.serveSell q s).retained.ledger.balance = s.retained.ledger.balance := by
  unfold State.serveSell
  split <;> simp

@[simp] theorem State.passDown_balance (f : Frame) (s : State) :
    (State.passDown f s).retained.ledger.balance = s.retained.ledger.balance := by
  unfold State.passDown
  split <;> simp

@[simp] theorem State.consume_balance (r : Role) (f : Frame) (s : State) :
    (State.consume r f s).retained.ledger.balance = s.retained.ledger.balance := by
  unfold State.consume
  split <;> simp

@[simp] theorem State.disposeAnswer_balance (i : Fin 6) (f : Frame) (s : State) :
    (State.disposeAnswer i f s).retained.ledger.balance = s.retained.ledger.balance := by
  unfold State.disposeAnswer
  dsimp only
  (repeat' split) <;> simp

theorem State.grantWrite_balance {s t : State} (h : s.grantWrite = some t) : t.retained.ledger.balance = s.retained.ledger.balance := by
  unfold State.grantWrite at h
  repeat' split at h
  all_goals first | (cases h; done) | (simp only [Option.some.injEq] at h; subst h; simp) | (simp only [Option.map_eq_some_iff] at h; obtain ⟨_, _, rfl⟩ := h; simp)

theorem State.grantPrint_balance {s t : State} (h : s.grantPrint = some t) : t.retained.ledger.balance = s.retained.ledger.balance := by
  unfold State.grantPrint at h
  repeat' split at h
  all_goals first | (cases h; done) | (simp only [Option.some.injEq] at h; subst h; simp) | (simp only [Option.map_eq_some_iff] at h; obtain ⟨_, _, rfl⟩ := h; simp)

theorem State.grantClass3_balance {s t : State} (h : s.grantClass3 = some t) : t.retained.ledger.balance = s.retained.ledger.balance := by
  unfold State.grantClass3 at h
  repeat' split at h
  all_goals first | (cases h; done) | (simp only [Option.some.injEq] at h; subst h; simp) | (simp only [Option.map_eq_some_iff] at h; obtain ⟨_, _, rfl⟩ := h; simp)

theorem State.grantForward_balance {s t : State} (h : s.grantForward = some t) : t.retained.ledger.balance = s.retained.ledger.balance := by
  unfold State.grantForward at h
  repeat' split at h
  all_goals first | (cases h; done) | (simp only [Option.some.injEq] at h; subst h; simp) | (simp only [Option.map_eq_some_iff] at h; obtain ⟨_, _, rfl⟩ := h; simp)

theorem State.grantPoll_balance {s t : State} (h : s.grantPoll = some t) : t.retained.ledger.balance = s.retained.ledger.balance := by
  unfold State.grantPoll at h
  repeat' split at h
  all_goals first | (cases h; done) | (simp only [Option.some.injEq] at h; subst h; simp) | (simp only [Option.map_eq_some_iff] at h; obtain ⟨_, _, rfl⟩ := h; simp)

@[simp] theorem State.grant_balance (s : State) : s.grant.retained.ledger.balance = s.retained.ledger.balance := by
  unfold State.grant
  split
  · cases h1 : s.grantWrite with
    | some t => simpa using State.grantWrite_balance h1
    | none =>
      cases h2 : s.grantPrint with
      | some t => simpa using State.grantPrint_balance h2
      | none =>
        cases h3 : s.grantClass3 with
        | some t => simpa using State.grantClass3_balance h3
        | none =>
          cases h4 : s.grantForward with
          | some t => simpa using State.grantForward_balance h4
          | none =>
            cases h5 : s.grantPoll with
            | some t => simpa using State.grantPoll_balance h5
            | none => rfl
  · rfl

@[simp] theorem State.issuePresence_balance (r : Role) (discards : Nat) (s : State) :
    (State.issuePresence r discards s).retained.ledger.balance = s.retained.ledger.balance := by
  unfold State.issuePresence
  split <;> simp

@[simp] theorem State.tellAbsent_balance (r : Role) (s : State) :
    (State.tellAbsent r s).retained.ledger.balance = s.retained.ledger.balance := by
  unfold State.tellAbsent
  split <;> simp

@[simp] theorem State.slotAbsent_balance (i : Fin 6) (s : State) :
    (State.slotAbsent i s).retained.ledger.balance = s.retained.ledger.balance := by
  simp [State.slotAbsent]

@[simp] theorem State.tellPresent_balance (r : Role) (s : State) :
    (State.tellPresent r s).retained.ledger.balance = s.retained.ledger.balance := by
  unfold State.tellPresent
  split <;> simp

@[simp] theorem State.slotPresent_balance (i : Fin 6) (s : State) :
    (State.slotPresent i s).retained.ledger.balance = s.retained.ledger.balance := by
  simp [State.slotPresent]

@[simp] theorem State.answered_balance (i : Fin 6) (s : State) :
    (State.answered i s).retained.ledger.balance = s.retained.ledger.balance := by
  unfold State.answered
  split <;> simp

@[simp] theorem State.missed_balance (i : Fin 6) (s : State) :
    (State.missed i s).retained.ledger.balance = s.retained.ledger.balance := by
  unfold State.missed
  dsimp only
  (repeat' split) <;> simp

@[simp] theorem State.reprobeDue_balance (i : Fin 6) (s : State) :
    (State.reprobeDue i s).retained.ledger.balance = s.retained.ledger.balance := by
  unfold State.reprobeDue
  split <;> simp

@[simp] theorem State.tellOutcome_balance (o : Owner) (valid : Bool) (s : State) :
    (State.tellOutcome o valid s).retained.ledger.balance = s.retained.ledger.balance := by
  unfold State.tellOutcome
  split <;> simp

@[simp] theorem State.endValid_balance (i : Fin 6) (o : Owner) (f : Frame) (s : State) :
    (State.endValid i o f s).retained.ledger.balance = s.retained.ledger.balance := by
  simp [State.endValid]

@[simp] theorem State.endInvalid_balance (i : Fin 6) (o : Owner) (s : State) :
    (State.endInvalid i o s).retained.ledger.balance = s.retained.ledger.balance := by
  simp [State.endInvalid]

@[simp] theorem State.moduleFrame_balance (f : Frame) (s : State) :
    (State.moduleFrame f s).retained.ledger.balance = s.retained.ledger.balance := by
  unfold State.moduleFrame
  (repeat' split) <;> simp

@[simp] theorem State.noAnswer_balance (s : State) :
    (State.noAnswer s).retained.ledger.balance = s.retained.ledger.balance := by
  unfold State.noAnswer
  split <;> simp

@[simp] theorem State.windowPasses_balance (s : State) :
    (State.windowPasses s).retained.ledger.balance = s.retained.ledger.balance := by
  unfold State.windowPasses
  split <;> simp

@[simp] theorem State.groupEnds_balance (s : State) :
    (State.groupEnds s).retained.ledger.balance = s.retained.ledger.balance := by
  unfold State.groupEnds
  split <;> simp

@[simp] theorem State.frameSeen_balance (s : State) :
    (State.frameSeen s).retained.ledger.balance = s.retained.ledger.balance := by
  unfold State.frameSeen
  split <;> simp

/-- A request is refused or served by its owner. -/
@[simp] theorem State.gated_balance (k : Byte) (f : State → State) (s : State) (h : (f s).retained.ledger.balance = s.retained.ledger.balance) :
    (s.gated k f).retained.ledger.balance = s.retained.ledger.balance := by
  unfold State.gated; split <;> simp [h]

@[simp] theorem State.setUp_balance (id rate : Nat) (roles : Vector Role 6) (silence : Nat) (s : State) :
    (State.setUp id rate roles silence s).retained.ledger.balance = s.retained.ledger.balance := by
  simp [State.setUp]

@[simp] theorem State.serveSetup_balance (id : Word16) (rate : Byte) (codes : Vector Byte 6) (silence : Byte) (s : State) :
    (State.serveSetup id rate codes silence s).retained.ledger.balance = s.retained.ledger.balance := by
  unfold State.serveSetup
  (repeat' split) <;> simp

@[simp] theorem State.serveAlive_balance (s : State) :
    (State.serveAlive s).retained.ledger.balance = s.retained.ledger.balance := by
  simp [State.serveAlive]

@[simp] theorem State.serveService_balance (on : Bool) (s : State) :
    (State.serveService on s).retained.ledger.balance = s.retained.ledger.balance := by
  unfold State.serveService
  (repeat' split) <;> simp

@[simp] theorem State.serveInhibit_balance (on : Bool) (s : State) :
    (State.serveInhibit on s).retained.ledger.balance = s.retained.ledger.balance := by
  simp [State.serveInhibit]

@[simp] theorem State.serveRestart_balance (s : State) :
    (State.serveRestart s).retained.ledger.balance = s.retained.ledger.balance := by
  simp [State.serveRestart]

@[simp] theorem State.serveClearAll_balance (s : State) :
    (State.serveClearAll s).retained.ledger.balance = s.retained.ledger.balance := by
  unfold State.serveClearAll
  (repeat' split) <;> simp

@[simp] theorem State.serveClock_balance (day second dayOfWeek : Nat) (s : State) :
    (State.serveClock day second dayOfWeek s).retained.ledger.balance = s.retained.ledger.balance := by
  unfold State.serveClock
  split <;> simp

@[simp] theorem State.serveQuery_balance (topic index : Byte) (s : State) :
    (State.serveQuery topic index s).retained.ledger.balance = s.retained.ledger.balance := by
  unfold State.serveQuery
  (repeat' split) <;> simp

@[simp] theorem State.takeSetup_balance (id : Word16) (rate : Byte) (roles : Vector Byte 6) (silence : Byte) (s : State) :
    (State.takeSetup id rate roles silence s).retained.ledger.balance = s.retained.ledger.balance := by
  simp [State.takeSetup]

@[simp] theorem State.takeLoad_balance (kind : TableKind) (generation : Word16) (index total : Byte) (check count : Word16) (entries : List Byte) (s : State) :
    (State.takeLoad kind generation index total check count entries s).retained.ledger.balance = s.retained.ledger.balance := by
  unfold State.takeLoad
  (repeat' split) <;> simp

@[simp] theorem State.takeActivate_balance (kind : TableKind) (generation : Word16) (due : Due) (s : State) :
    (State.takeActivate kind generation due s).retained.ledger.balance = s.retained.ledger.balance := by
  unfold State.takeActivate; exact State.gated_balance _ _ _ (by simp)

@[simp] theorem State.takeSell_balance (product zones : Byte) (concession : Fin 8) (medium : Medium) (keep : Bool) (s : State) :
    (State.takeSell product zones concession medium keep s).retained.ledger.balance = s.retained.ledger.balance := by
  unfold State.takeSell; exact State.gated_balance _ _ _ (by simp)

@[simp] theorem State.takeClock_balance (day : Word16) (second : Word32) (dayOfWeek : Byte) (s : State) :
    (State.takeClock day second dayOfWeek s).retained.ledger.balance = s.retained.ledger.balance := by
  unfold State.takeClock; exact State.gated_balance _ _ _ (by simp)

@[simp] theorem State.takeTube_balance (tube count : Byte) (s : State) :
    (State.takeTube tube count s).retained.ledger.balance = s.retained.ledger.balance := by
  unfold State.takeTube; exact State.gated_balance _ _ _ (by simp)

@[simp] theorem State.refuseFormat_balance (kind : Byte) (p : List Byte) (s : State) :
    (State.refuseFormat kind p s).retained.ledger.balance = s.retained.ledger.balance := by
  unfold State.refuseFormat
  split <;> simp

@[simp] theorem State.disposeDownward_balance (f : Frame) (s : State) :
    (State.disposeDownward f s).retained.ledger.balance = s.retained.ledger.balance := by
  unfold State.disposeDownward
  split <;> simp

@[simp] theorem State.pumpM_balance (n : Nat) (s : State) : (s.pumpM n).retained.ledger.balance = s.retained.ledger.balance := by
  induction n generalizing s with
  | zero => rfl
  | succ n ih =>
    unfold State.pumpM
    split
    · rfl
    · split
      · rfl
      · dsimp only
        split <;> simp [ih]

@[simp] theorem State.runM_balance (s : State) : s.runM.retained.ledger.balance = s.retained.ledger.balance := by unfold State.runM; simp

@[simp] theorem State.takeNext_balance (s : State) :
    (State.takeNext s).retained.ledger.balance = s.retained.ledger.balance := by
  unfold State.takeNext
  split <;> simp

@[simp] theorem State.silenceExpires_balance (s : State) :
    (State.silenceExpires s).retained.ledger.balance = s.retained.ledger.balance := by
  unfold State.silenceExpires
  split <;> simp

@[simp] theorem State.secondAdvances_balance (s : State) :
    (State.secondAdvances s).retained.ledger.balance = s.retained.ledger.balance := by
  unfold State.secondAdvances
  dsimp only
  (repeat' split) <;> simp

@[simp] theorem State.hundredthAdvances_balance (s : State) :
    (State.hundredthAdvances s).retained.ledger.balance = s.retained.ledger.balance := by
  unfold State.hundredthAdvances
  (repeat' split) <;> simp

@[simp] theorem State.oscillatorStops_balance (s : State) :
    (State.oscillatorStops s).retained.ledger.balance = s.retained.ledger.balance := by
  unfold State.oscillatorStops
  split <;> simp

@[simp] theorem State.timeBaseRuns_balance (s : State) :
    (State.timeBaseRuns s).retained.ledger.balance = s.retained.ledger.balance := by
  simp [State.timeBaseRuns]

@[simp] theorem State.firstPeriod_balance (s : State) :
    (State.firstPeriod s).retained.ledger.balance = s.retained.ledger.balance := by
  unfold State.firstPeriod
  split <;> simp

@[simp] theorem State.quiet_balance (s : State) :
    (State.quiet s).retained.ledger.balance = s.retained.ledger.balance := by
  simp [State.quiet]

@[simp] theorem State.powerFails_balance (s : State) :
    (State.powerFails s).retained.ledger.balance = s.retained.ledger.balance := by
  unfold State.powerFails
  split <;> simp

@[simp] theorem State.resetHolds_balance (s : State) :
    (State.resetHolds s).retained.ledger.balance = s.retained.ledger.balance := by
  simp [State.resetHolds]

@[simp] theorem State.backupFails_balance (s : State) :
    (State.backupFails s).retained.ledger.balance = s.retained.ledger.balance := by
  unfold State.backupFails
  split <;> simp

/-- CLEAR TOTALS keeps a balance of 0 (R100). -/
theorem State.serveClearTotals_balance (s : State) (h : s.retained.ledger.balance = 0) :
    s.serveClearTotals.retained.ledger.balance = 0 := by
  unfold State.serveClearTotals
  split
  · simpa using h
  · split
    · simpa using h
    · next hm => simpa using Move.clearCounters_balance _ (by simpa using hm)

/-- What a request does to a balance of 0 when its owner keeps one. -/
theorem State.gated_conserves (k : Byte) (f : State → State) (s : State)
    (hf : ∀ t : State, t.retained.ledger.balance = 0 → (f t).retained.ledger.balance = 0)
    (h : s.retained.ledger.balance = 0) : (s.gated k f).retained.ledger.balance = 0 := by
  unfold State.gated; split
  · simpa using h
  · exact hf s h

theorem State.takeRequest_conserves (i : Instr) (s : State) (h : s.retained.ledger.balance = 0) :
    (s.takeRequest i).retained.ledger.balance = 0 := by
  unfold State.takeRequest
  split <;> first
    | (simpa using h)
    | exact State.gated_conserves _ _ _ (fun t ht => by simpa using ht) h
    | exact State.gated_conserves _ _ _ (fun t ht => t.serveClearTotals_balance ht) h

theorem State.disposeFrame_conserves (f : Frame) (s : State) (h : s.retained.ledger.balance = 0) :
    (s.disposeFrame f).retained.ledger.balance = 0 := by
  unfold State.disposeFrame State.disposeRequest
  repeat' split
  all_goals first | (simpa using h) | exact State.takeRequest_conserves _ _ h

theorem State.onCLine_conserves (f : Frame) (g : State → State) (s : State)
    (hg : ∀ t : State, t.retained.ledger.balance = 0 → (g t).retained.ledger.balance = 0)
    (h : s.retained.ledger.balance = 0) : (s.onCLine f g).retained.ledger.balance = 0 := by
  unfold State.onCLine
  repeat' split
  · exact h
  · simpa using h
  · exact hg _ (by simpa using h)

theorem State.onRequest_conserves (i : Instr) (g : State → State) (s : State)
    (hg : ∀ t : State, t.retained.ledger.balance = 0 → (g t).retained.ledger.balance = 0)
    (h : s.retained.ledger.balance = 0) : (s.onRequest i g).retained.ledger.balance = 0 := by
  unfold State.onRequest
  split
  · exact State.onCLine_conserves _ _ _ hg h
  · exact h

theorem State.pumpC_conserves (n : Nat) (s : State) (h : s.retained.ledger.balance = 0) :
    (s.pumpC n).retained.ledger.balance = 0 := by
  induction n generalizing s with
  | zero => exact h
  | succ n ih =>
    unfold State.pumpC
    split
    · exact h
    · split
      · exact h
      · dsimp only
        split
        · exact ih _ h
        · exact ih _ h
        · exact ih _ (State.disposeFrame_conserves _ _ (by simpa using h))

theorem State.onReceiver_conserves (l : Line) (f : Receiver → Receiver) (s : State)
    (h : s.retained.ledger.balance = 0) : (s.onReceiver l f).retained.ledger.balance = 0 := by
  unfold State.onReceiver
  repeat' split
  · exact State.pumpC_conserves _ _ h
  · simpa using h
  · exact h

theorem State.gapExpires_conserves (l : Line) (s : State) (h : s.retained.ledger.balance = 0) :
    (s.gapExpires l).retained.ledger.balance = 0 := by
  unfold State.gapExpires
  split
  · exact State.onReceiver_conserves _ _ _ h
  · exact h

theorem State.transmitEnds_conserves (s : State) (h : s.retained.ledger.balance = 0) :
    s.transmitEnds.retained.ledger.balance = 0 := by
  unfold State.transmitEnds
  split <;> exact h

theorem State.transmit_conserves (s : State) (h : s.retained.ledger.balance = 0) :
    s.transmit.retained.ledger.balance = 0 := by
  unfold State.transmit
  split
  · exact State.pumpC_conserves _ _ (by simpa using h)
  · exact h

/-- The warm start's resolution keeps the balance (R98, R173). -/
theorem warmResolve_balance (r : Retained) : (warmResolve r).retained.ledger.balance = r.ledger.balance := by
  have h1 : (resolveOp r).1.ledger.balance = r.ledger.balance := by
    unfold resolveOp; repeat' split
    all_goals simp
  have h2 : ∀ q : Retained, (resolvePayout q).1.ledger.balance = q.ledger.balance := by
    intro q; unfold resolvePayout; split <;> simp
  unfold warmResolve
  simp [h1, h2]

theorem State.boot_conserves (cold : Bool) (cause : StartCause) (pins : Pins) (s : State)
    (h : s.retained.ledger.balance = 0) : (s.boot cold cause pins).retained.ledger.balance = 0 := by
  cases cold
  · simpa [State.boot, State.startValues, warmResolve_balance] using h
  · simp only [State.boot, State.startValues, coldResolve, if_true, State.firstPeriod_balance, State.withLows_retained]
    decide

theorem State.checkedStart_conserves (cause : StartCause) (pins : Pins) (s : State)
    (h : s.retained.ledger.balance = 0) : (s.checkedStart cause pins).retained.ledger.balance = 0 := by
  unfold State.checkedStart
  split <;> exact State.boot_conserves _ _ _ _ h

theorem State.powerReturns_conserves (pins : Pins) (s : State) (h : s.retained.ledger.balance = 0) :
    (s.powerReturns pins).retained.ledger.balance = 0 := by
  unfold State.powerReturns
  split
  · exact h
  · dsimp only
    split
    · exact h
    · exact State.checkedStart_conserves _ _ _ h

theorem State.resetReleases_conserves (pins : Pins) (s : State) (h : s.retained.ledger.balance = 0) :
    (s.resetReleases pins).retained.ledger.balance = 0 := by
  unfold State.resetReleases
  split
  · exact h
  · dsimp only
    split
    · exact State.checkedStart_conserves _ _ _ h
    · exact h

theorem State.startAfterReply_conserves (pins : Pins) (s : State) (h : s.retained.ledger.balance = 0) :
    (s.startAfterReply pins).retained.ledger.balance = 0 := by
  unfold State.startAfterReply
  split
  · exact h
  · exact State.boot_conserves _ _ _ _ h
  · exact State.boot_conserves _ _ _ _ h

end Sys2Proof.Machine
end

