-- ==== Sys2Proof/Laws/Folds.lean ====
section
/-! SUPPORT. What holds of an operation that repeats others: a property that each repeated operation keeps, the whole keeps. -/

namespace Sys2Proof.Machine

/-- The test of every schedule (R43) keeps what a schedule falling due keeps. -/
theorem State.testSchedules_keeps (P : State → Prop) (hP : ∀ k t, P t → P (State.fallDue k t)) (s : State) (h : P s) :
    P s.testSchedules.2 := by
  have key : ∀ (l : List TableKind) (p : Nat × State), P p.2 →
      P (l.foldl (fun p k => if p.2.fallsDue k then (p.1 + 1, p.2.fallDue k) else p) p).2 := by
    intro l
    induction l with
    | nil => exact fun _ hp => hp
    | cons k ks ih =>
      intro p hp
      rw [List.foldl_cons]
      split
      · exact ih _ (hP k _ hp)
      · exact ih _ hp
  exact key allKinds (0, s) h

/-- The notices of one frame (R162) keep what each notice keeps. -/
theorem State.takeNotices_keeps (P : State → Prop) (hP : ∀ n (t : State), P t → P (t.takeNotice n)) (kind : Byte)
    (payload : List Byte) (s : State) (h : P s) : P (s.takeNotices kind payload) := by
  unfold State.takeNotices
  generalize (printerNotices kind payload).getD [] = l
  induction l generalizing s with
  | nil => exact h
  | cons n ns ih => rw [List.foldl_cons]; exact ih _ (hP n s h)

/-- A grant (R13) keeps what each candidate's exchange keeps. -/
theorem State.grant_keeps (P : State → Prop) (s : State) (h : P s) (h1 : ∀ t, s.grantWrite = some t → P t)
    (h2 : ∀ t, s.grantPrint = some t → P t) (h3 : ∀ t, s.grantClass3 = some t → P t)
    (h4 : ∀ t, s.grantForward = some t → P t) (h5 : ∀ t, s.grantPoll = some t → P t) : P s.grant := by
  unfold State.grant
  split
  · cases e1 : s.grantWrite with
    | some t => exact h1 t e1
    | none =>
      cases e2 : s.grantPrint with
      | some t => exact h2 t e2
      | none =>
        cases e3 : s.grantClass3 with
        | some t => exact h3 t e3
        | none =>
          cases e4 : s.grantForward with
          | some t => exact h4 t e4
          | none =>
            cases e5 : s.grantPoll with
            | some t => exact h5 t e5
            | none => exact h
  · exact h

/-- The C-line assembler's run (R3, R5) keeps what taking an item and disposing of a frame keep. -/
theorem State.pumpC_keeps (P : State → Prop) (hr : ∀ (r : Receiver) (t : State), P t → P { t with cRx := r })
    (hf : ∀ (f : Frame) (t : State), P t → P (t.frameSeen.disposeFrame f)) (n : Nat) (s : State) (h : P s) :
    P (s.pumpC n) := by
  induction n generalizing s with
  | zero => exact h
  | succ n ih =>
    unfold State.pumpC
    split
    · exact h
    · split
      · exact h
      · dsimp only
        split
        · exact ih _ (hr _ _ h)
        · exact ih _ (hr _ _ h)
        · exact ih _ (hf _ _ (hr _ _ h))

/-- The M-line assembler's run (R3, R12) keeps what taking an item and the ends of an exchange keep. -/
theorem State.pumpM_keeps (P : State → Prop) (hr : ∀ (r : Receiver) (t : State), P t → P { t with mRx := r })
    (hn : ∀ t : State, P t → P t.noAnswer) (hf : ∀ (f : Frame) (t : State), P t → P (t.moduleFrame f)) (n : Nat)
    (s : State) (h : P s) : P (s.pumpM n) := by
  induction n generalizing s with
  | zero => exact h
  | succ n ih =>
    unfold State.pumpM
    split
    · exact h
    · split
      · exact h
      · dsimp only
        split
        · exact ih _ (hr _ _ h)
        · exact ih _ (hn _ (hr _ _ h))
        · exact ih _ (hf _ _ (hr _ _ h))

end Sys2Proof.Machine
end

