-- ==== Sys2Proof/Laws/Queue.lean ====
section
/-! SUPPORT. The bounds of the report queue (R31) under every operation: a general report takes a reservation or a free slot, and
a fixed report takes the place of the queued one of its kind. -/

namespace Sys2Proof.Machine

/-! ## Kinds and counts -/

@[simp] theorem Report.isFixed_credit (r : CreditReport) : (Report.credit r).isFixed = true := by simp [Report.isFixed]
@[simp] theorem Report.isFixed_chute (r : ChuteReport) : (Report.chute r).isFixed = true := by simp [Report.isFixed]
@[simp] theorem Report.isFixed_tubes (r : Vector TubeReport 4) : (Report.tubes r).isFixed = true := by simp [Report.isFixed]
@[simp] theorem Report.isFixed_printer (r : PrinterReport) : (Report.printer r).isFixed = true := by simp [Report.isFixed]
@[simp] theorem Report.isFixed_card (r : CardReport) : (Report.card r).isFixed = true := by simp [Report.isFixed]
@[simp] theorem Report.isFixed_saleDone (r : SaleReport) : (Report.saleDone r).isFixed = false := by simp [Report.isFixed]
@[simp] theorem Report.isFixed_saleVoid (r : SaleReport) (c : VoidCause) : (Report.saleVoid r c).isFixed = false := by simp [Report.isFixed]
@[simp] theorem Report.isFixed_topupDone (r : TopupReport) : (Report.topupDone r).isFixed = false := by simp [Report.isFixed]
@[simp] theorem Report.isFixed_topupVoid (r : TopupReport) (c : VoidCause) : (Report.topupVoid r c).isFixed = false := by simp [Report.isFixed]
@[simp] theorem Report.isFixed_uncertain (r : RecordReport) (c : UncertainCause) :
    (Report.uncertain r c).isFixed = false := by simp [Report.isFixed]
@[simp] theorem Report.isFixed_resolved (r : RecordReport) (o : Resolution) : (Report.resolved r o).isFixed = false := by simp [Report.isFixed]
@[simp] theorem Report.isFixed_payoutDone (r : PayoutReport) : (Report.payoutDone r).isFixed = false := by simp [Report.isFixed]
@[simp] theorem Report.isFixed_voucherDone (r : VoucherReport) : (Report.voucherDone r).isFixed = false := by simp [Report.isFixed]
@[simp] theorem Report.isFixed_voucherVoid (r : VoucherReport) (c : VoidCause) :
    (Report.voucherVoid r c).isFixed = false := by simp [Report.isFixed]
@[simp] theorem Report.isFixed_receipt (n : Nat) (o : ReceiptOutcome) : (Report.receipt n o).isFixed = false := by simp [Report.isFixed]
@[simp] theorem Report.isFixed_table (r : TableReport) : (Report.table r).isFixed = false := by simp [Report.isFixed]
@[simp] theorem Report.isFixed_start (r : StartReport) : (Report.start r).isFixed = false := by simp [Report.isFixed]

/-- A general report has no fixed KIND (R176). -/
theorem Report.kind_general (r : Report) (h : r.isFixed = false) : 36 < r.kind.toNat := by
  cases r <;> first | (simp at h; done) | simp [Report.kind]

/-- What takes the place of a queued report has its kind (R30). -/
theorem Report.merge_kind {q r m : Report} (h : Report.merge q r = some m) :
    m.kind = q.kind ∧ q.kind = r.kind ∧ m.isFixed = true ∧ q.isFixed = true := by
  unfold Report.merge at h
  split at h
  all_goals first
    | (cases h; done)
    | (simp only [Option.some.injEq] at h; subst h; exact ⟨rfl, rfl, rfl, rfl⟩)

/-- Two reports of one fixed KIND merge (R30). -/
theorem Report.merge_none {q r : Report} (hf : r.isFixed = true) (h : Report.merge q r = none) : q.kind ≠ r.kind := by
  cases q <;> cases r <;> first
    | (simp at hf; done)
    | (simp [Report.merge] at h; done)
    | (simp only [Report.kind]; decide)

theorem generalCount_append (q : List Report) (r : Report) (h : r.isFixed = false) :
    generalCount (q ++ [r]) = generalCount q + 1 := by
  simp [generalCount, h]

theorem kindCount_append (k : Byte) (q : List Report) (r : Report) (h : r.isFixed = false) (hk : k.toNat ≤ 36) :
    kindCount k (q ++ [r]) = kindCount k q := by
  have : r.kind ≠ k := fun e => by have := r.kind_general h; rw [e] at this; omega
  simp [kindCount, this]

theorem generalCount_putFixed (r : Report) (q : List Report) (h : r.isFixed = true) :
    generalCount (putFixed r q) = generalCount q := by
  induction q with
  | nil => simp [putFixed, generalCount, h]
  | cons x xs ih =>
    unfold putFixed
    split
    · next m hm => obtain ⟨-, -, h1, h2⟩ := Report.merge_kind hm; simp [generalCount, h1, h2]
    · simp only [generalCount, List.filter_cons] at ih ⊢
      split <;> simp [ih]

/-- The kinds queued are as before but for one report of the kind put, which is then queued once more only where none
was (R30). -/
theorem kindCount_putFixed (k : Byte) (r : Report) (q : List Report) (h : r.isFixed = true) :
    kindCount k (putFixed r q) = if r.kind = k then max 1 (kindCount k q) else kindCount k q := by
  induction q with
  | nil => by_cases e : r.kind = k <;> simp [putFixed, kindCount, e]
  | cons x xs ih =>
    unfold putFixed
    split
    · next m hm =>
      obtain ⟨h1, h2, -, -⟩ := Report.merge_kind hm
      have h3 : m.kind = r.kind := h1.trans h2
      by_cases e : r.kind = k
      · simp [kindCount, h3, h2, e]
      · simp [kindCount, h3, h2, e]
    · next hm =>
      have h1 := Report.merge_none h hm
      by_cases e : r.kind = k
      · have : x.kind ≠ k := fun e' => h1 (e'.trans e.symm)
        simp only [kindCount, List.filter_cons, e] at ih ⊢
        simp [this, ih]
      · simp only [kindCount, List.filter_cons, e] at ih ⊢
        split <;> simp [ih]

/-! ## The bounds -/

@[simp] theorem QueueBounds.put {q : List Report} {n : Nat} {r : Report} (h : QueueBounds q n)
    (hr : r.isFixed = true) : QueueBounds (putFixed r q) n where
  general := by rw [generalCount_putFixed r q hr]; exact h.general
  fixed k h1 h2 := by
    rw [kindCount_putFixed k r q hr]
    have := h.fixed k h1 h2
    split <;> omega

theorem QueueBounds.append {q : List Report} {n : Nat} {r : Report} (h : QueueBounds q (n + 1))
    (hr : r.isFixed = false) : QueueBounds (q ++ [r]) n where
  general := by rw [generalCount_append q r hr]; have := h.general; omega
  fixed k h1 h2 := by rw [kindCount_append k q r hr h2]; exact h.fixed k h1 h2

@[simp] theorem QueueBounds.release {q : List Report} {n : Nat} (h : QueueBounds q n) : QueueBounds q (n - 1) where
  general := by have := h.general; omega
  fixed := h.fixed

/-- A general report leaves, or a fixed one (R6). -/
theorem QueueBounds.tail {q : List Report} {n : Nat} {r : Report} (h : QueueBounds (r :: q) n) : QueueBounds q n where
  general := by
    have := h.general
    simp only [generalCount, List.filter_cons] at this ⊢
    split at this
    · simp only [List.length_cons] at this; omega
    · exact this
  fixed k h1 h2 := by
    have := h.fixed k h1 h2
    simp only [kindCount, List.filter_cons] at this ⊢
    split at this
    · simp only [List.length_cons] at this; omega
    · exact this

/-- A reservation within the free slots keeps the bounds (R31). -/
theorem State.reserve_queue (n : Nat) (s : State) (h : QueueBounds s.reports s.reserved) (hn : n ≤ s.freeSlots) :
    QueueBounds s.reports (s.reserved + n) where
  general := by have := h.general; simp only [State.freeSlots] at hn; omega
  fixed := h.fixed

/-- The bounds a free slot leaves for one general report more. -/
theorem State.free_queue (s : State) (h : QueueBounds s.reports s.reserved) (hn : 0 < s.freeSlots) :
    QueueBounds s.reports (s.reserved + 1) := s.reserve_queue 1 h hn

/-! ## Every operation -/

@[simp] theorem State.issueFree_queue (r : Report) (s : State) (h : QueueBounds s.reports s.reserved)
    (hr : r.isFixed = false) : QueueBounds (s.issueFree r).reports (s.issueFree r).reserved := by
  unfold State.issueFree
  split
  · next hn => exact (s.free_queue h hn).append hr
  · exact h

@[simp] theorem State.issueReserved_queue (r : Report) (s : State) (h : QueueBounds s.reports s.reserved)
    (hr : r.isFixed = false) : QueueBounds (s.issueReserved r).reports (s.issueReserved r).reserved := by
  unfold State.issueReserved
  split
  · next hn => exact QueueBounds.append (n := s.reserved - 1) (by rwa [Nat.sub_add_cancel hn]) hr
  · exact s.issueFree_queue r h hr

@[simp] theorem State.entryTest_queue (s : State) (h : QueueBounds s.reports s.reserved) :
    QueueBounds (State.entryTest s).reports (State.entryTest s).reserved := by
  unfold State.entryTest
  split <;> simp (maxDischargeDepth := 12) -implicitDefEqProofs [h]

@[simp] theorem State.tubesChanged_queue (s : State) (before : State) (h : QueueBounds s.reports s.reserved) :
    QueueBounds (State.tubesChanged s before).reports (State.tubesChanged s before).reserved := by
  unfold State.tubesChanged
  split <;> simp (maxDischargeDepth := 12) -implicitDefEqProofs [h]

@[simp] theorem State.enterFault_queue (k : FaultKind) (s : State) (h : QueueBounds s.reports s.reserved) :
    QueueBounds (State.enterFault k s).reports (State.enterFault k s).reserved := by
  simp (maxDischargeDepth := 12) -implicitDefEqProofs [State.enterFault, h]

@[simp] theorem State.coilFault_queue (failed : PerCoil Bool) (s : State) (h : QueueBounds s.reports s.reserved) :
    QueueBounds (State.coilFault failed s).reports (State.coilFault failed s).reserved := by
  simp (maxDischargeDepth := 12) -implicitDefEqProofs [State.coilFault, h]

@[simp] theorem State.pwmPeriod_queue (sense : PerCoil Sense) (s : State) (h : QueueBounds s.reports s.reserved) :
    QueueBounds (State.pwmPeriod sense s).reports (State.pwmPeriod sense s).reserved := by
  unfold State.pwmPeriod
  dsimp only
  (repeat' split) <;> simp (maxDischargeDepth := 12) -implicitDefEqProofs [h]

@[simp] theorem State.pullInCheck_queue (ends : PerCoil Bool) (sense : PerCoil Sense) (s : State) (h : QueueBounds s.reports s.reserved) :
    QueueBounds (State.pullInCheck ends sense s).reports (State.pullInCheck ends sense s).reserved := by
  unfold State.pullInCheck
  dsimp only
  (repeat' split) <;> simp (maxDischargeDepth := 12) -implicitDefEqProofs [h]

@[simp] theorem State.diverterChangeover_queue (s : State) (h : QueueBounds s.reports s.reserved) :
    QueueBounds (State.diverterChangeover s).reports (State.diverterChangeover s).reserved := by
  unfold State.diverterChangeover
  split <;> simp (maxDischargeDepth := 12) -implicitDefEqProofs [h]

@[simp] theorem State.serveLoad_queue (kind : TableKind) (generation index total check count : Nat) (bytes : List Byte) (s : State) (h : QueueBounds s.reports s.reserved) :
    QueueBounds (State.serveLoad kind generation index total check count bytes s).reports (State.serveLoad kind generation index total check count bytes s).reserved := by
  unfold State.serveLoad
  dsimp only
  (repeat' split) <;> simp (maxDischargeDepth := 12) -implicitDefEqProofs [h]

@[simp] theorem State.serveDiscard_queue (kind : TableKind) (s : State) (h : QueueBounds s.reports s.reserved) :
    QueueBounds (State.serveDiscard kind s).reports (State.serveDiscard kind s).reserved := by
  unfold State.serveDiscard
  dsimp only
  (repeat' split) <;> simp (maxDischargeDepth := 12) -implicitDefEqProofs [h]

@[simp] theorem State.afterActivation_queue (kind : TableKind) (before : State) (s : State) (h : QueueBounds s.reports s.reserved) :
    QueueBounds (State.afterActivation kind before s).reports (State.afterActivation kind before s).reserved := by
  unfold State.afterActivation
  dsimp only
  (repeat' split) <;> simp (maxDischargeDepth := 12) -implicitDefEqProofs [h]

@[simp] theorem State.takeActivation_queue (kind : TableKind) (waited : Bool) (s : State) (h : QueueBounds s.reports s.reserved) :
    QueueBounds (State.takeActivation kind waited s).reports (State.takeActivation kind waited s).reserved := by
  simp (maxDischargeDepth := 12) -implicitDefEqProofs [State.takeActivation, h]

@[simp] theorem State.fallDue_queue (kind : TableKind) (s : State) (h : QueueBounds s.reports s.reserved) :
    QueueBounds (State.fallDue kind s).reports (State.fallDue kind s).reserved := by
  unfold State.fallDue
  dsimp only
  (repeat' split) <;> simp (maxDischargeDepth := 12) -implicitDefEqProofs [h]

@[simp] theorem State.takeWaiting_queue (kind : TableKind) (s : State) (h : QueueBounds s.reports s.reserved) :
    QueueBounds (State.takeWaiting kind s).reports (State.takeWaiting kind s).reserved := by
  unfold State.takeWaiting
  dsimp only
  (repeat' split) <;> simp (maxDischargeDepth := 12) -implicitDefEqProofs [h]

@[simp] theorem State.testSchedules_queue (s : State) (h : QueueBounds s.reports s.reserved) : QueueBounds s.testSchedules.2.reports s.testSchedules.2.reserved :=
  State.testSchedules_keeps (fun t => QueueBounds t.reports t.reserved) (fun k t ht => State.fallDue_queue k t ht) s h

theorem activateRefusal_free (kind : TableKind) (g : Nat) (due : Due) (s : State)
    (h : activateRefusal kind g due s = none) : 1 ≤ s.freeSlots := by
  unfold activateRefusal at h
  dsimp only at h
  repeat' split at h
  all_goals first | (cases h; done) | omega

@[simp] theorem State.serveActivate_queue (kind : TableKind) (generation : Word16) (due : Due) (s : State)
    (h : QueueBounds s.reports s.reserved) :
    QueueBounds (s.serveActivate kind generation due).reports (s.serveActivate kind generation due).reserved := by
  unfold State.serveActivate
  split
  · simpa using h
  · next hn =>
    have hb := s.reserve_queue 1 h (activateRefusal_free _ _ _ _ hn)
    dsimp only
    split
    · simp only [State.reply_reports, State.reply_reserved]
      exact State.fallDue_queue _ _ hb
    · exact hb

@[simp] theorem State.returnCoin_queue (m : Measurement) (s : State) (h : QueueBounds s.reports s.reserved) :
    QueueBounds (State.returnCoin m s).reports (State.returnCoin m s).reserved := by
  unfold State.returnCoin
  split <;> simp (maxDischargeDepth := 12) -implicitDefEqProofs [h]

@[simp] theorem State.acceptCoin_queue (a : AcceptedCoin) (m : Measurement) (s : State) (h : QueueBounds s.reports s.reserved) :
    QueueBounds (State.acceptCoin a m s).reports (State.acceptCoin a m s).reserved := by
  simp (maxDischargeDepth := 12) -implicitDefEqProofs [State.acceptCoin, h]

@[simp] theorem State.decideCoin_queue (s : State) (h : QueueBounds s.reports s.reserved) :
    QueueBounds (State.decideCoin s).reports (State.decideCoin s).reserved := by
  unfold State.decideCoin
  dsimp only
  (repeat' split) <;> simp (maxDischargeDepth := 12) -implicitDefEqProofs [h]

@[simp] theorem State.chuteToIdle_queue (s : State) (h : QueueBounds s.reports s.reserved) :
    QueueBounds (State.chuteToIdle s).reports (State.chuteToIdle s).reserved := by
  simp (maxDischargeDepth := 12) -implicitDefEqProofs [State.chuteToIdle, h]

@[simp] theorem State.creditCoin_queue (a : AcceptedCoin) (s : State) (h : QueueBounds s.reports s.reserved) :
    QueueBounds (State.creditCoin a s).reports (State.creditCoin a s).reserved := by
  unfold State.creditCoin
  split <;> simp (maxDischargeDepth := 12) -implicitDefEqProofs [h]

@[simp] theorem State.coinAtC_queue (s : State) (h : QueueBounds s.reports s.reserved) :
    QueueBounds (State.coinAtC s).reports (State.coinAtC s).reserved := by
  unfold State.coinAtC
  split <;> simp (maxDischargeDepth := 12) -implicitDefEqProofs [h]

@[simp] theorem State.coinBegins_queue (s : State) (h : QueueBounds s.reports s.reserved) :
    QueueBounds (State.coinBegins s).reports (State.coinBegins s).reserved := by
  simp (maxDischargeDepth := 12) -implicitDefEqProofs [State.coinBegins, h]

@[simp] theorem State.riseIn_queue (s : State) (c : ChuteState) (x : Sensor) (h : QueueBounds s.reports s.reserved) : QueueBounds (s.riseIn c x).reports (s.riseIn c x).reserved := by
  unfold State.riseIn; split <;> simp (maxDischargeDepth := 12) -implicitDefEqProofs [h]

@[simp] theorem State.sensorRise_queue (x : Sensor) (ticks : Nat) (s : State) (h : QueueBounds s.reports s.reserved) :
    QueueBounds (State.sensorRise x ticks s).reports (State.sensorRise x ticks s).reserved := by
  unfold State.sensorRise
  split <;> simp (maxDischargeDepth := 12) -implicitDefEqProofs [h]

@[simp] theorem State.fallIn_queue (s : State) (c : ChuteState) (x : Sensor) (h : QueueBounds s.reports s.reserved) : QueueBounds (s.fallIn c x).reports (s.fallIn c x).reserved := by
  unfold State.fallIn; split <;> simp (maxDischargeDepth := 12) -implicitDefEqProofs [h]

@[simp] theorem State.sensorFall_queue (x : Sensor) (ticks : Nat) (s : State) (h : QueueBounds s.reports s.reserved) :
    QueueBounds (State.sensorFall x ticks s).reports (State.sensorFall x ticks s).reserved := by
  unfold State.sensorFall
  split <;> simp (maxDischargeDepth := 12) -implicitDefEqProofs [h]

@[simp] theorem State.aLimitPasses_queue (s : State) (h : QueueBounds s.reports s.reserved) :
    QueueBounds (State.aLimitPasses s).reports (State.aLimitPasses s).reserved := by
  unfold State.aLimitPasses
  split <;> simp (maxDischargeDepth := 12) -implicitDefEqProofs [h]

@[simp] theorem State.gapLimitPasses_queue (s : State) (h : QueueBounds s.reports s.reserved) :
    QueueBounds (State.gapLimitPasses s).reports (State.gapLimitPasses s).reserved := by
  unfold State.gapLimitPasses
  split <;> simp (maxDischargeDepth := 12) -implicitDefEqProofs [h]

@[simp] theorem State.acceptWaitPasses_queue (s : State) (h : QueueBounds s.reports s.reserved) :
    QueueBounds (State.acceptWaitPasses s).reports (State.acceptWaitPasses s).reserved := by
  unfold State.acceptWaitPasses
  split <;> simp (maxDischargeDepth := 12) -implicitDefEqProofs [h]

@[simp] theorem State.returnWaitPasses_queue (s : State) (h : QueueBounds s.reports s.reserved) :
    QueueBounds (State.returnWaitPasses s).reports (State.returnWaitPasses s).reserved := by
  unfold State.returnWaitPasses
  split <;> simp (maxDischargeDepth := 12) -implicitDefEqProofs [h]

@[simp] theorem State.faultClears_queue (s : State) (h : QueueBounds s.reports s.reserved) :
    QueueBounds (State.faultClears s).reports (State.faultClears s).reserved := by
  simp (maxDischargeDepth := 12) -implicitDefEqProofs [State.faultClears, h]

@[simp] theorem State.idleWaitPasses_queue (s : State) (h : QueueBounds s.reports s.reserved) :
    QueueBounds (State.idleWaitPasses s).reports (State.idleWaitPasses s).reserved := by
  unfold State.idleWaitPasses
  split <;> simp (maxDischargeDepth := 12) -implicitDefEqProofs [h]

@[simp] theorem State.serveChuteClear_queue (s : State) (h : QueueBounds s.reports s.reserved) :
    QueueBounds (State.serveChuteClear s).reports (State.serveChuteClear s).reserved := by
  unfold State.serveChuteClear
  (repeat' split) <;> simp (maxDischargeDepth := 12) -implicitDefEqProofs [h]

@[simp] theorem State.endPayout_queue (s : State) (h : QueueBounds s.reports s.reserved) :
    QueueBounds (State.endPayout s).reports (State.endPayout s).reserved := by
  unfold State.endPayout
  split <;> simp (maxDischargeDepth := 12) -implicitDefEqProofs [h]

@[simp] theorem State.startEntry_queue (s : State) (h : QueueBounds s.reports s.reserved) :
    QueueBounds (State.startEntry s).reports (State.startEntry s).reserved := by
  unfold State.startEntry
  (repeat' split) <;> simp (maxDischargeDepth := 12) -implicitDefEqProofs [h]

@[simp] theorem State.runPlan_queue (entries : List PlanEntry) (s : State) (h : QueueBounds s.reports s.reserved) :
    QueueBounds (State.runPlan entries s).reports (State.runPlan entries s).reserved := by
  unfold State.runPlan
  (repeat' split) <;> simp (maxDischargeDepth := 12) -implicitDefEqProofs [h]

@[simp] theorem State.startPayout_queue (cause : PayoutCause) (s : State) (h : QueueBounds s.reports s.reserved) :
    QueueBounds (State.startPayout cause s).reports (State.startPayout cause s).reserved := by
  simp (maxDischargeDepth := 12) -implicitDefEqProofs [State.startPayout, h]

@[simp] theorem State.entryDone_queue (s : State) (h : QueueBounds s.reports s.reserved) :
    QueueBounds (State.entryDone s).reports (State.entryDone s).reserved := by
  unfold State.entryDone
  (repeat' split) <;> simp (maxDischargeDepth := 12) -implicitDefEqProofs [h]

@[simp] theorem State.paidCoin_queue (i : Fin 4) (s : State) (h : QueueBounds s.reports s.reserved) :
    QueueBounds (State.paidCoin i s).reports (State.paidCoin i s).reserved := by
  unfold State.paidCoin
  dsimp only
  (repeat' split) <;> simp (maxDischargeDepth := 12) -implicitDefEqProofs [h]

@[simp] theorem State.extraCoin_queue (i : Fin 4) (s : State) (h : QueueBounds s.reports s.reserved) :
    QueueBounds (State.extraCoin i s).reports (State.extraCoin i s).reserved := by
  simp (maxDischargeDepth := 12) -implicitDefEqProofs [State.extraCoin, h]

@[simp] theorem State.exitPulse_queue (i : Fin 4) (s : State) (h : QueueBounds s.reports s.reserved) :
    QueueBounds (State.exitPulse i s).reports (State.exitPulse i s).reserved := by
  unfold State.exitPulse
  split <;> simp (maxDischargeDepth := 12) -implicitDefEqProofs [h]

@[simp] theorem State.jam_queue (i : Fin 4) (s : State) (h : QueueBounds s.reports s.reserved) :
    QueueBounds (State.jam i s).reports (State.jam i s).reserved := by
  simp (maxDischargeDepth := 12) -implicitDefEqProofs [State.jam, h]

@[simp] theorem State.afterJam_queue (s : State) (h : QueueBounds s.reports s.reserved) :
    QueueBounds (State.afterJam s).reports (State.afterJam s).reserved := by
  unfold State.afterJam
  (repeat' split) <;> simp (maxDischargeDepth := 12) -implicitDefEqProofs [h]

@[simp] theorem State.jamTimeout_queue (i : Fin 4) (s : State) (h : QueueBounds s.reports s.reserved) :
    QueueBounds (State.jamTimeout i s).reports (State.jamTimeout i s).reserved := by
  unfold State.jamTimeout
  split <;> simp (maxDischargeDepth := 12) -implicitDefEqProofs [h]

@[simp] theorem State.trailingEnds_queue (i : Fin 4) (s : State) (h : QueueBounds s.reports s.reserved) :
    QueueBounds (State.trailingEnds i s).reports (State.trailingEnds i s).reserved := by
  unfold State.trailingEnds
  split <;> simp (maxDischargeDepth := 12) -implicitDefEqProofs [h]

@[simp] theorem State.doorChange_queue (isOpen : Bool) (s : State) (h : QueueBounds s.reports s.reserved) :
    QueueBounds (State.doorChange isOpen s).reports (State.doorChange isOpen s).reserved := by
  unfold State.doorChange
  split <;> simp (maxDischargeDepth := 12) -implicitDefEqProofs [h]

@[simp] theorem State.leverPress_queue (s : State) (h : QueueBounds s.reports s.reserved) :
    QueueBounds s.leverPress.reports s.leverPress.reserved := by
  unfold State.leverPress
  split
  · next hl =>
    refine State.startPayout_queue _ _ (s.free_queue h ?_)
    simp only [State.leverTaken, Bool.and_eq_true, decide_eq_true_eq] at hl
    exact hl.2
  · exact h

theorem State.acceptOp_queue (o : OpRecord) (slots : Nat) (s : State) (h : QueueBounds s.reports s.reserved)
    (hn : slots ≤ s.freeSlots) : QueueBounds (s.acceptOp o slots).reports (s.acceptOp o slots).reserved := by
  unfold State.acceptOp
  simpa using (s.reserve_queue slots h hn).put rfl

@[simp] theorem State.endOp_queue (move : Ledger → Ledger) (report : Report) (s : State)
    (h : QueueBounds s.reports s.reserved) (hr : report.isFixed = false) :
    QueueBounds (s.endOp move report).reports (s.endOp move report).reserved := by
  unfold State.endOp
  simpa using State.issueReserved_queue report (s.onLedger move) h hr

@[simp] theorem State.comeToRest_queue (s : State) (h : QueueBounds s.reports s.reserved) :
    QueueBounds (State.comeToRest s).reports (State.comeToRest s).reserved := by
  simp (maxDischargeDepth := 12) -implicitDefEqProofs [State.comeToRest, h]

@[simp] theorem State.afterSale_queue (o : OpRecord) (void : Bool) (s : State) (h : QueueBounds s.reports s.reserved) :
    QueueBounds (State.afterSale o void s).reports (State.afterSale o void s).reserved := by
  unfold State.afterSale
  split <;> simp (maxDischargeDepth := 12) -implicitDefEqProofs [h]

@[simp] theorem State.ticketEnds_queue (failure : Option VoidCause) (s : State) (h : QueueBounds s.reports s.reserved) :
    QueueBounds (State.ticketEnds failure s).reports (State.ticketEnds failure s).reserved := by
  unfold State.ticketEnds
  (repeat' split) <;> simp (maxDischargeDepth := 12) -implicitDefEqProofs [h]

@[simp] theorem State.voucherEnds_queue (failure : Option VoidCause) (s : State) (h : QueueBounds s.reports s.reserved) :
    QueueBounds (State.voucherEnds failure s).reports (State.voucherEnds failure s).reserved := by
  unfold State.voucherEnds
  (repeat' split) <;> simp (maxDischargeDepth := 12) -implicitDefEqProofs [h]

@[simp] theorem State.serveCancel_queue (s : State) (h : QueueBounds s.reports s.reserved) :
    QueueBounds s.serveCancel.reports s.serveCancel.reserved := by
  unfold State.serveCancel
  split
  · simpa using h
  · split
    · simpa using h
    · split
      · simpa using h
      · next hn => simpa using State.startPayout_queue .cancel (s.reserve 1) (s.free_queue h (by omega))

@[simp] theorem State.serveTube_queue (tube count : Nat) (s : State) (h : QueueBounds s.reports s.reserved) :
    QueueBounds (State.serveTube tube count s).reports (State.serveTube tube count s).reserved := by
  unfold State.serveTube
  dsimp only
  (repeat' split) <;> simp (maxDischargeDepth := 12) -implicitDefEqProofs [h]

@[simp] theorem State.serveClearTotals_queue (s : State) (h : QueueBounds s.reports s.reserved) :
    QueueBounds (State.serveClearTotals s).reports (State.serveClearTotals s).reserved := by
  unfold State.serveClearTotals
  (repeat' split) <;> simp (maxDischargeDepth := 12) -implicitDefEqProofs [h]

@[simp] theorem State.printDuty_queue (s : State) (h : QueueBounds s.reports s.reserved) :
    QueueBounds (State.printDuty s).reports (State.printDuty s).reserved := by
  unfold State.printDuty
  split <;> simp (maxDischargeDepth := 12) -implicitDefEqProofs [h]

@[simp] theorem State.startJob_queue (kind : JobKind) (txn template : Nat) (v : FieldValues) (s : State) (h : QueueBounds s.reports s.reserved) :
    QueueBounds (State.startJob kind txn template v s).reports (State.startJob kind txn template v s).reserved := by
  simp (maxDischargeDepth := 12) -implicitDefEqProofs [State.startJob, h]

@[simp] theorem State.receiptEnds_queue (txn : Nat) (failure : Option VoidCause) (s : State) (h : QueueBounds s.reports s.reserved) :
    QueueBounds (State.receiptEnds txn failure s).reports (State.receiptEnds txn failure s).reserved := by
  simp (maxDischargeDepth := 12) -implicitDefEqProofs [State.receiptEnds, h]

@[simp] theorem State.tellOwner_queue (j : Job) (failure : Option VoidCause) (s : State) (h : QueueBounds s.reports s.reserved) :
    QueueBounds (State.tellOwner j failure s).reports (State.tellOwner j failure s).reserved := by
  unfold State.tellOwner
  split <;> simp (maxDischargeDepth := 12) -implicitDefEqProofs [h]

@[simp] theorem State.jobEnds_queue (failure : Option VoidCause) (s : State) (h : QueueBounds s.reports s.reserved) :
    QueueBounds (State.jobEnds failure s).reports (State.jobEnds failure s).reserved := by
  unfold State.jobEnds
  split <;> simp (maxDischargeDepth := 12) -implicitDefEqProofs [h]

@[simp] theorem State.cutTimeout_queue (s : State) (h : QueueBounds s.reports s.reserved) :
    QueueBounds (State.cutTimeout s).reports (State.cutTimeout s).reserved := by
  unfold State.cutTimeout
  (repeat' split) <;> simp (maxDischargeDepth := 12) -implicitDefEqProofs [h]

@[simp] theorem State.roomAskDelay_queue (s : State) (h : QueueBounds s.reports s.reserved) :
    QueueBounds (State.roomAskDelay s).reports (State.roomAskDelay s).reserved := by
  unfold State.roomAskDelay
  split <;> simp (maxDischargeDepth := 12) -implicitDefEqProofs [h]

@[simp] theorem State.takeState_queue (paper : Paper) (head : Head) (fault : PrinterFault) (s : State) (h : QueueBounds s.reports s.reserved) :
    QueueBounds (State.takeState paper head fault s).reports (State.takeState paper head fault s).reserved := by
  unfold State.takeState
  dsimp only
  (repeat' split) <;> simp (maxDischargeDepth := 12) -implicitDefEqProofs [h]

@[simp] theorem State.takeCutDone_queue (tag : Nat) (s : State) (h : QueueBounds s.reports s.reserved) :
    QueueBounds (State.takeCutDone tag s).reports (State.takeCutDone tag s).reserved := by
  unfold State.takeCutDone
  (repeat' split) <;> simp (maxDischargeDepth := 12) -implicitDefEqProofs [h]

@[simp] theorem State.takeNotice_queue (s : State) (n : Notice) (h : QueueBounds s.reports s.reserved) : QueueBounds (s.takeNotice n).reports (s.takeNotice n).reserved := by
  unfold State.takeNotice; split <;> simp (maxDischargeDepth := 12) -implicitDefEqProofs [h]

@[simp] theorem State.takeNotices_queue (kind : Byte) (payload : List Byte) (s : State) (h : QueueBounds s.reports s.reserved) :
    QueueBounds (s.takeNotices kind payload).reports (s.takeNotices kind payload).reserved :=
  State.takeNotices_keeps (fun t => QueueBounds t.reports t.reserved) (fun n t ht => State.takeNotice_queue t n ht) kind payload s h

@[simp] theorem State.lineOutcome_queue (tag : Nat) (valid : Bool) (s : State) (h : QueueBounds s.reports s.reserved) :
    QueueBounds (State.lineOutcome tag valid s).reports (State.lineOutcome tag valid s).reserved := by
  simp (maxDischargeDepth := 12) -implicitDefEqProofs [State.lineOutcome, h]

@[simp] theorem State.cutOutcome_queue (tag : Nat) (valid : Bool) (s : State) (h : QueueBounds s.reports s.reserved) :
    QueueBounds (State.cutOutcome tag valid s).reports (State.cutOutcome tag valid s).reserved := by
  simp (maxDischargeDepth := 12) -implicitDefEqProofs [State.cutOutcome, h]

@[simp] theorem State.askOutcome_queue (forRoom valid : Bool) (s : State) (h : QueueBounds s.reports s.reserved) :
    QueueBounds (State.askOutcome forRoom valid s).reports (State.askOutcome forRoom valid s).reserved := by
  simp (maxDischargeDepth := 12) -implicitDefEqProofs [State.askOutcome, h]

@[simp] theorem State.printerAbsent_queue (s : State) (h : QueueBounds s.reports s.reserved) :
    QueueBounds (State.printerAbsent s).reports (State.printerAbsent s).reserved := by
  simp (maxDischargeDepth := 12) -implicitDefEqProofs [State.printerAbsent, h]

theorem State.voucherRefusal_free (s : State) (h : s.voucherRefusal = none) : 1 ≤ s.freeSlots := by
  unfold State.voucherRefusal at h
  repeat' split at h
  all_goals first | (cases h; done) | omega

@[simp] theorem State.serveVoucher_queue (s : State) (h : QueueBounds s.reports s.reserved) :
    QueueBounds s.serveVoucher.reports s.serveVoucher.reserved := by
  unfold State.serveVoucher
  split
  · simpa using h
  · next hn =>
    simp only [State.reply_reports, State.reply_reserved]
    exact State.entryTest_queue _ (State.startJob_queue _ _ _ _ _ (s.acceptOp_queue _ 1 h (s.voucherRefusal_free hn)))

@[simp] theorem State.serveReprint_queue (s : State) (h : QueueBounds s.reports s.reserved) :
    QueueBounds (State.serveReprint s).reports (State.serveReprint s).reserved := by
  unfold State.serveReprint
  (repeat' split) <;> simp (maxDischargeDepth := 12) -implicitDefEqProofs [h]

@[simp] theorem State.carryOut_queue (r : JournalRecord) (o : Resolution) (s : State) (h : QueueBounds s.reports s.reserved) :
    QueueBounds (State.carryOut r o s).reports (State.carryOut r o s).reserved := by
  simp (maxDischargeDepth := 12) -implicitDefEqProofs [State.carryOut, h]

@[simp] theorem State.resolve_queue (p : Presentation) (s : State) (h : QueueBounds s.reports s.reserved) :
    QueueBounds (State.resolve p s).reports (State.resolve p s).reserved := by
  unfold State.resolve
  split <;> simp (maxDischargeDepth := 12) -implicitDefEqProofs [h]

@[simp] theorem State.bindCard_queue (p : Presentation) (s : State) (h : QueueBounds s.reports s.reserved) :
    QueueBounds (State.bindCard p s).reports (State.bindCard p s).reserved := by
  unfold State.bindCard
  dsimp only
  (repeat' split) <;> simp (maxDischargeDepth := 12) -implicitDefEqProofs [h]

@[simp] theorem State.unbind_queue (s : State) (h : QueueBounds s.reports s.reserved) :
    QueueBounds (State.unbind s).reports (State.unbind s).reserved := by
  simp (maxDischargeDepth := 12) -implicitDefEqProofs [State.unbind, h]

@[simp] theorem State.afterUnbind_queue (s : State) (h : QueueBounds s.reports s.reserved) :
    QueueBounds (State.afterUnbind s).reports (State.afterUnbind s).reserved := by
  unfold State.afterUnbind
  dsimp only
  (repeat' split) <;> simp (maxDischargeDepth := 12) -implicitDefEqProofs [h]

@[simp] theorem State.cardLeaves_queue (s : State) (h : QueueBounds s.reports s.reserved) :
    QueueBounds (State.cardLeaves s).reports (State.cardLeaves s).reserved := by
  unfold State.cardLeaves
  (repeat' split) <;> simp (maxDischargeDepth := 12) -implicitDefEqProofs [h]

@[simp] theorem State.takeSeen_queue (p : Presentation) (s : State) (h : QueueBounds s.reports s.reserved) :
    QueueBounds (State.takeSeen p s).reports (State.takeSeen p s).reserved := by
  unfold State.takeSeen
  (repeat' split) <;> simp (maxDischargeDepth := 12) -implicitDefEqProofs [h]

@[simp] theorem State.startWrite_queue (o : OpRecord) (b : Binding) (w : Written) (s : State) (h : QueueBounds s.reports s.reserved) :
    QueueBounds (State.startWrite o b w s).reports (State.startWrite o b w s).reserved := by
  simp (maxDischargeDepth := 12) -implicitDefEqProofs [State.startWrite, h]

@[simp] theorem State.handReceipt_queue (o : OpRecord) (w : CardWrite) (newBalance : Nat) (s : State) (h : QueueBounds s.reports s.reserved) :
    QueueBounds (State.handReceipt o w newBalance s).reports (State.handReceipt o w newBalance s).reserved := by
  unfold State.handReceipt
  dsimp only
  (repeat' split) <;> simp (maxDischargeDepth := 12) -implicitDefEqProofs [h]

@[simp] theorem State.writeEnds_queue (s : State) (h : QueueBounds s.reports s.reserved) :
    QueueBounds (State.writeEnds s).reports (State.writeEnds s).reserved := by
  unfold State.writeEnds
  dsimp only
  (repeat' split) <;> simp (maxDischargeDepth := 12) -implicitDefEqProofs [h]

@[simp] theorem State.writeDone_queue (o : OpRecord) (w : CardWrite) (newSequence : Nat) (s : State) (h : QueueBounds s.reports s.reserved) :
    QueueBounds (State.writeDone o w newSequence s).reports (State.writeDone o w newSequence s).reserved := by
  unfold State.writeDone
  split <;> simp (maxDischargeDepth := 12) -implicitDefEqProofs [h]

@[simp] theorem State.writeFail_queue (o : OpRecord) (w : CardWrite) (s : State) (h : QueueBounds s.reports s.reserved) :
    QueueBounds (State.writeFail o w s).reports (State.writeFail o w s).reserved := by
  unfold State.writeFail
  split <;> simp (maxDischargeDepth := 12) -implicitDefEqProofs [h]

@[simp] theorem State.writeUncertain_queue (o : OpRecord) (w : CardWrite) (cause : UncertainCause) (s : State) (h : QueueBounds s.reports s.reserved) :
    QueueBounds (State.writeUncertain o w cause s).reports (State.writeUncertain o w cause s).reserved := by
  unfold State.writeUncertain
  dsimp only
  (repeat' split) <;> simp (maxDischargeDepth := 12) -implicitDefEqProofs [h]

@[simp] theorem State.takeWritten_queue (txn : Nat) (r : WriteResult) (s : State) (h : QueueBounds s.reports s.reserved) :
    QueueBounds (State.takeWritten txn r s).reports (State.takeWritten txn r s).reserved := by
  unfold State.takeWritten
  (repeat' split) <;> simp (maxDischargeDepth := 12) -implicitDefEqProofs [h]

@[simp] theorem State.writeTimeout_queue (s : State) (h : QueueBounds s.reports s.reserved) :
    QueueBounds (State.writeTimeout s).reports (State.writeTimeout s).reserved := by
  unfold State.writeTimeout
  (repeat' split) <;> simp (maxDischargeDepth := 12) -implicitDefEqProofs [h]

@[simp] theorem State.cardAbsent_queue (s : State) (h : QueueBounds s.reports s.reserved) :
    QueueBounds (State.cardAbsent s).reports (State.cardAbsent s).reserved := by
  unfold State.cardAbsent
  dsimp only
  (repeat' split) <;> simp (maxDischargeDepth := 12) -implicitDefEqProofs [h]

@[simp] theorem State.takeCardFrame_queue (kind : Byte) (p : List Byte) (s : State) (h : QueueBounds s.reports s.reserved) :
    QueueBounds (State.takeCardFrame kind p s).reports (State.takeCardFrame kind p s).reserved := by
  unfold State.takeCardFrame
  (repeat' split) <;> simp (maxDischargeDepth := 12) -implicitDefEqProofs [h]

theorem State.topupChecks_free (n : Nat) (s : State) (t : TopupTerms) (h : s.topupChecks n = .ok t) : 2 ≤ s.freeSlots := by
  unfold State.topupChecks at h
  dsimp only at h
  repeat' split at h
  all_goals first | (cases h; done) | omega

@[simp] theorem State.serveTopup_queue (amount : Word16) (receipt : Bool) (s : State)
    (h : QueueBounds s.reports s.reserved) :
    QueueBounds (s.serveTopup amount receipt).reports (s.serveTopup amount receipt).reserved := by
  unfold State.serveTopup
  split
  · simpa using h
  · next t ht =>
    simp only [State.reply_reports, State.reply_reserved]
    exact State.entryTest_queue _ (State.startWrite_queue _ _ _ _ (s.acceptOp_queue _ 2 h (s.topupChecks_free _ t ht)))

@[simp] theorem State.serveWriteOff_queue (txn : Nat) (s : State) (h : QueueBounds s.reports s.reserved) :
    QueueBounds (State.serveWriteOff txn s).reports (State.serveWriteOff txn s).reserved := by
  unfold State.serveWriteOff
  dsimp only
  (repeat' split) <;> simp (maxDischargeDepth := 12) -implicitDefEqProofs [h]

@[simp] theorem State.startSale_queue (o : OpRecord) (q : SellRequest) (t : SaleTerms) (s : State) (h : QueueBounds s.reports s.reserved) :
    QueueBounds (State.startSale o q t s).reports (State.startSale o q t s).reserved := by
  unfold State.startSale
  split <;> simp (maxDischargeDepth := 12) -implicitDefEqProofs [h]

theorem State.moneyChecks_free (s : State) (keep : Bool) (t u : SaleTerms) (h : s.moneyChecks keep t = .ok u) :
    2 ≤ s.freeSlots := by
  unfold State.moneyChecks at h
  dsimp only at h
  repeat' split at h
  all_goals first | (cases h; done) | omega

theorem State.sellChecks_free (q : SellRequest) (s : State) (t : SaleTerms) (h : s.sellChecks q = .ok t) :
    2 ≤ s.freeSlots := by
  unfold State.sellChecks at h
  dsimp only at h
  repeat' split at h
  all_goals first | (cases h; done) | exact s.moneyChecks_free _ _ _ h

@[simp] theorem State.serveSell_queue (q : SellRequest) (s : State) (h : QueueBounds s.reports s.reserved) :
    QueueBounds (s.serveSell q).reports (s.serveSell q).reserved := by
  unfold State.serveSell
  split
  · simpa using h
  · next t ht =>
    simp only [State.reply_reports, State.reply_reserved]
    exact State.entryTest_queue _ (State.startSale_queue _ _ _ _ (s.acceptOp_queue _ 2 h (s.sellChecks_free q t ht)))

@[simp] theorem State.passDown_queue (f : Frame) (s : State) (h : QueueBounds s.reports s.reserved) :
    QueueBounds (State.passDown f s).reports (State.passDown f s).reserved := by
  unfold State.passDown
  split <;> simp (maxDischargeDepth := 12) -implicitDefEqProofs [h]

@[simp] theorem State.consume_queue (r : Role) (f : Frame) (s : State) (h : QueueBounds s.reports s.reserved) :
    QueueBounds (State.consume r f s).reports (State.consume r f s).reserved := by
  unfold State.consume
  split <;> simp (maxDischargeDepth := 12) -implicitDefEqProofs [h]

@[simp] theorem State.disposeAnswer_queue (i : Fin 6) (f : Frame) (s : State) (h : QueueBounds s.reports s.reserved) :
    QueueBounds (State.disposeAnswer i f s).reports (State.disposeAnswer i f s).reserved := by
  unfold State.disposeAnswer
  dsimp only
  (repeat' split) <;> simp (maxDischargeDepth := 12) -implicitDefEqProofs [h]

theorem State.grantWrite_queue {s t : State} (e : s.grantWrite = some t) (h : QueueBounds s.reports s.reserved) : QueueBounds t.reports t.reserved := by
  unfold State.grantWrite at e
  repeat' split at e
  all_goals first
    | (cases e; done)
    | (simp only [Option.some.injEq] at e; subst e; simp (maxDischargeDepth := 12) -implicitDefEqProofs [h]; done)
    | (simp only [Option.map_eq_some_iff] at e; obtain ⟨_, _, rfl⟩ := e; simp (maxDischargeDepth := 12) -implicitDefEqProofs [h])

theorem State.grantPrint_queue {s t : State} (e : s.grantPrint = some t) (h : QueueBounds s.reports s.reserved) : QueueBounds t.reports t.reserved := by
  unfold State.grantPrint at e
  repeat' split at e
  all_goals first
    | (cases e; done)
    | (simp only [Option.some.injEq] at e; subst e; simp (maxDischargeDepth := 12) -implicitDefEqProofs [h]; done)
    | (simp only [Option.map_eq_some_iff] at e; obtain ⟨_, _, rfl⟩ := e; simp (maxDischargeDepth := 12) -implicitDefEqProofs [h])

theorem State.grantClass3_queue {s t : State} (e : s.grantClass3 = some t) (h : QueueBounds s.reports s.reserved) : QueueBounds t.reports t.reserved := by
  unfold State.grantClass3 at e
  repeat' split at e
  all_goals first
    | (cases e; done)
    | (simp only [Option.some.injEq] at e; subst e; simp (maxDischargeDepth := 12) -implicitDefEqProofs [h]; done)
    | (simp only [Option.map_eq_some_iff] at e; obtain ⟨_, _, rfl⟩ := e; simp (maxDischargeDepth := 12) -implicitDefEqProofs [h])

theorem State.grantForward_queue {s t : State} (e : s.grantForward = some t) (h : QueueBounds s.reports s.reserved) : QueueBounds t.reports t.reserved := by
  unfold State.grantForward at e
  repeat' split at e
  all_goals first
    | (cases e; done)
    | (simp only [Option.some.injEq] at e; subst e; simp (maxDischargeDepth := 12) -implicitDefEqProofs [h]; done)
    | (simp only [Option.map_eq_some_iff] at e; obtain ⟨_, _, rfl⟩ := e; simp (maxDischargeDepth := 12) -implicitDefEqProofs [h])

theorem State.grantPoll_queue {s t : State} (e : s.grantPoll = some t) (h : QueueBounds s.reports s.reserved) : QueueBounds t.reports t.reserved := by
  unfold State.grantPoll at e
  repeat' split at e
  all_goals first
    | (cases e; done)
    | (simp only [Option.some.injEq] at e; subst e; simp (maxDischargeDepth := 12) -implicitDefEqProofs [h]; done)
    | (simp only [Option.map_eq_some_iff] at e; obtain ⟨_, _, rfl⟩ := e; simp (maxDischargeDepth := 12) -implicitDefEqProofs [h])

@[simp] theorem State.grant_queue (s : State) (h : QueueBounds s.reports s.reserved) : QueueBounds s.grant.reports s.grant.reserved :=
  State.grant_keeps (fun t => QueueBounds t.reports t.reserved) s h (fun _ e => State.grantWrite_queue e h) (fun _ e => State.grantPrint_queue e h)
    (fun _ e => State.grantClass3_queue e h) (fun _ e => State.grantForward_queue e h) (fun _ e => State.grantPoll_queue e h)

@[simp] theorem State.issuePresence_queue (r : Role) (discards : Nat) (s : State) (h : QueueBounds s.reports s.reserved) :
    QueueBounds (State.issuePresence r discards s).reports (State.issuePresence r discards s).reserved := by
  unfold State.issuePresence
  split <;> simp (maxDischargeDepth := 12) -implicitDefEqProofs [h]

@[simp] theorem State.tellAbsent_queue (r : Role) (s : State) (h : QueueBounds s.reports s.reserved) :
    QueueBounds (State.tellAbsent r s).reports (State.tellAbsent r s).reserved := by
  unfold State.tellAbsent
  split <;> simp (maxDischargeDepth := 12) -implicitDefEqProofs [h]

@[simp] theorem State.slotAbsent_queue (i : Fin 6) (s : State) (h : QueueBounds s.reports s.reserved) :
    QueueBounds (State.slotAbsent i s).reports (State.slotAbsent i s).reserved := by
  simp (maxDischargeDepth := 12) -implicitDefEqProofs [State.slotAbsent, h]

@[simp] theorem State.tellPresent_queue (r : Role) (s : State) (h : QueueBounds s.reports s.reserved) :
    QueueBounds (State.tellPresent r s).reports (State.tellPresent r s).reserved := by
  unfold State.tellPresent
  split <;> simp (maxDischargeDepth := 12) -implicitDefEqProofs [h]

@[simp] theorem State.slotPresent_queue (i : Fin 6) (s : State) (h : QueueBounds s.reports s.reserved) :
    QueueBounds (State.slotPresent i s).reports (State.slotPresent i s).reserved := by
  simp (maxDischargeDepth := 12) -implicitDefEqProofs [State.slotPresent, h]

@[simp] theorem State.answered_queue (i : Fin 6) (s : State) (h : QueueBounds s.reports s.reserved) :
    QueueBounds (State.answered i s).reports (State.answered i s).reserved := by
  unfold State.answered
  split <;> simp (maxDischargeDepth := 12) -implicitDefEqProofs [h]

@[simp] theorem State.missed_queue (i : Fin 6) (s : State) (h : QueueBounds s.reports s.reserved) :
    QueueBounds (State.missed i s).reports (State.missed i s).reserved := by
  unfold State.missed
  dsimp only
  (repeat' split) <;> simp (maxDischargeDepth := 12) -implicitDefEqProofs [h]

@[simp] theorem State.reprobeDue_queue (i : Fin 6) (s : State) (h : QueueBounds s.reports s.reserved) :
    QueueBounds (State.reprobeDue i s).reports (State.reprobeDue i s).reserved := by
  unfold State.reprobeDue
  split <;> simp (maxDischargeDepth := 12) -implicitDefEqProofs [h]

@[simp] theorem State.tellOutcome_queue (o : Owner) (valid : Bool) (s : State) (h : QueueBounds s.reports s.reserved) :
    QueueBounds (State.tellOutcome o valid s).reports (State.tellOutcome o valid s).reserved := by
  unfold State.tellOutcome
  split <;> simp (maxDischargeDepth := 12) -implicitDefEqProofs [h]

@[simp] theorem State.endValid_queue (i : Fin 6) (o : Owner) (f : Frame) (s : State) (h : QueueBounds s.reports s.reserved) :
    QueueBounds (State.endValid i o f s).reports (State.endValid i o f s).reserved := by
  simp (maxDischargeDepth := 12) -implicitDefEqProofs [State.endValid, h]

@[simp] theorem State.endInvalid_queue (i : Fin 6) (o : Owner) (s : State) (h : QueueBounds s.reports s.reserved) :
    QueueBounds (State.endInvalid i o s).reports (State.endInvalid i o s).reserved := by
  simp (maxDischargeDepth := 12) -implicitDefEqProofs [State.endInvalid, h]

@[simp] theorem State.moduleFrame_queue (f : Frame) (s : State) (h : QueueBounds s.reports s.reserved) :
    QueueBounds (State.moduleFrame f s).reports (State.moduleFrame f s).reserved := by
  unfold State.moduleFrame
  (repeat' split) <;> simp (maxDischargeDepth := 12) -implicitDefEqProofs [h]

@[simp] theorem State.noAnswer_queue (s : State) (h : QueueBounds s.reports s.reserved) :
    QueueBounds (State.noAnswer s).reports (State.noAnswer s).reserved := by
  unfold State.noAnswer
  split <;> simp (maxDischargeDepth := 12) -implicitDefEqProofs [h]

@[simp] theorem State.windowPasses_queue (s : State) (h : QueueBounds s.reports s.reserved) :
    QueueBounds (State.windowPasses s).reports (State.windowPasses s).reserved := by
  unfold State.windowPasses
  split <;> simp (maxDischargeDepth := 12) -implicitDefEqProofs [h]

@[simp] theorem State.groupEnds_queue (s : State) (h : QueueBounds s.reports s.reserved) :
    QueueBounds (State.groupEnds s).reports (State.groupEnds s).reserved := by
  unfold State.groupEnds
  split <;> simp (maxDischargeDepth := 12) -implicitDefEqProofs [h]

@[simp] theorem State.frameSeen_queue (s : State) (h : QueueBounds s.reports s.reserved) :
    QueueBounds (State.frameSeen s).reports (State.frameSeen s).reserved := by
  unfold State.frameSeen
  split <;> simp (maxDischargeDepth := 12) -implicitDefEqProofs [h]

theorem State.gated_queue (k : Byte) (f : State → State) (s : State) (hf : QueueBounds s.reports s.reserved → QueueBounds (f s).reports (f s).reserved)
    (h : QueueBounds s.reports s.reserved) : QueueBounds (s.gated k f).reports (s.gated k f).reserved := by
  unfold State.gated; split
  · simpa using h
  · exact hf h

@[simp] theorem State.setUp_queue (id rate : Nat) (roles : Vector Role 6) (silence : Nat) (s : State) (h : QueueBounds s.reports s.reserved) :
    QueueBounds (State.setUp id rate roles silence s).reports (State.setUp id rate roles silence s).reserved := by
  simp (maxDischargeDepth := 12) -implicitDefEqProofs [State.setUp, h]

@[simp] theorem State.serveSetup_queue (id : Word16) (rate : Byte) (codes : Vector Byte 6) (silence : Byte) (s : State) (h : QueueBounds s.reports s.reserved) :
    QueueBounds (State.serveSetup id rate codes silence s).reports (State.serveSetup id rate codes silence s).reserved := by
  unfold State.serveSetup
  (repeat' split) <;> simp (maxDischargeDepth := 12) -implicitDefEqProofs [h]

@[simp] theorem State.serveAlive_queue (s : State) (h : QueueBounds s.reports s.reserved) :
    QueueBounds (State.serveAlive s).reports (State.serveAlive s).reserved := by
  simp (maxDischargeDepth := 12) -implicitDefEqProofs [State.serveAlive, h]

@[simp] theorem State.serveService_queue (on : Bool) (s : State) (h : QueueBounds s.reports s.reserved) :
    QueueBounds (State.serveService on s).reports (State.serveService on s).reserved := by
  unfold State.serveService
  (repeat' split) <;> simp (maxDischargeDepth := 12) -implicitDefEqProofs [h]

@[simp] theorem State.serveInhibit_queue (on : Bool) (s : State) (h : QueueBounds s.reports s.reserved) :
    QueueBounds (State.serveInhibit on s).reports (State.serveInhibit on s).reserved := by
  simp (maxDischargeDepth := 12) -implicitDefEqProofs [State.serveInhibit, h]

@[simp] theorem State.serveRestart_queue (s : State) (h : QueueBounds s.reports s.reserved) :
    QueueBounds (State.serveRestart s).reports (State.serveRestart s).reserved := by
  simp (maxDischargeDepth := 12) -implicitDefEqProofs [State.serveRestart, h]

@[simp] theorem State.serveClearAll_queue (s : State) (h : QueueBounds s.reports s.reserved) :
    QueueBounds (State.serveClearAll s).reports (State.serveClearAll s).reserved := by
  unfold State.serveClearAll
  (repeat' split) <;> simp (maxDischargeDepth := 12) -implicitDefEqProofs [h]

@[simp] theorem State.serveClock_queue (day second dayOfWeek : Nat) (s : State) (h : QueueBounds s.reports s.reserved) :
    QueueBounds (State.serveClock day second dayOfWeek s).reports (State.serveClock day second dayOfWeek s).reserved := by
  unfold State.serveClock
  split <;> simp (maxDischargeDepth := 12) -implicitDefEqProofs [h]

@[simp] theorem State.serveQuery_queue (topic index : Byte) (s : State) (h : QueueBounds s.reports s.reserved) :
    QueueBounds (State.serveQuery topic index s).reports (State.serveQuery topic index s).reserved := by
  unfold State.serveQuery
  (repeat' split) <;> simp (maxDischargeDepth := 12) -implicitDefEqProofs [h]

@[simp] theorem State.takeSetup_queue (id : Word16) (rate : Byte) (roles : Vector Byte 6) (silence : Byte) (s : State) (h : QueueBounds s.reports s.reserved) :
    QueueBounds (State.takeSetup id rate roles silence s).reports (State.takeSetup id rate roles silence s).reserved := by
  simp (maxDischargeDepth := 12) -implicitDefEqProofs [State.takeSetup, h]

@[simp] theorem State.takeLoad_queue (kind : TableKind) (generation : Word16) (index total : Byte) (check count : Word16) (entries : List Byte) (s : State) (h : QueueBounds s.reports s.reserved) :
    QueueBounds (State.takeLoad kind generation index total check count entries s).reports (State.takeLoad kind generation index total check count entries s).reserved := by
  unfold State.takeLoad
  (repeat' split) <;> simp (maxDischargeDepth := 12) -implicitDefEqProofs [h]

@[simp] theorem State.takeActivate_queue (kind : TableKind) (generation : Word16) (due : Due) (s : State) (h : QueueBounds s.reports s.reserved) :
    QueueBounds (State.takeActivate kind generation due s).reports (State.takeActivate kind generation due s).reserved := by
  unfold State.takeActivate; exact State.gated_queue _ _ _ (fun h => by simp (maxDischargeDepth := 12) -implicitDefEqProofs [h]) h

@[simp] theorem State.takeSell_queue (product zones : Byte) (concession : Fin 8) (medium : Medium) (keep : Bool) (s : State) (h : QueueBounds s.reports s.reserved) :
    QueueBounds (State.takeSell product zones concession medium keep s).reports (State.takeSell product zones concession medium keep s).reserved := by
  unfold State.takeSell; exact State.gated_queue _ _ _ (fun h => by simp (maxDischargeDepth := 12) -implicitDefEqProofs [h]) h

@[simp] theorem State.takeClock_queue (day : Word16) (second : Word32) (dayOfWeek : Byte) (s : State) (h : QueueBounds s.reports s.reserved) :
    QueueBounds (State.takeClock day second dayOfWeek s).reports (State.takeClock day second dayOfWeek s).reserved := by
  unfold State.takeClock; exact State.gated_queue _ _ _ (fun h => by simp (maxDischargeDepth := 12) -implicitDefEqProofs [h]) h

@[simp] theorem State.takeTube_queue (tube count : Byte) (s : State) (h : QueueBounds s.reports s.reserved) :
    QueueBounds (State.takeTube tube count s).reports (State.takeTube tube count s).reserved := by
  unfold State.takeTube; exact State.gated_queue _ _ _ (fun h => by simp (maxDischargeDepth := 12) -implicitDefEqProofs [h]) h

@[simp] theorem State.takeRequest_queue (i : Instr) (s : State) (h : QueueBounds s.reports s.reserved) : QueueBounds (s.takeRequest i).reports (s.takeRequest i).reserved := by
  unfold State.takeRequest
  split <;> first
    | exact h
    | (simp (maxDischargeDepth := 12) -implicitDefEqProofs [h]; done)
    | exact State.gated_queue _ _ _ (fun h => by simp (maxDischargeDepth := 12) -implicitDefEqProofs [h]) h

@[simp] theorem State.refuseFormat_queue (kind : Byte) (p : List Byte) (s : State) (h : QueueBounds s.reports s.reserved) :
    QueueBounds (State.refuseFormat kind p s).reports (State.refuseFormat kind p s).reserved := by
  unfold State.refuseFormat
  split <;> simp (maxDischargeDepth := 12) -implicitDefEqProofs [h]

@[simp] theorem State.disposeRequest_queue (kind : Byte) (p : List Byte) (s : State) (h : QueueBounds s.reports s.reserved) :
    QueueBounds (State.disposeRequest kind p s).reports (State.disposeRequest kind p s).reserved := by
  unfold State.disposeRequest
  split <;> simp (maxDischargeDepth := 12) -implicitDefEqProofs [h]

@[simp] theorem State.disposeDownward_queue (f : Frame) (s : State) (h : QueueBounds s.reports s.reserved) :
    QueueBounds (State.disposeDownward f s).reports (State.disposeDownward f s).reserved := by
  unfold State.disposeDownward
  split <;> simp (maxDischargeDepth := 12) -implicitDefEqProofs [h]

@[simp] theorem State.disposeFrame_queue (f : Frame) (s : State) (h : QueueBounds s.reports s.reserved) :
    QueueBounds (State.disposeFrame f s).reports (State.disposeFrame f s).reserved := by
  unfold State.disposeFrame
  (repeat' split) <;> simp (maxDischargeDepth := 12) -implicitDefEqProofs [h]

theorem State.onCLine_queue (f : Frame) (g : State → State) (s : State)
    (hg : ∀ t : State, QueueBounds t.reports t.reserved → QueueBounds (g t).reports (g t).reserved) (h : QueueBounds s.reports s.reserved) : QueueBounds (s.onCLine f g).reports (s.onCLine f g).reserved := by
  unfold State.onCLine
  repeat' split
  · exact h
  · simpa using h
  · exact hg _ (by simpa using State.frameSeen_queue s h)

theorem State.onRequest_queue (i : Instr) (g : State → State) (s : State)
    (hg : ∀ t : State, QueueBounds t.reports t.reserved → QueueBounds (g t).reports (g t).reserved) (h : QueueBounds s.reports s.reserved) : QueueBounds (s.onRequest i g).reports (s.onRequest i g).reserved := by
  unfold State.onRequest
  split
  · exact State.onCLine_queue _ _ _ hg h
  · exact h

@[simp] theorem State.runC_queue (s : State) (h : QueueBounds s.reports s.reserved) : QueueBounds s.runC.reports s.runC.reserved :=
  State.pumpC_keeps (fun t => QueueBounds t.reports t.reserved) (fun _ _ ht => ht) (fun f _ ht => State.disposeFrame_queue f _ (State.frameSeen_queue _ ht)) _ s h

@[simp] theorem State.runM_queue (s : State) (h : QueueBounds s.reports s.reserved) : QueueBounds s.runM.reports s.runM.reserved :=
  State.pumpM_keeps (fun t => QueueBounds t.reports t.reserved) (fun _ _ ht => ht) (fun t ht => State.noAnswer_queue t ht)
    (fun f t ht => State.moduleFrame_queue f t ht) _ s h

@[simp] theorem State.onReceiver_queue (l : Line) (f : Receiver → Receiver) (s : State)
    (h : QueueBounds s.reports s.reserved) : QueueBounds (s.onReceiver l f).reports (s.onReceiver l f).reserved := by
  unfold State.onReceiver; repeat' split
  · exact State.runC_queue _ h
  · exact State.runM_queue _ h
  · exact h

@[simp] theorem State.characterArrives_queue (l : Line) (value : Byte) (parity stopMark : Bool) (s : State) (h : QueueBounds s.reports s.reserved) :
    QueueBounds (State.characterArrives l value parity stopMark s).reports (State.characterArrives l value parity stopMark s).reserved := by
  simp (maxDischargeDepth := 12) -implicitDefEqProofs [State.characterArrives, h]

@[simp] theorem State.breakArrives_queue (l : Line) (s : State) (h : QueueBounds s.reports s.reserved) :
    QueueBounds (State.breakArrives l s).reports (State.breakArrives l s).reserved := by
  simp (maxDischargeDepth := 12) -implicitDefEqProofs [State.breakArrives, h]

@[simp] theorem State.gapExpires_queue (l : Line) (s : State) (h : QueueBounds s.reports s.reserved) :
    QueueBounds (State.gapExpires l s).reports (State.gapExpires l s).reserved := by
  unfold State.gapExpires
  split <;> simp (maxDischargeDepth := 12) -implicitDefEqProofs [h]

@[simp] theorem State.takeNext_queue (s : State) (h : QueueBounds s.reports s.reserved) :
    QueueBounds s.takeNext.reports s.takeNext.reserved := by
  unfold State.takeNext
  split
  · exact h
  · exact h
  · next e => rw [e] at h; exact h.tail
  · exact h

@[simp] theorem State.transmitEnds_queue (s : State) (h : QueueBounds s.reports s.reserved) :
    QueueBounds (State.transmitEnds s).reports (State.transmitEnds s).reserved := by
  unfold State.transmitEnds
  split <;> simp (maxDischargeDepth := 12) -implicitDefEqProofs [h]

@[simp] theorem State.transmit_queue (s : State) (h : QueueBounds s.reports s.reserved) :
    QueueBounds (State.transmit s).reports (State.transmit s).reserved := by
  unfold State.transmit
  split <;> simp (maxDischargeDepth := 12) -implicitDefEqProofs [h]

@[simp] theorem State.silenceExpires_queue (s : State) (h : QueueBounds s.reports s.reserved) :
    QueueBounds (State.silenceExpires s).reports (State.silenceExpires s).reserved := by
  unfold State.silenceExpires
  split <;> simp (maxDischargeDepth := 12) -implicitDefEqProofs [h]

@[simp] theorem State.secondAdvances_queue (s : State) (h : QueueBounds s.reports s.reserved) :
    QueueBounds (State.secondAdvances s).reports (State.secondAdvances s).reserved := by
  unfold State.secondAdvances
  dsimp only
  (repeat' split) <;> simp (maxDischargeDepth := 12) -implicitDefEqProofs [h]

@[simp] theorem State.hundredthAdvances_queue (s : State) (h : QueueBounds s.reports s.reserved) :
    QueueBounds (State.hundredthAdvances s).reports (State.hundredthAdvances s).reserved := by
  unfold State.hundredthAdvances
  (repeat' split) <;> simp (maxDischargeDepth := 12) -implicitDefEqProofs [h]

@[simp] theorem State.oscillatorStops_queue (s : State) (h : QueueBounds s.reports s.reserved) :
    QueueBounds (State.oscillatorStops s).reports (State.oscillatorStops s).reserved := by
  unfold State.oscillatorStops
  split <;> simp (maxDischargeDepth := 12) -implicitDefEqProofs [h]

@[simp] theorem State.timeBaseRuns_queue (s : State) (h : QueueBounds s.reports s.reserved) :
    QueueBounds (State.timeBaseRuns s).reports (State.timeBaseRuns s).reserved := by
  simp (maxDischargeDepth := 12) -implicitDefEqProofs [State.timeBaseRuns, h]

@[simp] theorem State.boot_queue (cold : Bool) (cause : StartCause) (pins : Pins) (s : State) :
    QueueBounds (s.boot cold cause pins).reports (s.boot cold cause pins).reserved := by
  have hr : (s.boot cold cause pins).reserved = 0 := by
    unfold State.boot State.firstPeriod
    dsimp only
    split <;> rfl
  have hq : ∃ r, (s.boot cold cause pins).reports = [.start r] := ⟨_, rfl⟩
  obtain ⟨r, hq⟩ := hq
  rw [hq, hr]
  refine ⟨by simp [generalCount, Config.generalSlots], fun k _ h2 => ?_⟩
  exact Nat.le_trans (Nat.le_of_eq (kindCount_append k [] (.start r) rfl h2)) (by simp [kindCount])

@[simp] theorem State.checkedStart_queue (cause : StartCause) (pins : Pins) (s : State) (h : QueueBounds s.reports s.reserved) :
    QueueBounds (State.checkedStart cause pins s).reports (State.checkedStart cause pins s).reserved := by
  unfold State.checkedStart
  split <;> simp (maxDischargeDepth := 12) -implicitDefEqProofs [h]

@[simp] theorem State.quiet_queue (s : State) (h : QueueBounds s.reports s.reserved) :
    QueueBounds (State.quiet s).reports (State.quiet s).reserved := by
  simp (maxDischargeDepth := 12) -implicitDefEqProofs [State.quiet, h]

@[simp] theorem State.powerReturns_queue (pins : Pins) (s : State) (h : QueueBounds s.reports s.reserved) :
    QueueBounds (State.powerReturns pins s).reports (State.powerReturns pins s).reserved := by
  unfold State.powerReturns
  dsimp only
  (repeat' split) <;> simp (maxDischargeDepth := 12) -implicitDefEqProofs [h]

@[simp] theorem State.powerFails_queue (s : State) (h : QueueBounds s.reports s.reserved) :
    QueueBounds (State.powerFails s).reports (State.powerFails s).reserved := by
  unfold State.powerFails
  split <;> simp (maxDischargeDepth := 12) -implicitDefEqProofs [h]

@[simp] theorem State.resetHolds_queue (s : State) (h : QueueBounds s.reports s.reserved) :
    QueueBounds (State.resetHolds s).reports (State.resetHolds s).reserved := by
  simp (maxDischargeDepth := 12) -implicitDefEqProofs [State.resetHolds, h]

@[simp] theorem State.resetReleases_queue (pins : Pins) (s : State) (h : QueueBounds s.reports s.reserved) :
    QueueBounds (State.resetReleases pins s).reports (State.resetReleases pins s).reserved := by
  unfold State.resetReleases
  dsimp only
  (repeat' split) <;> simp (maxDischargeDepth := 12) -implicitDefEqProofs [h]

@[simp] theorem State.backupFails_queue (s : State) (h : QueueBounds s.reports s.reserved) :
    QueueBounds (State.backupFails s).reports (State.backupFails s).reserved := by
  unfold State.backupFails
  split <;> simp (maxDischargeDepth := 12) -implicitDefEqProofs [h]

@[simp] theorem State.startAfterReply_queue (pins : Pins) (s : State) (h : QueueBounds s.reports s.reserved) :
    QueueBounds (State.startAfterReply pins s).reports (State.startAfterReply pins s).reserved := by
  unfold State.startAfterReply
  split <;> simp (maxDischargeDepth := 12) -implicitDefEqProofs [h]

end Sys2Proof.Machine
end

