-- ==== Sys2Proof/Laws/Drive.lean ====
section
/-! SUPPORT. The coil drives under every operation (R46, R74, R75): the two diverter sides are never driven together, and the
accept gate is driven only in ACCEPTING. -/

namespace Sys2Proof.Machine

/-! ## Coils -/

@[simp] theorem Coil.energise_on (c : Coil) : c.energise.on = true := by
  unfold Coil.energise
  split
  · rfl
  · next h => simpa [Coil.on] using h

@[simp] theorem Coil.release_on (c : Coil) : c.release.on = false := rfl

@[simp] theorem Coil.begin_on (h : CoinHeader) (n : CoilName) (c : Coil) : (c.begin h n).on = true := rfl

@[simp] theorem Coil.afterPeriod_on (h : CoinHeader) (n : CoilName) (x : Sense) (c : Coil) :
    (c.afterPeriod h n x).on = c.on := by
  unfold Coil.afterPeriod
  dsimp only
  split
  · next hp =>
    split
    · split
      · simp only [Coil.on, hp.1]; rfl
      · rfl
    · rfl
  · rfl

/-! ## The coil driver -/

/-- What the diverter and the gate show of their drives. -/
theorem DriveSafe.congr {d e : CoilDriver} {c : ChuteState} (h : DriveSafe d c)
    (ht : e.coils.dvt.on = d.coils.dvt.on) (hk : e.coils.dvk.on = d.coils.dvk.on) (ha : e.coils.ag.on = d.coils.ag.on)
    (hg : e.target = d.target) : DriveSafe e c where
  sides := by rw [ht, hk]; exact h.sides
  towardTubes := by rw [hg, hk]; exact h.towardTubes
  towardCashBox := by rw [hg, ht]; exact h.towardCashBox
  gate := by rw [ha]; exact h.gate

/-- With the gate at rest the chute state is free. -/
theorem DriveSafe.anyState {d : CoilDriver} {c : ChuteState} (h : DriveSafe d c) (ha : d.coils.ag.on = false)
    (c' : ChuteState) : DriveSafe d c' :=
  ⟨h.sides, h.towardTubes, h.towardCashBox, fun e => by rw [ha] at e; cases e⟩

/-- Outside ACCEPTING the gate is at rest. -/
theorem DriveSafe.gateOff {d : CoilDriver} {c : ChuteState} (h : DriveSafe d c) (hc : c ≠ .accepting) :
    d.coils.ag.on = false := by
  cases e : d.coils.ag.on
  · rfl
  · exact absurd (h.gate e) hc

/-- In ACCEPTING the gate may be driven. -/
theorem DriveSafe.accepting {d : CoilDriver} {c : ChuteState} (h : DriveSafe d c) : DriveSafe d .accepting :=
  ⟨h.sides, h.towardTubes, h.towardCashBox, fun _ => rfl⟩

@[simp] theorem DriveSafe.driveEb {d : CoilDriver} {c : ChuteState} {b : Bool} (h : DriveSafe d c) :
    DriveSafe (d.drive .eb b) c := h.congr rfl rfl rfl rfl

@[simp] theorem CoilDriver.driveAg_off (d : CoilDriver) : (d.drive .ag false).coils.ag.on = false := rfl

/-- The gate released: the chute state is free. -/
theorem DriveSafe.gateReleased {d : CoilDriver} {c : ChuteState} (h : DriveSafe d c) (c' : ChuteState) :
    DriveSafe (d.drive .ag false) c' := ⟨h.sides, h.towardTubes, h.towardCashBox, fun e => by cases e⟩

/-- The gate driven in ACCEPTING. -/
theorem DriveSafe.gateDriven {d : CoilDriver} {c : ChuteState} (h : DriveSafe d c) :
    DriveSafe (d.drive .ag true) .accepting := ⟨h.sides, h.towardTubes, h.towardCashBox, fun _ => rfl⟩

@[simp] theorem DriveSafe.divert {d : CoilDriver} {c : ChuteState} {cmd : DiverterCommand} (h : DriveSafe d c) :
    DriveSafe (d.divert cmd) c := by
  cases cmd
  · refine ⟨rfl, fun e => ?_, fun _ => rfl, h.gate⟩
    simp only [CoilDriver.divert] at e; split at e <;> cases e
  · refine ⟨by simp [CoilDriver.divert, CoilDriver.drive, PerCoil.get, PerCoil.set], fun _ => rfl, fun e => ?_, h.gate⟩
    simp only [CoilDriver.divert] at e; split at e <;> cases e
  · exact ⟨rfl, fun _ => rfl, fun _ => rfl, h.gate⟩

@[simp] theorem CoilDriver.divert_ag (d : CoilDriver) (cmd : DiverterCommand) : (d.divert cmd).coils.ag = d.coils.ag := by
  cases cmd <;> rfl

/-- All coils released. -/
theorem DriveSafe.releaseAll {d : CoilDriver} {c c' : ChuteState} (_h : DriveSafe d c) : DriveSafe d.releaseAll c' :=
  ⟨rfl, fun _ => rfl, fun _ => rfl, fun e => by cases e⟩

theorem DriveSafe.changeover {d : CoilDriver} {c : ChuteState} {hd : CoinHeader} (h : DriveSafe d c) :
    DriveSafe (d.changeover hd) c := by
  unfold CoilDriver.changeover
  split
  · exact h
  · split
    · exact h
    · next e => exact ⟨by simp [h.towardTubes e], fun e => (by cases e), fun e => (by cases e), h.gate⟩
    · next e => exact ⟨by simp [h.towardCashBox e], fun e => (by cases e), fun e => (by cases e), h.gate⟩

/-- A coil that begins its waiting drive is on before and after. -/
theorem Coil.beginWaiting_on (hd : CoinHeader) (n : CoilName) (c : Coil) :
    (if c.phase = Phase.pullIn ∧ !c.begun then c.begin hd n else c).on = c.on := by
  split
  · next h => simp [Coil.on, h.1, Coil.begin]
  · rfl

theorem DriveSafe.periodStart {d : CoilDriver} {c : ChuteState} {hd : CoinHeader} (h : DriveSafe d c) :
    DriveSafe (d.periodStart hd) c := by
  unfold CoilDriver.periodStart
  dsimp only
  refine DriveSafe.congr (d := CoilDriver.changeover hd _) (DriveSafe.changeover ?_) rfl rfl rfl rfl
  exact h.congr (Coil.beginWaiting_on hd _ _) (Coil.beginWaiting_on hd _ _) (Coil.beginWaiting_on hd _ _) rfl

theorem DriveSafe.periodEnd {d : CoilDriver} {c : ChuteState} {hd : CoinHeader} {x : PerCoil Sense} (h : DriveSafe d c) :
    DriveSafe (d.periodEnd hd x) c :=
  h.congr (Coil.afterPeriod_on hd _ _ _) (Coil.afterPeriod_on hd _ _ _) (Coil.afterPeriod_on hd _ _ _) rfl

theorem DriveSafe.newProfile {d : CoilDriver} {c : ChuteState} {hd : CoinHeader} (h : DriveSafe d c) :
    DriveSafe (d.newProfile hd) c := by
  unfold CoilDriver.newProfile
  refine DriveSafe.periodStart (DriveSafe.congr (d := d.divert .cashBox) h.divert ?_ ?_ ?_ rfl)
  all_goals
    simp only [PerCoil.mapNamed]
    split
    · next e => exact e.symm
    · rfl

@[simp] theorem CoilDriver.clearFault_coils (d : CoilDriver) : d.clearFault.coils = d.coils := rfl
@[simp] theorem DriveSafe.clearFault {d : CoilDriver} {c : ChuteState} (h : DriveSafe d c) : DriveSafe d.clearFault c :=
  h.congr rfl rfl rfl rfl

/-- A checked coil that stays in PULL-IN or passes to HOLD is on before and after. -/
theorem Coil.checked_on (sense : Sense) (failed : Bool) (ends : Bool) (c : Coil) :
    (c.afterCheck (ends && c.ending) failed sense).on = c.on := by
  unfold Coil.afterCheck
  dsimp only
  split
  · next h =>
    have : c.phase = .pullIn := by
      simp only [Coil.ending, Bool.and_eq_true, beq_iff_eq] at h; exact h.2.1.1
    cases failed <;> simp only [Coil.on, this] <;> rfl
  · rfl

/-! ## Every operation -/

@[simp] theorem State.issueFree_drive (r : Report) (s : State) (h : DriveSafe s.coils s.chute.state) :
    DriveSafe (State.issueFree r s).coils (State.issueFree r s).chute.state := by
  unfold State.issueFree
  split <;> simp (maxDischargeDepth := 12) -implicitDefEqProofs [h]

@[simp] theorem State.issueReserved_drive (r : Report) (s : State) (h : DriveSafe s.coils s.chute.state) :
    DriveSafe (State.issueReserved r s).coils (State.issueReserved r s).chute.state := by
  unfold State.issueReserved
  split <;> simp (maxDischargeDepth := 12) -implicitDefEqProofs [h]

@[simp] theorem State.entryTest_drive (s : State) (h : DriveSafe s.coils s.chute.state) :
    DriveSafe s.entryTest.coils s.entryTest.chute.state := by
  unfold State.entryTest
  split
  · exact h
  · exact h.driveEb

theorem State.entryTest_keeps_chute (s : State) : s.entryTest.chute = s.chute := by
  unfold State.entryTest; split <;> rfl

theorem State.entryTest_ag (s : State) : s.entryTest.coils.coils.ag = s.coils.coils.ag := by
  unfold State.entryTest; split <;> rfl

@[simp] theorem State.tubesChanged_drive (s : State) (before : State) (h : DriveSafe s.coils s.chute.state) :
    DriveSafe (State.tubesChanged s before).coils (State.tubesChanged s before).chute.state := by
  unfold State.tubesChanged
  split <;> simp (maxDischargeDepth := 12) -implicitDefEqProofs [h]

/-- FAULT is entered with the gate released (R53). -/
@[simp] theorem State.enterFault_drive (k : FaultKind) (s : State) (h : DriveSafe s.coils s.chute.state) :
    DriveSafe (s.enterFault k).coils (s.enterFault k).chute.state := by
  unfold State.enterFault
  refine State.entryTest_drive _ ?_
  dsimp only [State.onCoils_coils, State.onChute_coils, State.onCoils_chute, State.onChute_chute]
  split
  · exact h.gateReleased _
  · exact (h.gateReleased _).divert

@[simp] theorem State.coilFault_drive (failed : PerCoil Bool) (s : State) (h : DriveSafe s.coils s.chute.state) :
    DriveSafe (s.coilFault failed).coils (s.coilFault failed).chute.state :=
  State.enterFault_drive _ _ ((h.divert (cmd := .none)).releaseAll.congr rfl rfl rfl rfl)

@[simp] theorem State.pwmPeriod_drive (sense : PerCoil Sense) (s : State) (h : DriveSafe s.coils s.chute.state) :
    DriveSafe (s.pwmPeriod sense).coils (s.pwmPeriod sense).chute.state := by
  unfold State.pwmPeriod
  split
  · exact h
  · dsimp only
    refine DriveSafe.periodStart ?_
    split
    · exact State.coilFault_drive _ _ h.periodEnd
    · exact h.periodEnd

@[simp] theorem State.pullInCheck_drive (ends : PerCoil Bool) (sense : PerCoil Sense) (s : State)
    (h : DriveSafe s.coils s.chute.state) :
    DriveSafe (s.pullInCheck ends sense).coils (s.pullInCheck ends sense).chute.state := by
  unfold State.pullInCheck
  split
  · exact h
  · dsimp only
    split
    · split
      · refine State.coilFault_drive _ _ (h.congr ?_ ?_ ?_ rfl) <;> exact Coil.checked_on _ _ _ _
      · refine h.congr ?_ ?_ ?_ rfl <;> exact Coil.checked_on _ _ _ _
    · exact h

@[simp] theorem State.diverterChangeover_drive (s : State) (h : DriveSafe s.coils s.chute.state) :
    DriveSafe s.diverterChangeover.coils s.diverterChangeover.chute.state := by
  unfold State.diverterChangeover
  split
  · exact h
  · exact h.changeover

@[simp] theorem State.serveLoad_drive (kind : TableKind) (generation index total check count : Nat) (bytes : List Byte) (s : State) (h : DriveSafe s.coils s.chute.state) :
    DriveSafe (State.serveLoad kind generation index total check count bytes s).coils (State.serveLoad kind generation index total check count bytes s).chute.state := by
  unfold State.serveLoad
  dsimp only
  (repeat' split) <;> simp (maxDischargeDepth := 12) -implicitDefEqProofs [h]

@[simp] theorem State.serveDiscard_drive (kind : TableKind) (s : State) (h : DriveSafe s.coils s.chute.state) :
    DriveSafe (State.serveDiscard kind s).coils (State.serveDiscard kind s).chute.state := by
  unfold State.serveDiscard
  dsimp only
  (repeat' split) <;> simp (maxDischargeDepth := 12) -implicitDefEqProofs [h]

@[simp] theorem State.afterActivation_drive (kind : TableKind) (before : State) (s : State)
    (h : DriveSafe s.coils s.chute.state) :
    DriveSafe (State.afterActivation kind before s).coils (State.afterActivation kind before s).chute.state := by
  have a := State.entryTest_drive _ (State.tubesChanged_drive s before h)
  unfold State.afterActivation
  dsimp only
  repeat' split
  all_goals first
    | exact h
    | exact a
    | exact a.newProfile
    | exact State.entryTest_drive _ h

@[simp] theorem State.takeActivation_drive (kind : TableKind) (waited : Bool) (s : State) (h : DriveSafe s.coils s.chute.state) :
    DriveSafe (State.takeActivation kind waited s).coils (State.takeActivation kind waited s).chute.state := by
  simp (maxDischargeDepth := 12) -implicitDefEqProofs [State.takeActivation, h]

@[simp] theorem State.fallDue_drive (kind : TableKind) (s : State) (h : DriveSafe s.coils s.chute.state) :
    DriveSafe (State.fallDue kind s).coils (State.fallDue kind s).chute.state := by
  unfold State.fallDue
  dsimp only
  (repeat' split) <;> simp (maxDischargeDepth := 12) -implicitDefEqProofs [h]

@[simp] theorem State.takeWaiting_drive (kind : TableKind) (s : State) (h : DriveSafe s.coils s.chute.state) :
    DriveSafe (State.takeWaiting kind s).coils (State.takeWaiting kind s).chute.state := by
  unfold State.takeWaiting
  dsimp only
  (repeat' split) <;> simp (maxDischargeDepth := 12) -implicitDefEqProofs [h]

@[simp] theorem State.testSchedules_drive (s : State) (h : DriveSafe s.coils s.chute.state) : DriveSafe s.testSchedules.2.coils s.testSchedules.2.chute.state :=
  State.testSchedules_keeps (fun t => DriveSafe t.coils t.chute.state) (fun k t ht => State.fallDue_drive k t ht) s h

@[simp] theorem State.serveActivate_drive (kind : TableKind) (generation : Word16) (due : Due) (s : State) (h : DriveSafe s.coils s.chute.state) :
    DriveSafe (State.serveActivate kind generation due s).coils (State.serveActivate kind generation due s).chute.state := by
  unfold State.serveActivate
  dsimp only
  (repeat' split) <;> simp (maxDischargeDepth := 12) -implicitDefEqProofs [h]

/-- A coin is returned from outside ACCEPTING (R61). -/
theorem State.returnCoin_drive (m : Measurement) (s : State) (h : DriveSafe s.coils s.chute.state)
    (ha : s.coils.coils.ag.on = false) : DriveSafe (s.returnCoin m).coils (s.returnCoin m).chute.state := by
  unfold State.returnCoin
  dsimp only
  refine State.entryTest_drive _ ?_
  split <;> exact h.anyState ha _

@[simp] theorem State.acceptCoin_drive (a : AcceptedCoin) (m : Measurement) (s : State)
    (h : DriveSafe s.coils s.chute.state) : DriveSafe (s.acceptCoin a m).coils (s.acceptCoin a m).chute.state := by
  unfold State.acceptCoin
  exact State.entryTest_drive _ h.divert.gateDriven

theorem State.decideCoin_drive (s : State) (h : DriveSafe s.coils s.chute.state) (ha : s.coils.coils.ag.on = false) :
    DriveSafe s.decideCoin.coils s.decideCoin.chute.state := by
  unfold State.decideCoin
  dsimp only
  split
  · exact State.acceptCoin_drive _ _ _ h
  · exact State.returnCoin_drive _ _ h ha

/-- The chute becomes IDLE with the gate at rest. -/
theorem State.chuteToIdle_drive (s : State) (h : DriveSafe s.coils s.chute.state) (ha : s.coils.coils.ag.on = false) :
    DriveSafe s.chuteToIdle.coils s.chuteToIdle.chute.state := by
  unfold State.chuteToIdle
  exact State.entryTest_drive _ (State.takeWaiting_drive _ _ (h.anyState ha _))

theorem State.creditCoin_coils (a : AcceptedCoin) (s : State) : (s.creditCoin a).coils = s.coils := by
  unfold State.creditCoin State.tubesChanged
  dsimp only
  split
  · split <;> rfl
  · rfl

theorem State.creditCoin_chute (a : AcceptedCoin) (s : State) : (s.creditCoin a).chute = s.chute := by
  unfold State.creditCoin State.tubesChanged
  dsimp only
  split
  · split <;> rfl
  · rfl

@[simp] theorem State.coinAtC_drive (s : State) (h : DriveSafe s.coils s.chute.state) :
    DriveSafe s.coinAtC.coils s.coinAtC.chute.state := by
  unfold State.coinAtC
  have a : ∀ t : State, DriveSafe t.coils t.chute.state →
      DriveSafe ((t.onCoils fun d => (d.drive .ag false).divert .cashBox).chuteToIdle).coils
        ((t.onCoils fun d => (d.drive .ag false).divert .cashBox).chuteToIdle).chute.state := by
    intro t ht
    refine State.chuteToIdle_drive _ ?_ (by simp)
    simp only [State.onCoils_coils, State.onCoils_chute]
    exact (ht.gateReleased _).divert
  refine a _ ?_
  split <;> simpa [State.creditCoin_coils, State.creditCoin_chute] using h

theorem State.coinBegins_drive (s : State) (h : DriveSafe s.coils s.chute.state) (ha : s.coils.coils.ag.on = false) :
    DriveSafe s.coinBegins.coils s.coinBegins.chute.state := by
  unfold State.coinBegins
  exact State.entryTest_drive _ (h.anyState ha _)

theorem State.riseIn_drive (s : State) (c : ChuteState) (x : Sensor) (h : DriveSafe s.coils s.chute.state)
    (hc : s.chute.state = c) : DriveSafe (s.riseIn c x).coils (s.riseIn c x).chute.state := by
  unfold State.riseIn
  split
  all_goals first
    | with_reducible exact h
    | with_reducible exact State.enterFault_drive _ _ h
    | with_reducible exact State.coinAtC_drive _ h
    | (with_reducible refine State.coinBegins_drive _ h ?_; exact h.gateOff (by rw [hc]; decide))
    | (with_reducible refine State.chuteToIdle_drive _ h ?_; exact h.gateOff (by rw [hc]; decide))
    | exact h.anyState (h.gateOff (by rw [hc]; decide)) _

@[simp] theorem Chute.advance_state (n : Nat) (c : Chute) : (c.advance n).state = c.state := by
  unfold Chute.advance; split <;> simp_all

@[simp] theorem State.sensorRise_drive (x : Sensor) (ticks : Nat) (s : State) (h : DriveSafe s.coils s.chute.state) :
    DriveSafe (s.sensorRise x ticks).coils (s.sensorRise x ticks).chute.state := by
  unfold State.sensorRise
  split
  · exact h
  · exact State.riseIn_drive _ _ _ (by simpa using h) (by simp)

theorem State.fallIn_drive (s : State) (c : ChuteState) (x : Sensor) (h : DriveSafe s.coils s.chute.state)
    (hc : s.chute.state = c) : DriveSafe (s.fallIn c x).coils (s.fallIn c x).chute.state := by
  have hw : s.chute.startWait.state = s.chute.state := by
    unfold Chute.startWait
    repeat' split
    all_goals rfl
  unfold State.fallIn
  split
  all_goals first
    | exact h
    | exact State.decideCoin_drive _ h (h.gateOff (by rw [hc]; decide))
    | exact h.anyState (h.gateOff (by rw [hc]; decide)) _

@[simp] theorem State.sensorFall_drive (x : Sensor) (ticks : Nat) (s : State) (h : DriveSafe s.coils s.chute.state) :
    DriveSafe (s.sensorFall x ticks).coils (s.sensorFall x ticks).chute.state := by
  unfold State.sensorFall
  split
  · exact State.fallIn_drive _ _ _ (by simpa using h) (by simp)
  · exact h

@[simp] theorem State.aLimitPasses_drive (s : State) (h : DriveSafe s.coils s.chute.state) :
    DriveSafe (State.aLimitPasses s).coils (State.aLimitPasses s).chute.state := by
  unfold State.aLimitPasses
  split <;> simp (maxDischargeDepth := 12) -implicitDefEqProofs [h]

@[simp] theorem State.gapLimitPasses_drive (s : State) (h : DriveSafe s.coils s.chute.state) :
    DriveSafe s.gapLimitPasses.coils s.gapLimitPasses.chute.state := by
  unfold State.gapLimitPasses
  split
  · next e => exact State.returnCoin_drive _ _ h (h.gateOff (by rw [e]; decide))
  all_goals exact h

@[simp] theorem State.acceptWaitPasses_drive (s : State) (h : DriveSafe s.coils s.chute.state) :
    DriveSafe (State.acceptWaitPasses s).coils (State.acceptWaitPasses s).chute.state := by
  unfold State.acceptWaitPasses
  split <;> simp (maxDischargeDepth := 12) -implicitDefEqProofs [h]

@[simp] theorem State.returnWaitPasses_drive (s : State) (h : DriveSafe s.coils s.chute.state) :
    DriveSafe (State.returnWaitPasses s).coils (State.returnWaitPasses s).chute.state := by
  unfold State.returnWaitPasses
  split <;> simp (maxDischargeDepth := 12) -implicitDefEqProofs [h]

theorem State.faultClears_drive (s : State) (h : DriveSafe s.coils s.chute.state) (ha : s.coils.coils.ag.on = false) :
    DriveSafe s.faultClears.coils s.faultClears.chute.state := State.chuteToIdle_drive s h ha

@[simp] theorem State.idleWaitPasses_drive (s : State) (h : DriveSafe s.coils s.chute.state) :
    DriveSafe s.idleWaitPasses.coils s.idleWaitPasses.chute.state := by
  unfold State.idleWaitPasses
  split
  · next e => exact State.faultClears_drive _ h (h.gateOff (by rw [e.1]; decide))
  · exact h

@[simp] theorem State.serveChuteClear_drive (s : State) (h : DriveSafe s.coils s.chute.state) :
    DriveSafe s.serveChuteClear.coils s.serveChuteClear.chute.state := by
  unfold State.serveChuteClear
  split
  · next e _ =>
    split
    · refine State.faultClears_drive _ ?_ ?_
      · simp only [State.onCoils_coils, State.onCoils_chute]
        exact h.clearFault.divert
      · simpa using h.gateOff (by rw [e]; decide)
    · exact h
  · exact h

@[simp] theorem State.endPayout_drive (s : State) (h : DriveSafe s.coils s.chute.state) :
    DriveSafe (State.endPayout s).coils (State.endPayout s).chute.state := by
  unfold State.endPayout
  split <;> simp (maxDischargeDepth := 12) -implicitDefEqProofs [h]

@[simp] theorem State.startEntry_drive (s : State) (h : DriveSafe s.coils s.chute.state) :
    DriveSafe (State.startEntry s).coils (State.startEntry s).chute.state := by
  unfold State.startEntry
  (repeat' split) <;> simp (maxDischargeDepth := 12) -implicitDefEqProofs [h]

@[simp] theorem State.runPlan_drive (entries : List PlanEntry) (s : State) (h : DriveSafe s.coils s.chute.state) :
    DriveSafe (State.runPlan entries s).coils (State.runPlan entries s).chute.state := by
  unfold State.runPlan
  (repeat' split) <;> simp (maxDischargeDepth := 12) -implicitDefEqProofs [h]

@[simp] theorem State.startPayout_drive (cause : PayoutCause) (s : State) (h : DriveSafe s.coils s.chute.state) :
    DriveSafe (State.startPayout cause s).coils (State.startPayout cause s).chute.state := by
  simp (maxDischargeDepth := 12) -implicitDefEqProofs [State.startPayout, h]

@[simp] theorem State.entryDone_drive (s : State) (h : DriveSafe s.coils s.chute.state) :
    DriveSafe (State.entryDone s).coils (State.entryDone s).chute.state := by
  unfold State.entryDone
  (repeat' split) <;> simp (maxDischargeDepth := 12) -implicitDefEqProofs [h]

@[simp] theorem State.paidCoin_drive (i : Fin 4) (s : State) (h : DriveSafe s.coils s.chute.state) :
    DriveSafe (State.paidCoin i s).coils (State.paidCoin i s).chute.state := by
  unfold State.paidCoin
  dsimp only
  (repeat' split) <;> simp (maxDischargeDepth := 12) -implicitDefEqProofs [h]

@[simp] theorem State.extraCoin_drive (i : Fin 4) (s : State) (h : DriveSafe s.coils s.chute.state) :
    DriveSafe (State.extraCoin i s).coils (State.extraCoin i s).chute.state := by
  simp (maxDischargeDepth := 12) -implicitDefEqProofs [State.extraCoin, h]

@[simp] theorem State.exitPulse_drive (i : Fin 4) (s : State) (h : DriveSafe s.coils s.chute.state) :
    DriveSafe (State.exitPulse i s).coils (State.exitPulse i s).chute.state := by
  unfold State.exitPulse
  split <;> simp (maxDischargeDepth := 12) -implicitDefEqProofs [h]

@[simp] theorem State.jam_drive (i : Fin 4) (s : State) (h : DriveSafe s.coils s.chute.state) :
    DriveSafe (State.jam i s).coils (State.jam i s).chute.state := by
  simp (maxDischargeDepth := 12) -implicitDefEqProofs [State.jam, h]

@[simp] theorem State.afterJam_drive (s : State) (h : DriveSafe s.coils s.chute.state) :
    DriveSafe (State.afterJam s).coils (State.afterJam s).chute.state := by
  unfold State.afterJam
  (repeat' split) <;> simp (maxDischargeDepth := 12) -implicitDefEqProofs [h]

@[simp] theorem State.jamTimeout_drive (i : Fin 4) (s : State) (h : DriveSafe s.coils s.chute.state) :
    DriveSafe (State.jamTimeout i s).coils (State.jamTimeout i s).chute.state := by
  unfold State.jamTimeout
  split <;> simp (maxDischargeDepth := 12) -implicitDefEqProofs [h]

@[simp] theorem State.trailingEnds_drive (i : Fin 4) (s : State) (h : DriveSafe s.coils s.chute.state) :
    DriveSafe (State.trailingEnds i s).coils (State.trailingEnds i s).chute.state := by
  unfold State.trailingEnds
  split <;> simp (maxDischargeDepth := 12) -implicitDefEqProofs [h]

@[simp] theorem State.doorChange_drive (isOpen : Bool) (s : State) (h : DriveSafe s.coils s.chute.state) :
    DriveSafe (State.doorChange isOpen s).coils (State.doorChange isOpen s).chute.state := by
  unfold State.doorChange
  split <;> simp (maxDischargeDepth := 12) -implicitDefEqProofs [h]

@[simp] theorem State.leverPress_drive (s : State) (h : DriveSafe s.coils s.chute.state) :
    DriveSafe (State.leverPress s).coils (State.leverPress s).chute.state := by
  unfold State.leverPress
  split <;> simp (maxDischargeDepth := 12) -implicitDefEqProofs [h]

@[simp] theorem State.acceptOp_drive (o : OpRecord) (slots : Nat) (s : State) (h : DriveSafe s.coils s.chute.state) :
    DriveSafe (State.acceptOp o slots s).coils (State.acceptOp o slots s).chute.state := by
  simp (maxDischargeDepth := 12) -implicitDefEqProofs [State.acceptOp, h]

@[simp] theorem State.endOp_drive (move : Ledger → Ledger) (report : Report) (s : State) (h : DriveSafe s.coils s.chute.state) :
    DriveSafe (State.endOp move report s).coils (State.endOp move report s).chute.state := by
  simp (maxDischargeDepth := 12) -implicitDefEqProofs [State.endOp, h]

@[simp] theorem State.comeToRest_drive (s : State) (h : DriveSafe s.coils s.chute.state) :
    DriveSafe (State.comeToRest s).coils (State.comeToRest s).chute.state := by
  simp (maxDischargeDepth := 12) -implicitDefEqProofs [State.comeToRest, h]

@[simp] theorem State.afterSale_drive (o : OpRecord) (void : Bool) (s : State) (h : DriveSafe s.coils s.chute.state) :
    DriveSafe (State.afterSale o void s).coils (State.afterSale o void s).chute.state := by
  unfold State.afterSale
  split <;> simp (maxDischargeDepth := 12) -implicitDefEqProofs [h]

@[simp] theorem State.ticketEnds_drive (failure : Option VoidCause) (s : State) (h : DriveSafe s.coils s.chute.state) :
    DriveSafe (State.ticketEnds failure s).coils (State.ticketEnds failure s).chute.state := by
  unfold State.ticketEnds
  (repeat' split) <;> simp (maxDischargeDepth := 12) -implicitDefEqProofs [h]

@[simp] theorem State.voucherEnds_drive (failure : Option VoidCause) (s : State) (h : DriveSafe s.coils s.chute.state) :
    DriveSafe (State.voucherEnds failure s).coils (State.voucherEnds failure s).chute.state := by
  unfold State.voucherEnds
  (repeat' split) <;> simp (maxDischargeDepth := 12) -implicitDefEqProofs [h]

@[simp] theorem State.serveCancel_drive (s : State) (h : DriveSafe s.coils s.chute.state) :
    DriveSafe (State.serveCancel s).coils (State.serveCancel s).chute.state := by
  unfold State.serveCancel
  (repeat' split) <;> simp (maxDischargeDepth := 12) -implicitDefEqProofs [h]

@[simp] theorem State.serveTube_drive (tube count : Nat) (s : State) (h : DriveSafe s.coils s.chute.state) :
    DriveSafe (State.serveTube tube count s).coils (State.serveTube tube count s).chute.state := by
  unfold State.serveTube
  dsimp only
  (repeat' split) <;> simp (maxDischargeDepth := 12) -implicitDefEqProofs [h]

@[simp] theorem State.serveClearTotals_drive (s : State) (h : DriveSafe s.coils s.chute.state) :
    DriveSafe (State.serveClearTotals s).coils (State.serveClearTotals s).chute.state := by
  unfold State.serveClearTotals
  (repeat' split) <;> simp (maxDischargeDepth := 12) -implicitDefEqProofs [h]

@[simp] theorem State.printDuty_drive (s : State) (h : DriveSafe s.coils s.chute.state) :
    DriveSafe (State.printDuty s).coils (State.printDuty s).chute.state := by
  unfold State.printDuty
  split <;> simp (maxDischargeDepth := 12) -implicitDefEqProofs [h]

@[simp] theorem State.startJob_drive (kind : JobKind) (txn template : Nat) (v : FieldValues) (s : State) (h : DriveSafe s.coils s.chute.state) :
    DriveSafe (State.startJob kind txn template v s).coils (State.startJob kind txn template v s).chute.state := by
  simp (maxDischargeDepth := 12) -implicitDefEqProofs [State.startJob, h]

@[simp] theorem State.receiptEnds_drive (txn : Nat) (failure : Option VoidCause) (s : State) (h : DriveSafe s.coils s.chute.state) :
    DriveSafe (State.receiptEnds txn failure s).coils (State.receiptEnds txn failure s).chute.state := by
  simp (maxDischargeDepth := 12) -implicitDefEqProofs [State.receiptEnds, h]

@[simp] theorem State.tellOwner_drive (j : Job) (failure : Option VoidCause) (s : State) (h : DriveSafe s.coils s.chute.state) :
    DriveSafe (State.tellOwner j failure s).coils (State.tellOwner j failure s).chute.state := by
  unfold State.tellOwner
  split <;> simp (maxDischargeDepth := 12) -implicitDefEqProofs [h]

@[simp] theorem State.jobEnds_drive (failure : Option VoidCause) (s : State) (h : DriveSafe s.coils s.chute.state) :
    DriveSafe (State.jobEnds failure s).coils (State.jobEnds failure s).chute.state := by
  unfold State.jobEnds
  split <;> simp (maxDischargeDepth := 12) -implicitDefEqProofs [h]

@[simp] theorem State.cutTimeout_drive (s : State) (h : DriveSafe s.coils s.chute.state) :
    DriveSafe (State.cutTimeout s).coils (State.cutTimeout s).chute.state := by
  unfold State.cutTimeout
  (repeat' split) <;> simp (maxDischargeDepth := 12) -implicitDefEqProofs [h]

@[simp] theorem State.roomAskDelay_drive (s : State) (h : DriveSafe s.coils s.chute.state) :
    DriveSafe (State.roomAskDelay s).coils (State.roomAskDelay s).chute.state := by
  unfold State.roomAskDelay
  split <;> simp (maxDischargeDepth := 12) -implicitDefEqProofs [h]

@[simp] theorem State.takeState_drive (paper : Paper) (head : Head) (fault : PrinterFault) (s : State) (h : DriveSafe s.coils s.chute.state) :
    DriveSafe (State.takeState paper head fault s).coils (State.takeState paper head fault s).chute.state := by
  unfold State.takeState
  dsimp only
  (repeat' split) <;> simp (maxDischargeDepth := 12) -implicitDefEqProofs [h]

@[simp] theorem State.takeCutDone_drive (tag : Nat) (s : State) (h : DriveSafe s.coils s.chute.state) :
    DriveSafe (State.takeCutDone tag s).coils (State.takeCutDone tag s).chute.state := by
  unfold State.takeCutDone
  (repeat' split) <;> simp (maxDischargeDepth := 12) -implicitDefEqProofs [h]

@[simp] theorem State.takeNotice_drive (s : State) (n : Notice) (h : DriveSafe s.coils s.chute.state) : DriveSafe (s.takeNotice n).coils (s.takeNotice n).chute.state := by
  unfold State.takeNotice; split <;> simp (maxDischargeDepth := 12) -implicitDefEqProofs [h]

@[simp] theorem State.takeNotices_drive (kind : Byte) (payload : List Byte) (s : State) (h : DriveSafe s.coils s.chute.state) :
    DriveSafe (s.takeNotices kind payload).coils (s.takeNotices kind payload).chute.state :=
  State.takeNotices_keeps (fun t => DriveSafe t.coils t.chute.state) (fun n t ht => State.takeNotice_drive t n ht) kind payload s h

@[simp] theorem State.lineOutcome_drive (tag : Nat) (valid : Bool) (s : State) (h : DriveSafe s.coils s.chute.state) :
    DriveSafe (State.lineOutcome tag valid s).coils (State.lineOutcome tag valid s).chute.state := by
  simp (maxDischargeDepth := 12) -implicitDefEqProofs [State.lineOutcome, h]

@[simp] theorem State.cutOutcome_drive (tag : Nat) (valid : Bool) (s : State) (h : DriveSafe s.coils s.chute.state) :
    DriveSafe (State.cutOutcome tag valid s).coils (State.cutOutcome tag valid s).chute.state := by
  simp (maxDischargeDepth := 12) -implicitDefEqProofs [State.cutOutcome, h]

@[simp] theorem State.askOutcome_drive (forRoom valid : Bool) (s : State) (h : DriveSafe s.coils s.chute.state) :
    DriveSafe (State.askOutcome forRoom valid s).coils (State.askOutcome forRoom valid s).chute.state := by
  simp (maxDischargeDepth := 12) -implicitDefEqProofs [State.askOutcome, h]

@[simp] theorem State.printerAbsent_drive (s : State) (h : DriveSafe s.coils s.chute.state) :
    DriveSafe (State.printerAbsent s).coils (State.printerAbsent s).chute.state := by
  simp (maxDischargeDepth := 12) -implicitDefEqProofs [State.printerAbsent, h]

@[simp] theorem State.serveVoucher_drive (s : State) (h : DriveSafe s.coils s.chute.state) :
    DriveSafe (State.serveVoucher s).coils (State.serveVoucher s).chute.state := by
  unfold State.serveVoucher
  split <;> simp (maxDischargeDepth := 12) -implicitDefEqProofs [h]

@[simp] theorem State.serveReprint_drive (s : State) (h : DriveSafe s.coils s.chute.state) :
    DriveSafe (State.serveReprint s).coils (State.serveReprint s).chute.state := by
  unfold State.serveReprint
  (repeat' split) <;> simp (maxDischargeDepth := 12) -implicitDefEqProofs [h]

@[simp] theorem State.carryOut_drive (r : JournalRecord) (o : Resolution) (s : State) (h : DriveSafe s.coils s.chute.state) :
    DriveSafe (State.carryOut r o s).coils (State.carryOut r o s).chute.state := by
  simp (maxDischargeDepth := 12) -implicitDefEqProofs [State.carryOut, h]

@[simp] theorem State.resolve_drive (p : Presentation) (s : State) (h : DriveSafe s.coils s.chute.state) :
    DriveSafe (State.resolve p s).coils (State.resolve p s).chute.state := by
  unfold State.resolve
  split <;> simp (maxDischargeDepth := 12) -implicitDefEqProofs [h]

@[simp] theorem State.bindCard_drive (p : Presentation) (s : State) (h : DriveSafe s.coils s.chute.state) :
    DriveSafe (State.bindCard p s).coils (State.bindCard p s).chute.state := by
  unfold State.bindCard
  dsimp only
  (repeat' split) <;> simp (maxDischargeDepth := 12) -implicitDefEqProofs [h]

@[simp] theorem State.unbind_drive (s : State) (h : DriveSafe s.coils s.chute.state) :
    DriveSafe (State.unbind s).coils (State.unbind s).chute.state := by
  simp (maxDischargeDepth := 12) -implicitDefEqProofs [State.unbind, h]

@[simp] theorem State.afterUnbind_drive (s : State) (h : DriveSafe s.coils s.chute.state) :
    DriveSafe (State.afterUnbind s).coils (State.afterUnbind s).chute.state := by
  unfold State.afterUnbind
  dsimp only
  (repeat' split) <;> simp (maxDischargeDepth := 12) -implicitDefEqProofs [h]

@[simp] theorem State.cardLeaves_drive (s : State) (h : DriveSafe s.coils s.chute.state) :
    DriveSafe (State.cardLeaves s).coils (State.cardLeaves s).chute.state := by
  unfold State.cardLeaves
  (repeat' split) <;> simp (maxDischargeDepth := 12) -implicitDefEqProofs [h]

@[simp] theorem State.takeSeen_drive (p : Presentation) (s : State) (h : DriveSafe s.coils s.chute.state) :
    DriveSafe (State.takeSeen p s).coils (State.takeSeen p s).chute.state := by
  unfold State.takeSeen
  (repeat' split) <;> simp (maxDischargeDepth := 12) -implicitDefEqProofs [h]

@[simp] theorem State.startWrite_drive (o : OpRecord) (b : Binding) (w : Written) (s : State) (h : DriveSafe s.coils s.chute.state) :
    DriveSafe (State.startWrite o b w s).coils (State.startWrite o b w s).chute.state := by
  simp (maxDischargeDepth := 12) -implicitDefEqProofs [State.startWrite, h]

@[simp] theorem State.handReceipt_drive (o : OpRecord) (w : CardWrite) (newBalance : Nat) (s : State) (h : DriveSafe s.coils s.chute.state) :
    DriveSafe (State.handReceipt o w newBalance s).coils (State.handReceipt o w newBalance s).chute.state := by
  unfold State.handReceipt
  dsimp only
  (repeat' split) <;> simp (maxDischargeDepth := 12) -implicitDefEqProofs [h]

@[simp] theorem State.writeEnds_drive (s : State) (h : DriveSafe s.coils s.chute.state) :
    DriveSafe (State.writeEnds s).coils (State.writeEnds s).chute.state := by
  unfold State.writeEnds
  dsimp only
  (repeat' split) <;> simp (maxDischargeDepth := 12) -implicitDefEqProofs [h]

@[simp] theorem State.writeDone_drive (o : OpRecord) (w : CardWrite) (newSequence : Nat) (s : State) (h : DriveSafe s.coils s.chute.state) :
    DriveSafe (State.writeDone o w newSequence s).coils (State.writeDone o w newSequence s).chute.state := by
  unfold State.writeDone
  split <;> simp (maxDischargeDepth := 12) -implicitDefEqProofs [h]

@[simp] theorem State.writeFail_drive (o : OpRecord) (w : CardWrite) (s : State) (h : DriveSafe s.coils s.chute.state) :
    DriveSafe (State.writeFail o w s).coils (State.writeFail o w s).chute.state := by
  unfold State.writeFail
  split <;> simp (maxDischargeDepth := 12) -implicitDefEqProofs [h]

@[simp] theorem State.writeUncertain_drive (o : OpRecord) (w : CardWrite) (cause : UncertainCause) (s : State) (h : DriveSafe s.coils s.chute.state) :
    DriveSafe (State.writeUncertain o w cause s).coils (State.writeUncertain o w cause s).chute.state := by
  unfold State.writeUncertain
  dsimp only
  (repeat' split) <;> simp (maxDischargeDepth := 12) -implicitDefEqProofs [h]

@[simp] theorem State.takeWritten_drive (txn : Nat) (r : WriteResult) (s : State) (h : DriveSafe s.coils s.chute.state) :
    DriveSafe (State.takeWritten txn r s).coils (State.takeWritten txn r s).chute.state := by
  unfold State.takeWritten
  (repeat' split) <;> simp (maxDischargeDepth := 12) -implicitDefEqProofs [h]

@[simp] theorem State.writeTimeout_drive (s : State) (h : DriveSafe s.coils s.chute.state) :
    DriveSafe (State.writeTimeout s).coils (State.writeTimeout s).chute.state := by
  unfold State.writeTimeout
  (repeat' split) <;> simp (maxDischargeDepth := 12) -implicitDefEqProofs [h]

@[simp] theorem State.cardAbsent_drive (s : State) (h : DriveSafe s.coils s.chute.state) :
    DriveSafe (State.cardAbsent s).coils (State.cardAbsent s).chute.state := by
  unfold State.cardAbsent
  dsimp only
  (repeat' split) <;> simp (maxDischargeDepth := 12) -implicitDefEqProofs [h]

@[simp] theorem State.takeCardFrame_drive (kind : Byte) (p : List Byte) (s : State) (h : DriveSafe s.coils s.chute.state) :
    DriveSafe (State.takeCardFrame kind p s).coils (State.takeCardFrame kind p s).chute.state := by
  unfold State.takeCardFrame
  (repeat' split) <;> simp (maxDischargeDepth := 12) -implicitDefEqProofs [h]

@[simp] theorem State.serveTopup_drive (amount : Word16) (receipt : Bool) (s : State) (h : DriveSafe s.coils s.chute.state) :
    DriveSafe (State.serveTopup amount receipt s).coils (State.serveTopup amount receipt s).chute.state := by
  unfold State.serveTopup
  split <;> simp (maxDischargeDepth := 12) -implicitDefEqProofs [h]

@[simp] theorem State.serveWriteOff_drive (txn : Nat) (s : State) (h : DriveSafe s.coils s.chute.state) :
    DriveSafe (State.serveWriteOff txn s).coils (State.serveWriteOff txn s).chute.state := by
  unfold State.serveWriteOff
  dsimp only
  (repeat' split) <;> simp (maxDischargeDepth := 12) -implicitDefEqProofs [h]

@[simp] theorem State.startSale_drive (o : OpRecord) (q : SellRequest) (t : SaleTerms) (s : State) (h : DriveSafe s.coils s.chute.state) :
    DriveSafe (State.startSale o q t s).coils (State.startSale o q t s).chute.state := by
  unfold State.startSale
  split <;> simp (maxDischargeDepth := 12) -implicitDefEqProofs [h]

@[simp] theorem State.serveSell_drive (q : SellRequest) (s : State) (h : DriveSafe s.coils s.chute.state) :
    DriveSafe (State.serveSell q s).coils (State.serveSell q s).chute.state := by
  unfold State.serveSell
  split <;> simp (maxDischargeDepth := 12) -implicitDefEqProofs [h]

@[simp] theorem State.passDown_drive (f : Frame) (s : State) (h : DriveSafe s.coils s.chute.state) :
    DriveSafe (State.passDown f s).coils (State.passDown f s).chute.state := by
  unfold State.passDown
  split <;> simp (maxDischargeDepth := 12) -implicitDefEqProofs [h]

@[simp] theorem State.consume_drive (r : Role) (f : Frame) (s : State) (h : DriveSafe s.coils s.chute.state) :
    DriveSafe (State.consume r f s).coils (State.consume r f s).chute.state := by
  unfold State.consume
  split <;> simp (maxDischargeDepth := 12) -implicitDefEqProofs [h]

@[simp] theorem State.disposeAnswer_drive (i : Fin 6) (f : Frame) (s : State) (h : DriveSafe s.coils s.chute.state) :
    DriveSafe (State.disposeAnswer i f s).coils (State.disposeAnswer i f s).chute.state := by
  unfold State.disposeAnswer
  dsimp only
  (repeat' split) <;> simp (maxDischargeDepth := 12) -implicitDefEqProofs [h]

theorem State.grantWrite_drive {s t : State} (e : s.grantWrite = some t) (h : DriveSafe s.coils s.chute.state) : DriveSafe t.coils t.chute.state := by
  unfold State.grantWrite at e
  repeat' split at e
  all_goals first
    | (cases e; done)
    | (simp only [Option.some.injEq] at e; subst e; simp (maxDischargeDepth := 12) -implicitDefEqProofs [h]; done)
    | (simp only [Option.map_eq_some_iff] at e; obtain ⟨_, _, rfl⟩ := e; simp (maxDischargeDepth := 12) -implicitDefEqProofs [h])

theorem State.grantPrint_drive {s t : State} (e : s.grantPrint = some t) (h : DriveSafe s.coils s.chute.state) : DriveSafe t.coils t.chute.state := by
  unfold State.grantPrint at e
  repeat' split at e
  all_goals first
    | (cases e; done)
    | (simp only [Option.some.injEq] at e; subst e; simp (maxDischargeDepth := 12) -implicitDefEqProofs [h]; done)
    | (simp only [Option.map_eq_some_iff] at e; obtain ⟨_, _, rfl⟩ := e; simp (maxDischargeDepth := 12) -implicitDefEqProofs [h])

theorem State.grantClass3_drive {s t : State} (e : s.grantClass3 = some t) (h : DriveSafe s.coils s.chute.state) : DriveSafe t.coils t.chute.state := by
  unfold State.grantClass3 at e
  repeat' split at e
  all_goals first
    | (cases e; done)
    | (simp only [Option.some.injEq] at e; subst e; simp (maxDischargeDepth := 12) -implicitDefEqProofs [h]; done)
    | (simp only [Option.map_eq_some_iff] at e; obtain ⟨_, _, rfl⟩ := e; simp (maxDischargeDepth := 12) -implicitDefEqProofs [h])

theorem State.grantForward_drive {s t : State} (e : s.grantForward = some t) (h : DriveSafe s.coils s.chute.state) : DriveSafe t.coils t.chute.state := by
  unfold State.grantForward at e
  repeat' split at e
  all_goals first
    | (cases e; done)
    | (simp only [Option.some.injEq] at e; subst e; simp (maxDischargeDepth := 12) -implicitDefEqProofs [h]; done)
    | (simp only [Option.map_eq_some_iff] at e; obtain ⟨_, _, rfl⟩ := e; simp (maxDischargeDepth := 12) -implicitDefEqProofs [h])

theorem State.grantPoll_drive {s t : State} (e : s.grantPoll = some t) (h : DriveSafe s.coils s.chute.state) : DriveSafe t.coils t.chute.state := by
  unfold State.grantPoll at e
  repeat' split at e
  all_goals first
    | (cases e; done)
    | (simp only [Option.some.injEq] at e; subst e; simp (maxDischargeDepth := 12) -implicitDefEqProofs [h]; done)
    | (simp only [Option.map_eq_some_iff] at e; obtain ⟨_, _, rfl⟩ := e; simp (maxDischargeDepth := 12) -implicitDefEqProofs [h])

@[simp] theorem State.grant_drive (s : State) (h : DriveSafe s.coils s.chute.state) : DriveSafe s.grant.coils s.grant.chute.state :=
  State.grant_keeps (fun t => DriveSafe t.coils t.chute.state) s h (fun _ e => State.grantWrite_drive e h) (fun _ e => State.grantPrint_drive e h)
    (fun _ e => State.grantClass3_drive e h) (fun _ e => State.grantForward_drive e h) (fun _ e => State.grantPoll_drive e h)

@[simp] theorem State.issuePresence_drive (r : Role) (discards : Nat) (s : State) (h : DriveSafe s.coils s.chute.state) :
    DriveSafe (State.issuePresence r discards s).coils (State.issuePresence r discards s).chute.state := by
  unfold State.issuePresence
  split <;> simp (maxDischargeDepth := 12) -implicitDefEqProofs [h]

@[simp] theorem State.tellAbsent_drive (r : Role) (s : State) (h : DriveSafe s.coils s.chute.state) :
    DriveSafe (State.tellAbsent r s).coils (State.tellAbsent r s).chute.state := by
  unfold State.tellAbsent
  split <;> simp (maxDischargeDepth := 12) -implicitDefEqProofs [h]

@[simp] theorem State.slotAbsent_drive (i : Fin 6) (s : State) (h : DriveSafe s.coils s.chute.state) :
    DriveSafe (State.slotAbsent i s).coils (State.slotAbsent i s).chute.state := by
  simp (maxDischargeDepth := 12) -implicitDefEqProofs [State.slotAbsent, h]

@[simp] theorem State.tellPresent_drive (r : Role) (s : State) (h : DriveSafe s.coils s.chute.state) :
    DriveSafe (State.tellPresent r s).coils (State.tellPresent r s).chute.state := by
  unfold State.tellPresent
  split <;> simp (maxDischargeDepth := 12) -implicitDefEqProofs [h]

@[simp] theorem State.slotPresent_drive (i : Fin 6) (s : State) (h : DriveSafe s.coils s.chute.state) :
    DriveSafe (State.slotPresent i s).coils (State.slotPresent i s).chute.state := by
  simp (maxDischargeDepth := 12) -implicitDefEqProofs [State.slotPresent, h]

@[simp] theorem State.answered_drive (i : Fin 6) (s : State) (h : DriveSafe s.coils s.chute.state) :
    DriveSafe (State.answered i s).coils (State.answered i s).chute.state := by
  unfold State.answered
  split <;> simp (maxDischargeDepth := 12) -implicitDefEqProofs [h]

@[simp] theorem State.missed_drive (i : Fin 6) (s : State) (h : DriveSafe s.coils s.chute.state) :
    DriveSafe (State.missed i s).coils (State.missed i s).chute.state := by
  unfold State.missed
  dsimp only
  (repeat' split) <;> simp (maxDischargeDepth := 12) -implicitDefEqProofs [h]

@[simp] theorem State.reprobeDue_drive (i : Fin 6) (s : State) (h : DriveSafe s.coils s.chute.state) :
    DriveSafe (State.reprobeDue i s).coils (State.reprobeDue i s).chute.state := by
  unfold State.reprobeDue
  split <;> simp (maxDischargeDepth := 12) -implicitDefEqProofs [h]

@[simp] theorem State.tellOutcome_drive (o : Owner) (valid : Bool) (s : State) (h : DriveSafe s.coils s.chute.state) :
    DriveSafe (State.tellOutcome o valid s).coils (State.tellOutcome o valid s).chute.state := by
  unfold State.tellOutcome
  split <;> simp (maxDischargeDepth := 12) -implicitDefEqProofs [h]

@[simp] theorem State.endValid_drive (i : Fin 6) (o : Owner) (f : Frame) (s : State) (h : DriveSafe s.coils s.chute.state) :
    DriveSafe (State.endValid i o f s).coils (State.endValid i o f s).chute.state := by
  simp (maxDischargeDepth := 12) -implicitDefEqProofs [State.endValid, h]

@[simp] theorem State.endInvalid_drive (i : Fin 6) (o : Owner) (s : State) (h : DriveSafe s.coils s.chute.state) :
    DriveSafe (State.endInvalid i o s).coils (State.endInvalid i o s).chute.state := by
  simp (maxDischargeDepth := 12) -implicitDefEqProofs [State.endInvalid, h]

@[simp] theorem State.moduleFrame_drive (f : Frame) (s : State) (h : DriveSafe s.coils s.chute.state) :
    DriveSafe (State.moduleFrame f s).coils (State.moduleFrame f s).chute.state := by
  unfold State.moduleFrame
  (repeat' split) <;> simp (maxDischargeDepth := 12) -implicitDefEqProofs [h]

@[simp] theorem State.noAnswer_drive (s : State) (h : DriveSafe s.coils s.chute.state) :
    DriveSafe (State.noAnswer s).coils (State.noAnswer s).chute.state := by
  unfold State.noAnswer
  split <;> simp (maxDischargeDepth := 12) -implicitDefEqProofs [h]

@[simp] theorem State.windowPasses_drive (s : State) (h : DriveSafe s.coils s.chute.state) :
    DriveSafe (State.windowPasses s).coils (State.windowPasses s).chute.state := by
  unfold State.windowPasses
  split <;> simp (maxDischargeDepth := 12) -implicitDefEqProofs [h]

@[simp] theorem State.groupEnds_drive (s : State) (h : DriveSafe s.coils s.chute.state) :
    DriveSafe (State.groupEnds s).coils (State.groupEnds s).chute.state := by
  unfold State.groupEnds
  split <;> simp (maxDischargeDepth := 12) -implicitDefEqProofs [h]

@[simp] theorem State.frameSeen_drive (s : State) (h : DriveSafe s.coils s.chute.state) :
    DriveSafe (State.frameSeen s).coils (State.frameSeen s).chute.state := by
  unfold State.frameSeen
  split <;> simp (maxDischargeDepth := 12) -implicitDefEqProofs [h]

theorem State.gated_drive (k : Byte) (f : State → State) (s : State) (hf : DriveSafe s.coils s.chute.state → DriveSafe (f s).coils (f s).chute.state)
    (h : DriveSafe s.coils s.chute.state) : DriveSafe (s.gated k f).coils (s.gated k f).chute.state := by
  unfold State.gated; split
  · simpa using h
  · exact hf h

@[simp] theorem State.setUp_drive (id rate : Nat) (roles : Vector Role 6) (silence : Nat) (s : State) (h : DriveSafe s.coils s.chute.state) :
    DriveSafe (State.setUp id rate roles silence s).coils (State.setUp id rate roles silence s).chute.state := by
  simp (maxDischargeDepth := 12) -implicitDefEqProofs [State.setUp, h]

@[simp] theorem State.serveSetup_drive (id : Word16) (rate : Byte) (codes : Vector Byte 6) (silence : Byte) (s : State) (h : DriveSafe s.coils s.chute.state) :
    DriveSafe (State.serveSetup id rate codes silence s).coils (State.serveSetup id rate codes silence s).chute.state := by
  unfold State.serveSetup
  (repeat' split) <;> simp (maxDischargeDepth := 12) -implicitDefEqProofs [h]

@[simp] theorem State.serveAlive_drive (s : State) (h : DriveSafe s.coils s.chute.state) :
    DriveSafe (State.serveAlive s).coils (State.serveAlive s).chute.state := by
  simp (maxDischargeDepth := 12) -implicitDefEqProofs [State.serveAlive, h]

@[simp] theorem State.serveService_drive (on : Bool) (s : State) (h : DriveSafe s.coils s.chute.state) :
    DriveSafe (State.serveService on s).coils (State.serveService on s).chute.state := by
  unfold State.serveService
  (repeat' split) <;> simp (maxDischargeDepth := 12) -implicitDefEqProofs [h]

@[simp] theorem State.serveInhibit_drive (on : Bool) (s : State) (h : DriveSafe s.coils s.chute.state) :
    DriveSafe (State.serveInhibit on s).coils (State.serveInhibit on s).chute.state := by
  simp (maxDischargeDepth := 12) -implicitDefEqProofs [State.serveInhibit, h]

@[simp] theorem State.serveRestart_drive (s : State) (h : DriveSafe s.coils s.chute.state) :
    DriveSafe (State.serveRestart s).coils (State.serveRestart s).chute.state := by
  simp (maxDischargeDepth := 12) -implicitDefEqProofs [State.serveRestart, h]

@[simp] theorem State.serveClearAll_drive (s : State) (h : DriveSafe s.coils s.chute.state) :
    DriveSafe (State.serveClearAll s).coils (State.serveClearAll s).chute.state := by
  unfold State.serveClearAll
  (repeat' split) <;> simp (maxDischargeDepth := 12) -implicitDefEqProofs [h]

@[simp] theorem State.serveClock_drive (day second dayOfWeek : Nat) (s : State) (h : DriveSafe s.coils s.chute.state) :
    DriveSafe (State.serveClock day second dayOfWeek s).coils (State.serveClock day second dayOfWeek s).chute.state := by
  unfold State.serveClock
  split <;> simp (maxDischargeDepth := 12) -implicitDefEqProofs [h]

@[simp] theorem State.serveQuery_drive (topic index : Byte) (s : State) (h : DriveSafe s.coils s.chute.state) :
    DriveSafe (State.serveQuery topic index s).coils (State.serveQuery topic index s).chute.state := by
  unfold State.serveQuery
  (repeat' split) <;> simp (maxDischargeDepth := 12) -implicitDefEqProofs [h]

@[simp] theorem State.takeSetup_drive (id : Word16) (rate : Byte) (roles : Vector Byte 6) (silence : Byte) (s : State) (h : DriveSafe s.coils s.chute.state) :
    DriveSafe (State.takeSetup id rate roles silence s).coils (State.takeSetup id rate roles silence s).chute.state := by
  simp (maxDischargeDepth := 12) -implicitDefEqProofs [State.takeSetup, h]

@[simp] theorem State.takeLoad_drive (kind : TableKind) (generation : Word16) (index total : Byte) (check count : Word16) (entries : List Byte) (s : State) (h : DriveSafe s.coils s.chute.state) :
    DriveSafe (State.takeLoad kind generation index total check count entries s).coils (State.takeLoad kind generation index total check count entries s).chute.state := by
  unfold State.takeLoad
  (repeat' split) <;> simp (maxDischargeDepth := 12) -implicitDefEqProofs [h]

@[simp] theorem State.takeActivate_drive (kind : TableKind) (generation : Word16) (due : Due) (s : State) (h : DriveSafe s.coils s.chute.state) :
    DriveSafe (State.takeActivate kind generation due s).coils (State.takeActivate kind generation due s).chute.state := by
  unfold State.takeActivate; exact State.gated_drive _ _ _ (fun h => by simp (maxDischargeDepth := 12) -implicitDefEqProofs [h]) h

@[simp] theorem State.takeSell_drive (product zones : Byte) (concession : Fin 8) (medium : Medium) (keep : Bool) (s : State) (h : DriveSafe s.coils s.chute.state) :
    DriveSafe (State.takeSell product zones concession medium keep s).coils (State.takeSell product zones concession medium keep s).chute.state := by
  unfold State.takeSell; exact State.gated_drive _ _ _ (fun h => by simp (maxDischargeDepth := 12) -implicitDefEqProofs [h]) h

@[simp] theorem State.takeClock_drive (day : Word16) (second : Word32) (dayOfWeek : Byte) (s : State) (h : DriveSafe s.coils s.chute.state) :
    DriveSafe (State.takeClock day second dayOfWeek s).coils (State.takeClock day second dayOfWeek s).chute.state := by
  unfold State.takeClock; exact State.gated_drive _ _ _ (fun h => by simp (maxDischargeDepth := 12) -implicitDefEqProofs [h]) h

@[simp] theorem State.takeTube_drive (tube count : Byte) (s : State) (h : DriveSafe s.coils s.chute.state) :
    DriveSafe (State.takeTube tube count s).coils (State.takeTube tube count s).chute.state := by
  unfold State.takeTube; exact State.gated_drive _ _ _ (fun h => by simp (maxDischargeDepth := 12) -implicitDefEqProofs [h]) h

@[simp] theorem State.takeRequest_drive (i : Instr) (s : State) (h : DriveSafe s.coils s.chute.state) : DriveSafe (s.takeRequest i).coils (s.takeRequest i).chute.state := by
  unfold State.takeRequest
  split <;> first
    | exact h
    | (simp (maxDischargeDepth := 12) -implicitDefEqProofs [h]; done)
    | exact State.gated_drive _ _ _ (fun h => by simp (maxDischargeDepth := 12) -implicitDefEqProofs [h]) h

@[simp] theorem State.refuseFormat_drive (kind : Byte) (p : List Byte) (s : State) (h : DriveSafe s.coils s.chute.state) :
    DriveSafe (State.refuseFormat kind p s).coils (State.refuseFormat kind p s).chute.state := by
  unfold State.refuseFormat
  split <;> simp (maxDischargeDepth := 12) -implicitDefEqProofs [h]

@[simp] theorem State.disposeRequest_drive (kind : Byte) (p : List Byte) (s : State) (h : DriveSafe s.coils s.chute.state) :
    DriveSafe (State.disposeRequest kind p s).coils (State.disposeRequest kind p s).chute.state := by
  unfold State.disposeRequest
  split <;> simp (maxDischargeDepth := 12) -implicitDefEqProofs [h]

@[simp] theorem State.disposeDownward_drive (f : Frame) (s : State) (h : DriveSafe s.coils s.chute.state) :
    DriveSafe (State.disposeDownward f s).coils (State.disposeDownward f s).chute.state := by
  unfold State.disposeDownward
  split <;> simp (maxDischargeDepth := 12) -implicitDefEqProofs [h]

@[simp] theorem State.disposeFrame_drive (f : Frame) (s : State) (h : DriveSafe s.coils s.chute.state) :
    DriveSafe (State.disposeFrame f s).coils (State.disposeFrame f s).chute.state := by
  unfold State.disposeFrame
  (repeat' split) <;> simp (maxDischargeDepth := 12) -implicitDefEqProofs [h]

theorem State.onCLine_drive (f : Frame) (g : State → State) (s : State)
    (hg : ∀ t : State, DriveSafe t.coils t.chute.state → DriveSafe (g t).coils (g t).chute.state) (h : DriveSafe s.coils s.chute.state) : DriveSafe (s.onCLine f g).coils (s.onCLine f g).chute.state := by
  unfold State.onCLine
  repeat' split
  · exact h
  · simpa using h
  · exact hg _ (by simpa using State.frameSeen_drive s h)

theorem State.onRequest_drive (i : Instr) (g : State → State) (s : State)
    (hg : ∀ t : State, DriveSafe t.coils t.chute.state → DriveSafe (g t).coils (g t).chute.state) (h : DriveSafe s.coils s.chute.state) : DriveSafe (s.onRequest i g).coils (s.onRequest i g).chute.state := by
  unfold State.onRequest
  split
  · exact State.onCLine_drive _ _ _ hg h
  · exact h

@[simp] theorem State.runC_drive (s : State) (h : DriveSafe s.coils s.chute.state) : DriveSafe s.runC.coils s.runC.chute.state :=
  State.pumpC_keeps (fun t => DriveSafe t.coils t.chute.state) (fun _ _ ht => ht) (fun f _ ht => State.disposeFrame_drive f _ (State.frameSeen_drive _ ht)) _ s h

@[simp] theorem State.runM_drive (s : State) (h : DriveSafe s.coils s.chute.state) : DriveSafe s.runM.coils s.runM.chute.state :=
  State.pumpM_keeps (fun t => DriveSafe t.coils t.chute.state) (fun _ _ ht => ht) (fun t ht => State.noAnswer_drive t ht)
    (fun f t ht => State.moduleFrame_drive f t ht) _ s h

@[simp] theorem State.onReceiver_drive (l : Line) (f : Receiver → Receiver) (s : State)
    (h : DriveSafe s.coils s.chute.state) : DriveSafe (s.onReceiver l f).coils (s.onReceiver l f).chute.state := by
  unfold State.onReceiver; repeat' split
  · exact State.runC_drive _ h
  · exact State.runM_drive _ h
  · exact h

@[simp] theorem State.characterArrives_drive (l : Line) (value : Byte) (parity stopMark : Bool) (s : State) (h : DriveSafe s.coils s.chute.state) :
    DriveSafe (State.characterArrives l value parity stopMark s).coils (State.characterArrives l value parity stopMark s).chute.state := by
  simp (maxDischargeDepth := 12) -implicitDefEqProofs [State.characterArrives, h]

@[simp] theorem State.breakArrives_drive (l : Line) (s : State) (h : DriveSafe s.coils s.chute.state) :
    DriveSafe (State.breakArrives l s).coils (State.breakArrives l s).chute.state := by
  simp (maxDischargeDepth := 12) -implicitDefEqProofs [State.breakArrives, h]

@[simp] theorem State.gapExpires_drive (l : Line) (s : State) (h : DriveSafe s.coils s.chute.state) :
    DriveSafe (State.gapExpires l s).coils (State.gapExpires l s).chute.state := by
  unfold State.gapExpires
  split <;> simp (maxDischargeDepth := 12) -implicitDefEqProofs [h]

@[simp] theorem State.takeNext_drive (s : State) (h : DriveSafe s.coils s.chute.state) :
    DriveSafe (State.takeNext s).coils (State.takeNext s).chute.state := by
  unfold State.takeNext
  split <;> simp (maxDischargeDepth := 12) -implicitDefEqProofs [h]

@[simp] theorem State.transmitEnds_drive (s : State) (h : DriveSafe s.coils s.chute.state) :
    DriveSafe (State.transmitEnds s).coils (State.transmitEnds s).chute.state := by
  unfold State.transmitEnds
  split <;> simp (maxDischargeDepth := 12) -implicitDefEqProofs [h]

@[simp] theorem State.transmit_drive (s : State) (h : DriveSafe s.coils s.chute.state) :
    DriveSafe (State.transmit s).coils (State.transmit s).chute.state := by
  unfold State.transmit
  split <;> simp (maxDischargeDepth := 12) -implicitDefEqProofs [h]

@[simp] theorem State.silenceExpires_drive (s : State) (h : DriveSafe s.coils s.chute.state) :
    DriveSafe (State.silenceExpires s).coils (State.silenceExpires s).chute.state := by
  unfold State.silenceExpires
  split <;> simp (maxDischargeDepth := 12) -implicitDefEqProofs [h]

@[simp] theorem State.secondAdvances_drive (s : State) (h : DriveSafe s.coils s.chute.state) :
    DriveSafe (State.secondAdvances s).coils (State.secondAdvances s).chute.state := by
  unfold State.secondAdvances
  dsimp only
  (repeat' split) <;> simp (maxDischargeDepth := 12) -implicitDefEqProofs [h]

@[simp] theorem State.hundredthAdvances_drive (s : State) (h : DriveSafe s.coils s.chute.state) :
    DriveSafe (State.hundredthAdvances s).coils (State.hundredthAdvances s).chute.state := by
  unfold State.hundredthAdvances
  (repeat' split) <;> simp (maxDischargeDepth := 12) -implicitDefEqProofs [h]

@[simp] theorem State.oscillatorStops_drive (s : State) (h : DriveSafe s.coils s.chute.state) :
    DriveSafe (State.oscillatorStops s).coils (State.oscillatorStops s).chute.state := by
  unfold State.oscillatorStops
  split <;> simp (maxDischargeDepth := 12) -implicitDefEqProofs [h]

@[simp] theorem State.timeBaseRuns_drive (s : State) (h : DriveSafe s.coils s.chute.state) :
    DriveSafe (State.timeBaseRuns s).coils (State.timeBaseRuns s).chute.state := by
  simp (maxDischargeDepth := 12) -implicitDefEqProofs [State.timeBaseRuns, h]

theorem State.startValues_drive (r : Resolved) (c : Clock) (pins : Pins) (s : State) :
    DriveSafe (s.startValues r c pins).coils (s.startValues r c pins).chute.state :=
  ⟨rfl, fun _ => rfl, fun _ => rfl, fun e => (by cases e)⟩

@[simp] theorem State.firstPeriod_drive (s : State) (h : DriveSafe s.coils s.chute.state) :
    DriveSafe s.firstPeriod.coils s.firstPeriod.chute.state := by
  unfold State.firstPeriod
  split
  · exact h
  · exact h.periodStart

@[simp] theorem State.boot_drive (cold : Bool) (cause : StartCause) (pins : Pins) (s : State) :
    DriveSafe (s.boot cold cause pins).coils (s.boot cold cause pins).chute.state := by
  have a : ∀ (r : Resolved) (c : Clock) (t : State), DriveSafe (t.startValues r c pins).withLows.firstPeriod.coils
      (t.startValues r c pins).withLows.firstPeriod.chute.state :=
    fun r c t => State.firstPeriod_drive _ (State.startValues_drive r c pins t)
  exact a _ _ s

@[simp] theorem State.checkedStart_drive (cause : StartCause) (pins : Pins) (s : State) (h : DriveSafe s.coils s.chute.state) :
    DriveSafe (State.checkedStart cause pins s).coils (State.checkedStart cause pins s).chute.state := by
  unfold State.checkedStart
  split <;> simp (maxDischargeDepth := 12) -implicitDefEqProofs [h]

@[simp] theorem State.quiet_drive (s : State) (h : DriveSafe s.coils s.chute.state) :
    DriveSafe s.quiet.coils s.quiet.chute.state := h.releaseAll

@[simp] theorem State.powerReturns_drive (pins : Pins) (s : State) (h : DriveSafe s.coils s.chute.state) :
    DriveSafe (State.powerReturns pins s).coils (State.powerReturns pins s).chute.state := by
  unfold State.powerReturns
  dsimp only
  (repeat' split) <;> simp (maxDischargeDepth := 12) -implicitDefEqProofs [h]

@[simp] theorem State.powerFails_drive (s : State) (h : DriveSafe s.coils s.chute.state) :
    DriveSafe (State.powerFails s).coils (State.powerFails s).chute.state := by
  unfold State.powerFails
  split <;> simp (maxDischargeDepth := 12) -implicitDefEqProofs [h]

@[simp] theorem State.resetHolds_drive (s : State) (h : DriveSafe s.coils s.chute.state) :
    DriveSafe (State.resetHolds s).coils (State.resetHolds s).chute.state := by
  simp (maxDischargeDepth := 12) -implicitDefEqProofs [State.resetHolds, h]

@[simp] theorem State.resetReleases_drive (pins : Pins) (s : State) (h : DriveSafe s.coils s.chute.state) :
    DriveSafe (State.resetReleases pins s).coils (State.resetReleases pins s).chute.state := by
  unfold State.resetReleases
  dsimp only
  (repeat' split) <;> simp (maxDischargeDepth := 12) -implicitDefEqProofs [h]

@[simp] theorem State.backupFails_drive (s : State) (h : DriveSafe s.coils s.chute.state) :
    DriveSafe (State.backupFails s).coils (State.backupFails s).chute.state := by
  unfold State.backupFails
  split <;> simp (maxDischargeDepth := 12) -implicitDefEqProofs [h]

@[simp] theorem State.startAfterReply_drive (pins : Pins) (s : State) (h : DriveSafe s.coils s.chute.state) :
    DriveSafe (State.startAfterReply pins s).coils (State.startAfterReply pins s).chute.state := by
  unfold State.startAfterReply
  split <;> simp (maxDischargeDepth := 12) -implicitDefEqProofs [h]

end Sys2Proof.Machine
end

