-- ==== Sys2Proof/Laws/Eb.lean ====
section
/-! SUPPORT. EB is commanded on exactly while the conditions last tested are clear (R64), under every operation. -/

namespace Sys2Proof.Machine

/-- EB is on exactly while no tested condition fails (R64). -/
def EbAgrees (eb : Coil) (causes : Causes) : Prop := eb.on = causes.clear

@[simp] theorem CoilDriver.driveAg_eb (d : CoilDriver) (b : Bool) : (d.drive .ag b).coils.eb = d.coils.eb := rfl
@[simp] theorem CoilDriver.divert_eb (d : CoilDriver) (cmd : DiverterCommand) : (d.divert cmd).coils.eb = d.coils.eb := by
  cases cmd <;> rfl
@[simp] theorem CoilDriver.changeover_eb (hd : CoinHeader) (d : CoilDriver) : (d.changeover hd).coils.eb = d.coils.eb := by
  unfold CoilDriver.changeover
  repeat' split
  all_goals rfl

/-- EB driven as the conditions say. -/
theorem CoilDriver.driveEb_on (d : CoilDriver) (b : Bool) : (d.drive .eb b).coils.eb.on = b := by
  cases b
  · rfl
  · exact Coil.energise_on d.coils.eb

@[simp] theorem CoilDriver.periodEnd_eb (hd : CoinHeader) (x : PerCoil Sense) (d : CoilDriver) (k : Causes)
    (h : EbAgrees d.coils.eb k) : EbAgrees (d.periodEnd hd x).coils.eb k := (Coil.afterPeriod_on hd _ _ _).trans h

@[simp] theorem CoilDriver.periodStart_eb (hd : CoinHeader) (d : CoilDriver) (k : Causes) (h : EbAgrees d.coils.eb k) :
    EbAgrees (d.periodStart hd).coils.eb k := by
  unfold CoilDriver.periodStart EbAgrees
  dsimp only
  rw [CoilDriver.changeover_eb]
  exact (Coil.beginWaiting_on hd _ _).trans h

@[simp] theorem CoilDriver.newProfile_eb (hd : CoinHeader) (d : CoilDriver) (k : Causes) (h : EbAgrees d.coils.eb k) :
    EbAgrees (d.newProfile hd).coils.eb k := by
  unfold CoilDriver.newProfile
  refine CoilDriver.periodStart_eb hd _ k ?_
  have a : (d.divert .cashBox).coils.eb.on = k.clear := by simpa [EbAgrees] using h
  simp only [EbAgrees, PerCoil.mapNamed]
  split
  · next e => rw [Coil.begin_on, ← a, e]
  · exact a

/-! ## Every operation -/

@[simp] theorem State.issueFree_eb (r : Report) (s : State) (h : EbAgrees s.coils.coils.eb s.causes) :
    EbAgrees (State.issueFree r s).coils.coils.eb (State.issueFree r s).causes := by
  unfold State.issueFree
  split <;> simp (maxDischargeDepth := 12) -implicitDefEqProofs [h]

@[simp] theorem State.issueReserved_eb (r : Report) (s : State) (h : EbAgrees s.coils.coils.eb s.causes) :
    EbAgrees (State.issueReserved r s).coils.coils.eb (State.issueReserved r s).causes := by
  unfold State.issueReserved
  split <;> simp (maxDischargeDepth := 12) -implicitDefEqProofs [h]

@[simp] theorem State.entryTest_eb (s : State) (h : EbAgrees s.coils.coils.eb s.causes) :
    EbAgrees s.entryTest.coils.coils.eb s.entryTest.causes := by
  unfold State.entryTest
  split
  · exact h
  · exact CoilDriver.driveEb_on _ _

@[simp] theorem State.tubesChanged_eb (s : State) (before : State) (h : EbAgrees s.coils.coils.eb s.causes) :
    EbAgrees (State.tubesChanged s before).coils.coils.eb (State.tubesChanged s before).causes := by
  unfold State.tubesChanged
  split <;> simp (maxDischargeDepth := 12) -implicitDefEqProofs [h]

@[simp] theorem State.enterFault_eb (k : FaultKind) (s : State) (h : EbAgrees s.coils.coils.eb s.causes) :
    EbAgrees (State.enterFault k s).coils.coils.eb (State.enterFault k s).causes := by
  unfold State.enterFault
  split <;> simp (maxDischargeDepth := 12) -implicitDefEqProofs [h]

/-- A coil fault releases EB, and leaves the condition CHUTE failing (R80). -/
@[simp] theorem State.coilFault_eb (failed : PerCoil Bool) (s : State) :
    EbAgrees (s.coilFault failed).coils.coils.eb (s.coilFault failed).causes := by
  unfold State.coilFault State.enterFault
  dsimp only [State.issueChute, State.issueFixed]
  generalize ht : State.onCoils _ (State.onChute _ _) = t
  have hf : t.failing.chute = true := by rw [← ht]; rfl
  have hb : t.coils.coils.eb.on = false := by rw [← ht]; rfl
  unfold State.entryTest
  split
  · next e => rw [e] at hf; simp only [EbAgrees, hb, Causes.clear, hf]; rfl
  · exact CoilDriver.driveEb_on _ _

@[simp] theorem State.pwmPeriod_eb (sense : PerCoil Sense) (s : State) (h : EbAgrees s.coils.coils.eb s.causes) :
    EbAgrees (State.pwmPeriod sense s).coils.coils.eb (State.pwmPeriod sense s).causes := by
  unfold State.pwmPeriod
  dsimp only
  (repeat' split) <;> simp (maxDischargeDepth := 12) -implicitDefEqProofs [h]

@[simp] theorem State.pullInCheck_eb (ends : PerCoil Bool) (sense : PerCoil Sense) (s : State)
    (h : EbAgrees s.coils.coils.eb s.causes) :
    EbAgrees (s.pullInCheck ends sense).coils.coils.eb (s.pullInCheck ends sense).causes := by
  unfold State.pullInCheck
  split
  · exact h
  · dsimp only
    split
    · split
      · exact State.coilFault_eb _ _
      · exact (Coil.checked_on _ _ _ _).trans h
    · exact h

@[simp] theorem State.diverterChangeover_eb (s : State) (h : EbAgrees s.coils.coils.eb s.causes) :
    EbAgrees (State.diverterChangeover s).coils.coils.eb (State.diverterChangeover s).causes := by
  unfold State.diverterChangeover
  split <;> simp (maxDischargeDepth := 12) -implicitDefEqProofs [h]

@[simp] theorem State.serveLoad_eb (kind : TableKind) (generation index total check count : Nat) (bytes : List Byte) (s : State) (h : EbAgrees s.coils.coils.eb s.causes) :
    EbAgrees (State.serveLoad kind generation index total check count bytes s).coils.coils.eb (State.serveLoad kind generation index total check count bytes s).causes := by
  unfold State.serveLoad
  dsimp only
  (repeat' split) <;> simp (maxDischargeDepth := 12) -implicitDefEqProofs [h]

@[simp] theorem State.serveDiscard_eb (kind : TableKind) (s : State) (h : EbAgrees s.coils.coils.eb s.causes) :
    EbAgrees (State.serveDiscard kind s).coils.coils.eb (State.serveDiscard kind s).causes := by
  unfold State.serveDiscard
  dsimp only
  (repeat' split) <;> simp (maxDischargeDepth := 12) -implicitDefEqProofs [h]

@[simp] theorem State.afterActivation_eb (kind : TableKind) (before : State) (s : State) (h : EbAgrees s.coils.coils.eb s.causes) :
    EbAgrees (State.afterActivation kind before s).coils.coils.eb (State.afterActivation kind before s).causes := by
  unfold State.afterActivation
  dsimp only
  (repeat' split) <;> simp (maxDischargeDepth := 12) -implicitDefEqProofs [h]

@[simp] theorem State.takeActivation_eb (kind : TableKind) (waited : Bool) (s : State) (h : EbAgrees s.coils.coils.eb s.causes) :
    EbAgrees (State.takeActivation kind waited s).coils.coils.eb (State.takeActivation kind waited s).causes := by
  simp (maxDischargeDepth := 12) -implicitDefEqProofs [State.takeActivation, h]

@[simp] theorem State.fallDue_eb (kind : TableKind) (s : State) (h : EbAgrees s.coils.coils.eb s.causes) :
    EbAgrees (State.fallDue kind s).coils.coils.eb (State.fallDue kind s).causes := by
  unfold State.fallDue
  dsimp only
  (repeat' split) <;> simp (maxDischargeDepth := 12) -implicitDefEqProofs [h]

@[simp] theorem State.takeWaiting_eb (kind : TableKind) (s : State) (h : EbAgrees s.coils.coils.eb s.causes) :
    EbAgrees (State.takeWaiting kind s).coils.coils.eb (State.takeWaiting kind s).causes := by
  unfold State.takeWaiting
  dsimp only
  (repeat' split) <;> simp (maxDischargeDepth := 12) -implicitDefEqProofs [h]

@[simp] theorem State.testSchedules_eb (s : State) (h : EbAgrees s.coils.coils.eb s.causes) : EbAgrees s.testSchedules.2.coils.coils.eb s.testSchedules.2.causes :=
  State.testSchedules_keeps (fun t => EbAgrees t.coils.coils.eb t.causes) (fun k t ht => State.fallDue_eb k t ht) s h

@[simp] theorem State.serveActivate_eb (kind : TableKind) (generation : Word16) (due : Due) (s : State) (h : EbAgrees s.coils.coils.eb s.causes) :
    EbAgrees (State.serveActivate kind generation due s).coils.coils.eb (State.serveActivate kind generation due s).causes := by
  unfold State.serveActivate
  dsimp only
  (repeat' split) <;> simp (maxDischargeDepth := 12) -implicitDefEqProofs [h]

@[simp] theorem State.returnCoin_eb (m : Measurement) (s : State) (h : EbAgrees s.coils.coils.eb s.causes) :
    EbAgrees (State.returnCoin m s).coils.coils.eb (State.returnCoin m s).causes := by
  unfold State.returnCoin
  split <;> simp (maxDischargeDepth := 12) -implicitDefEqProofs [h]

@[simp] theorem State.acceptCoin_eb (a : AcceptedCoin) (m : Measurement) (s : State) (h : EbAgrees s.coils.coils.eb s.causes) :
    EbAgrees (State.acceptCoin a m s).coils.coils.eb (State.acceptCoin a m s).causes := by
  simp (maxDischargeDepth := 12) -implicitDefEqProofs [State.acceptCoin, h]

@[simp] theorem State.decideCoin_eb (s : State) (h : EbAgrees s.coils.coils.eb s.causes) :
    EbAgrees (State.decideCoin s).coils.coils.eb (State.decideCoin s).causes := by
  unfold State.decideCoin
  dsimp only
  (repeat' split) <;> simp (maxDischargeDepth := 12) -implicitDefEqProofs [h]

@[simp] theorem State.chuteToIdle_eb (s : State) (h : EbAgrees s.coils.coils.eb s.causes) :
    EbAgrees (State.chuteToIdle s).coils.coils.eb (State.chuteToIdle s).causes := by
  simp (maxDischargeDepth := 12) -implicitDefEqProofs [State.chuteToIdle, h]

@[simp] theorem State.creditCoin_eb (a : AcceptedCoin) (s : State) (h : EbAgrees s.coils.coils.eb s.causes) :
    EbAgrees (State.creditCoin a s).coils.coils.eb (State.creditCoin a s).causes := by
  unfold State.creditCoin
  split <;> simp (maxDischargeDepth := 12) -implicitDefEqProofs [h]

@[simp] theorem State.coinAtC_eb (s : State) (h : EbAgrees s.coils.coils.eb s.causes) :
    EbAgrees (State.coinAtC s).coils.coils.eb (State.coinAtC s).causes := by
  unfold State.coinAtC
  split <;> simp (maxDischargeDepth := 12) -implicitDefEqProofs [h]

@[simp] theorem State.coinBegins_eb (s : State) (h : EbAgrees s.coils.coils.eb s.causes) :
    EbAgrees (State.coinBegins s).coils.coils.eb (State.coinBegins s).causes := by
  simp (maxDischargeDepth := 12) -implicitDefEqProofs [State.coinBegins, h]

@[simp] theorem State.riseIn_eb (s : State) (c : ChuteState) (x : Sensor) (h : EbAgrees s.coils.coils.eb s.causes) : EbAgrees (s.riseIn c x).coils.coils.eb (s.riseIn c x).causes := by
  unfold State.riseIn; split <;> simp (maxDischargeDepth := 12) -implicitDefEqProofs [h]

@[simp] theorem State.sensorRise_eb (x : Sensor) (ticks : Nat) (s : State) (h : EbAgrees s.coils.coils.eb s.causes) :
    EbAgrees (State.sensorRise x ticks s).coils.coils.eb (State.sensorRise x ticks s).causes := by
  unfold State.sensorRise
  split <;> simp (maxDischargeDepth := 12) -implicitDefEqProofs [h]

@[simp] theorem State.fallIn_eb (s : State) (c : ChuteState) (x : Sensor) (h : EbAgrees s.coils.coils.eb s.causes) : EbAgrees (s.fallIn c x).coils.coils.eb (s.fallIn c x).causes := by
  unfold State.fallIn; split <;> simp (maxDischargeDepth := 12) -implicitDefEqProofs [h]

@[simp] theorem State.sensorFall_eb (x : Sensor) (ticks : Nat) (s : State) (h : EbAgrees s.coils.coils.eb s.causes) :
    EbAgrees (State.sensorFall x ticks s).coils.coils.eb (State.sensorFall x ticks s).causes := by
  unfold State.sensorFall
  split <;> simp (maxDischargeDepth := 12) -implicitDefEqProofs [h]

@[simp] theorem State.aLimitPasses_eb (s : State) (h : EbAgrees s.coils.coils.eb s.causes) :
    EbAgrees (State.aLimitPasses s).coils.coils.eb (State.aLimitPasses s).causes := by
  unfold State.aLimitPasses
  split <;> simp (maxDischargeDepth := 12) -implicitDefEqProofs [h]

@[simp] theorem State.gapLimitPasses_eb (s : State) (h : EbAgrees s.coils.coils.eb s.causes) :
    EbAgrees (State.gapLimitPasses s).coils.coils.eb (State.gapLimitPasses s).causes := by
  unfold State.gapLimitPasses
  split <;> simp (maxDischargeDepth := 12) -implicitDefEqProofs [h]

@[simp] theorem State.acceptWaitPasses_eb (s : State) (h : EbAgrees s.coils.coils.eb s.causes) :
    EbAgrees (State.acceptWaitPasses s).coils.coils.eb (State.acceptWaitPasses s).causes := by
  unfold State.acceptWaitPasses
  split <;> simp (maxDischargeDepth := 12) -implicitDefEqProofs [h]

@[simp] theorem State.returnWaitPasses_eb (s : State) (h : EbAgrees s.coils.coils.eb s.causes) :
    EbAgrees (State.returnWaitPasses s).coils.coils.eb (State.returnWaitPasses s).causes := by
  unfold State.returnWaitPasses
  split <;> simp (maxDischargeDepth := 12) -implicitDefEqProofs [h]

@[simp] theorem State.faultClears_eb (s : State) (h : EbAgrees s.coils.coils.eb s.causes) :
    EbAgrees (State.faultClears s).coils.coils.eb (State.faultClears s).causes := by
  simp (maxDischargeDepth := 12) -implicitDefEqProofs [State.faultClears, h]

@[simp] theorem State.idleWaitPasses_eb (s : State) (h : EbAgrees s.coils.coils.eb s.causes) :
    EbAgrees (State.idleWaitPasses s).coils.coils.eb (State.idleWaitPasses s).causes := by
  unfold State.idleWaitPasses
  split <;> simp (maxDischargeDepth := 12) -implicitDefEqProofs [h]

@[simp] theorem State.serveChuteClear_eb (s : State) (h : EbAgrees s.coils.coils.eb s.causes) :
    EbAgrees (State.serveChuteClear s).coils.coils.eb (State.serveChuteClear s).causes := by
  unfold State.serveChuteClear
  (repeat' split) <;> simp (maxDischargeDepth := 12) -implicitDefEqProofs [h]

@[simp] theorem State.endPayout_eb (s : State) (h : EbAgrees s.coils.coils.eb s.causes) :
    EbAgrees (State.endPayout s).coils.coils.eb (State.endPayout s).causes := by
  unfold State.endPayout
  split <;> simp (maxDischargeDepth := 12) -implicitDefEqProofs [h]

@[simp] theorem State.startEntry_eb (s : State) (h : EbAgrees s.coils.coils.eb s.causes) :
    EbAgrees (State.startEntry s).coils.coils.eb (State.startEntry s).causes := by
  unfold State.startEntry
  (repeat' split) <;> simp (maxDischargeDepth := 12) -implicitDefEqProofs [h]

@[simp] theorem State.runPlan_eb (entries : List PlanEntry) (s : State) (h : EbAgrees s.coils.coils.eb s.causes) :
    EbAgrees (State.runPlan entries s).coils.coils.eb (State.runPlan entries s).causes := by
  unfold State.runPlan
  (repeat' split) <;> simp (maxDischargeDepth := 12) -implicitDefEqProofs [h]

@[simp] theorem State.startPayout_eb (cause : PayoutCause) (s : State) (h : EbAgrees s.coils.coils.eb s.causes) :
    EbAgrees (State.startPayout cause s).coils.coils.eb (State.startPayout cause s).causes := by
  simp (maxDischargeDepth := 12) -implicitDefEqProofs [State.startPayout, h]

@[simp] theorem State.entryDone_eb (s : State) (h : EbAgrees s.coils.coils.eb s.causes) :
    EbAgrees (State.entryDone s).coils.coils.eb (State.entryDone s).causes := by
  unfold State.entryDone
  (repeat' split) <;> simp (maxDischargeDepth := 12) -implicitDefEqProofs [h]

@[simp] theorem State.paidCoin_eb (i : Fin 4) (s : State) (h : EbAgrees s.coils.coils.eb s.causes) :
    EbAgrees (State.paidCoin i s).coils.coils.eb (State.paidCoin i s).causes := by
  unfold State.paidCoin
  dsimp only
  (repeat' split) <;> simp (maxDischargeDepth := 12) -implicitDefEqProofs [h]

@[simp] theorem State.extraCoin_eb (i : Fin 4) (s : State) (h : EbAgrees s.coils.coils.eb s.causes) :
    EbAgrees (State.extraCoin i s).coils.coils.eb (State.extraCoin i s).causes := by
  simp (maxDischargeDepth := 12) -implicitDefEqProofs [State.extraCoin, h]

@[simp] theorem State.exitPulse_eb (i : Fin 4) (s : State) (h : EbAgrees s.coils.coils.eb s.causes) :
    EbAgrees (State.exitPulse i s).coils.coils.eb (State.exitPulse i s).causes := by
  unfold State.exitPulse
  split <;> simp (maxDischargeDepth := 12) -implicitDefEqProofs [h]

@[simp] theorem State.jam_eb (i : Fin 4) (s : State) (h : EbAgrees s.coils.coils.eb s.causes) :
    EbAgrees (State.jam i s).coils.coils.eb (State.jam i s).causes := by
  simp (maxDischargeDepth := 12) -implicitDefEqProofs [State.jam, h]

@[simp] theorem State.afterJam_eb (s : State) (h : EbAgrees s.coils.coils.eb s.causes) :
    EbAgrees (State.afterJam s).coils.coils.eb (State.afterJam s).causes := by
  unfold State.afterJam
  (repeat' split) <;> simp (maxDischargeDepth := 12) -implicitDefEqProofs [h]

@[simp] theorem State.jamTimeout_eb (i : Fin 4) (s : State) (h : EbAgrees s.coils.coils.eb s.causes) :
    EbAgrees (State.jamTimeout i s).coils.coils.eb (State.jamTimeout i s).causes := by
  unfold State.jamTimeout
  split <;> simp (maxDischargeDepth := 12) -implicitDefEqProofs [h]

@[simp] theorem State.trailingEnds_eb (i : Fin 4) (s : State) (h : EbAgrees s.coils.coils.eb s.causes) :
    EbAgrees (State.trailingEnds i s).coils.coils.eb (State.trailingEnds i s).causes := by
  unfold State.trailingEnds
  split <;> simp (maxDischargeDepth := 12) -implicitDefEqProofs [h]

@[simp] theorem State.doorChange_eb (isOpen : Bool) (s : State) (h : EbAgrees s.coils.coils.eb s.causes) :
    EbAgrees (State.doorChange isOpen s).coils.coils.eb (State.doorChange isOpen s).causes := by
  unfold State.doorChange
  split <;> simp (maxDischargeDepth := 12) -implicitDefEqProofs [h]

@[simp] theorem State.leverPress_eb (s : State) (h : EbAgrees s.coils.coils.eb s.causes) :
    EbAgrees (State.leverPress s).coils.coils.eb (State.leverPress s).causes := by
  unfold State.leverPress
  split <;> simp (maxDischargeDepth := 12) -implicitDefEqProofs [h]

@[simp] theorem State.acceptOp_eb (o : OpRecord) (slots : Nat) (s : State) (h : EbAgrees s.coils.coils.eb s.causes) :
    EbAgrees (State.acceptOp o slots s).coils.coils.eb (State.acceptOp o slots s).causes := by
  simp (maxDischargeDepth := 12) -implicitDefEqProofs [State.acceptOp, h]

@[simp] theorem State.endOp_eb (move : Ledger → Ledger) (report : Report) (s : State) (h : EbAgrees s.coils.coils.eb s.causes) :
    EbAgrees (State.endOp move report s).coils.coils.eb (State.endOp move report s).causes := by
  simp (maxDischargeDepth := 12) -implicitDefEqProofs [State.endOp, h]

@[simp] theorem State.comeToRest_eb (s : State) (h : EbAgrees s.coils.coils.eb s.causes) :
    EbAgrees (State.comeToRest s).coils.coils.eb (State.comeToRest s).causes := by
  simp (maxDischargeDepth := 12) -implicitDefEqProofs [State.comeToRest, h]

@[simp] theorem State.afterSale_eb (o : OpRecord) (void : Bool) (s : State) (h : EbAgrees s.coils.coils.eb s.causes) :
    EbAgrees (State.afterSale o void s).coils.coils.eb (State.afterSale o void s).causes := by
  unfold State.afterSale
  split <;> simp (maxDischargeDepth := 12) -implicitDefEqProofs [h]

@[simp] theorem State.ticketEnds_eb (failure : Option VoidCause) (s : State) (h : EbAgrees s.coils.coils.eb s.causes) :
    EbAgrees (State.ticketEnds failure s).coils.coils.eb (State.ticketEnds failure s).causes := by
  unfold State.ticketEnds
  (repeat' split) <;> simp (maxDischargeDepth := 12) -implicitDefEqProofs [h]

@[simp] theorem State.voucherEnds_eb (failure : Option VoidCause) (s : State) (h : EbAgrees s.coils.coils.eb s.causes) :
    EbAgrees (State.voucherEnds failure s).coils.coils.eb (State.voucherEnds failure s).causes := by
  unfold State.voucherEnds
  (repeat' split) <;> simp (maxDischargeDepth := 12) -implicitDefEqProofs [h]

@[simp] theorem State.serveCancel_eb (s : State) (h : EbAgrees s.coils.coils.eb s.causes) :
    EbAgrees (State.serveCancel s).coils.coils.eb (State.serveCancel s).causes := by
  unfold State.serveCancel
  (repeat' split) <;> simp (maxDischargeDepth := 12) -implicitDefEqProofs [h]

@[simp] theorem State.serveTube_eb (tube count : Nat) (s : State) (h : EbAgrees s.coils.coils.eb s.causes) :
    EbAgrees (State.serveTube tube count s).coils.coils.eb (State.serveTube tube count s).causes := by
  unfold State.serveTube
  dsimp only
  (repeat' split) <;> simp (maxDischargeDepth := 12) -implicitDefEqProofs [h]

@[simp] theorem State.serveClearTotals_eb (s : State) (h : EbAgrees s.coils.coils.eb s.causes) :
    EbAgrees (State.serveClearTotals s).coils.coils.eb (State.serveClearTotals s).causes := by
  unfold State.serveClearTotals
  (repeat' split) <;> simp (maxDischargeDepth := 12) -implicitDefEqProofs [h]

@[simp] theorem State.printDuty_eb (s : State) (h : EbAgrees s.coils.coils.eb s.causes) :
    EbAgrees (State.printDuty s).coils.coils.eb (State.printDuty s).causes := by
  unfold State.printDuty
  split <;> simp (maxDischargeDepth := 12) -implicitDefEqProofs [h]

@[simp] theorem State.startJob_eb (kind : JobKind) (txn template : Nat) (v : FieldValues) (s : State) (h : EbAgrees s.coils.coils.eb s.causes) :
    EbAgrees (State.startJob kind txn template v s).coils.coils.eb (State.startJob kind txn template v s).causes := by
  simp (maxDischargeDepth := 12) -implicitDefEqProofs [State.startJob, h]

@[simp] theorem State.receiptEnds_eb (txn : Nat) (failure : Option VoidCause) (s : State) (h : EbAgrees s.coils.coils.eb s.causes) :
    EbAgrees (State.receiptEnds txn failure s).coils.coils.eb (State.receiptEnds txn failure s).causes := by
  simp (maxDischargeDepth := 12) -implicitDefEqProofs [State.receiptEnds, h]

@[simp] theorem State.tellOwner_eb (j : Job) (failure : Option VoidCause) (s : State) (h : EbAgrees s.coils.coils.eb s.causes) :
    EbAgrees (State.tellOwner j failure s).coils.coils.eb (State.tellOwner j failure s).causes := by
  unfold State.tellOwner
  split <;> simp (maxDischargeDepth := 12) -implicitDefEqProofs [h]

@[simp] theorem State.jobEnds_eb (failure : Option VoidCause) (s : State) (h : EbAgrees s.coils.coils.eb s.causes) :
    EbAgrees (State.jobEnds failure s).coils.coils.eb (State.jobEnds failure s).causes := by
  unfold State.jobEnds
  split <;> simp (maxDischargeDepth := 12) -implicitDefEqProofs [h]

@[simp] theorem State.cutTimeout_eb (s : State) (h : EbAgrees s.coils.coils.eb s.causes) :
    EbAgrees (State.cutTimeout s).coils.coils.eb (State.cutTimeout s).causes := by
  unfold State.cutTimeout
  (repeat' split) <;> simp (maxDischargeDepth := 12) -implicitDefEqProofs [h]

@[simp] theorem State.roomAskDelay_eb (s : State) (h : EbAgrees s.coils.coils.eb s.causes) :
    EbAgrees (State.roomAskDelay s).coils.coils.eb (State.roomAskDelay s).causes := by
  unfold State.roomAskDelay
  split <;> simp (maxDischargeDepth := 12) -implicitDefEqProofs [h]

@[simp] theorem State.takeState_eb (paper : Paper) (head : Head) (fault : PrinterFault) (s : State) (h : EbAgrees s.coils.coils.eb s.causes) :
    EbAgrees (State.takeState paper head fault s).coils.coils.eb (State.takeState paper head fault s).causes := by
  unfold State.takeState
  dsimp only
  (repeat' split) <;> simp (maxDischargeDepth := 12) -implicitDefEqProofs [h]

@[simp] theorem State.takeCutDone_eb (tag : Nat) (s : State) (h : EbAgrees s.coils.coils.eb s.causes) :
    EbAgrees (State.takeCutDone tag s).coils.coils.eb (State.takeCutDone tag s).causes := by
  unfold State.takeCutDone
  (repeat' split) <;> simp (maxDischargeDepth := 12) -implicitDefEqProofs [h]

@[simp] theorem State.takeNotice_eb (s : State) (n : Notice) (h : EbAgrees s.coils.coils.eb s.causes) : EbAgrees (s.takeNotice n).coils.coils.eb (s.takeNotice n).causes := by
  unfold State.takeNotice; split <;> simp (maxDischargeDepth := 12) -implicitDefEqProofs [h]

@[simp] theorem State.takeNotices_eb (kind : Byte) (payload : List Byte) (s : State) (h : EbAgrees s.coils.coils.eb s.causes) :
    EbAgrees (s.takeNotices kind payload).coils.coils.eb (s.takeNotices kind payload).causes :=
  State.takeNotices_keeps (fun t => EbAgrees t.coils.coils.eb t.causes) (fun n t ht => State.takeNotice_eb t n ht) kind payload s h

@[simp] theorem State.lineOutcome_eb (tag : Nat) (valid : Bool) (s : State) (h : EbAgrees s.coils.coils.eb s.causes) :
    EbAgrees (State.lineOutcome tag valid s).coils.coils.eb (State.lineOutcome tag valid s).causes := by
  simp (maxDischargeDepth := 12) -implicitDefEqProofs [State.lineOutcome, h]

@[simp] theorem State.cutOutcome_eb (tag : Nat) (valid : Bool) (s : State) (h : EbAgrees s.coils.coils.eb s.causes) :
    EbAgrees (State.cutOutcome tag valid s).coils.coils.eb (State.cutOutcome tag valid s).causes := by
  simp (maxDischargeDepth := 12) -implicitDefEqProofs [State.cutOutcome, h]

@[simp] theorem State.askOutcome_eb (forRoom valid : Bool) (s : State) (h : EbAgrees s.coils.coils.eb s.causes) :
    EbAgrees (State.askOutcome forRoom valid s).coils.coils.eb (State.askOutcome forRoom valid s).causes := by
  simp (maxDischargeDepth := 12) -implicitDefEqProofs [State.askOutcome, h]

@[simp] theorem State.printerAbsent_eb (s : State) (h : EbAgrees s.coils.coils.eb s.causes) :
    EbAgrees (State.printerAbsent s).coils.coils.eb (State.printerAbsent s).causes := by
  simp (maxDischargeDepth := 12) -implicitDefEqProofs [State.printerAbsent, h]

@[simp] theorem State.serveVoucher_eb (s : State) (h : EbAgrees s.coils.coils.eb s.causes) :
    EbAgrees (State.serveVoucher s).coils.coils.eb (State.serveVoucher s).causes := by
  unfold State.serveVoucher
  split <;> simp (maxDischargeDepth := 12) -implicitDefEqProofs [h]

@[simp] theorem State.serveReprint_eb (s : State) (h : EbAgrees s.coils.coils.eb s.causes) :
    EbAgrees (State.serveReprint s).coils.coils.eb (State.serveReprint s).causes := by
  unfold State.serveReprint
  (repeat' split) <;> simp (maxDischargeDepth := 12) -implicitDefEqProofs [h]

@[simp] theorem State.carryOut_eb (r : JournalRecord) (o : Resolution) (s : State) (h : EbAgrees s.coils.coils.eb s.causes) :
    EbAgrees (State.carryOut r o s).coils.coils.eb (State.carryOut r o s).causes := by
  simp (maxDischargeDepth := 12) -implicitDefEqProofs [State.carryOut, h]

@[simp] theorem State.resolve_eb (p : Presentation) (s : State) (h : EbAgrees s.coils.coils.eb s.causes) :
    EbAgrees (State.resolve p s).coils.coils.eb (State.resolve p s).causes := by
  unfold State.resolve
  split <;> simp (maxDischargeDepth := 12) -implicitDefEqProofs [h]

@[simp] theorem State.bindCard_eb (p : Presentation) (s : State) (h : EbAgrees s.coils.coils.eb s.causes) :
    EbAgrees (State.bindCard p s).coils.coils.eb (State.bindCard p s).causes := by
  unfold State.bindCard
  dsimp only
  (repeat' split) <;> simp (maxDischargeDepth := 12) -implicitDefEqProofs [h]

@[simp] theorem State.unbind_eb (s : State) (h : EbAgrees s.coils.coils.eb s.causes) :
    EbAgrees (State.unbind s).coils.coils.eb (State.unbind s).causes := by
  simp (maxDischargeDepth := 12) -implicitDefEqProofs [State.unbind, h]

@[simp] theorem State.afterUnbind_eb (s : State) (h : EbAgrees s.coils.coils.eb s.causes) :
    EbAgrees (State.afterUnbind s).coils.coils.eb (State.afterUnbind s).causes := by
  unfold State.afterUnbind
  dsimp only
  (repeat' split) <;> simp (maxDischargeDepth := 12) -implicitDefEqProofs [h]

@[simp] theorem State.cardLeaves_eb (s : State) (h : EbAgrees s.coils.coils.eb s.causes) :
    EbAgrees (State.cardLeaves s).coils.coils.eb (State.cardLeaves s).causes := by
  unfold State.cardLeaves
  (repeat' split) <;> simp (maxDischargeDepth := 12) -implicitDefEqProofs [h]

@[simp] theorem State.takeSeen_eb (p : Presentation) (s : State) (h : EbAgrees s.coils.coils.eb s.causes) :
    EbAgrees (State.takeSeen p s).coils.coils.eb (State.takeSeen p s).causes := by
  unfold State.takeSeen
  (repeat' split) <;> simp (maxDischargeDepth := 12) -implicitDefEqProofs [h]

@[simp] theorem State.startWrite_eb (o : OpRecord) (b : Binding) (w : Written) (s : State) (h : EbAgrees s.coils.coils.eb s.causes) :
    EbAgrees (State.startWrite o b w s).coils.coils.eb (State.startWrite o b w s).causes := by
  simp (maxDischargeDepth := 12) -implicitDefEqProofs [State.startWrite, h]

@[simp] theorem State.handReceipt_eb (o : OpRecord) (w : CardWrite) (newBalance : Nat) (s : State) (h : EbAgrees s.coils.coils.eb s.causes) :
    EbAgrees (State.handReceipt o w newBalance s).coils.coils.eb (State.handReceipt o w newBalance s).causes := by
  unfold State.handReceipt
  dsimp only
  (repeat' split) <;> simp (maxDischargeDepth := 12) -implicitDefEqProofs [h]

@[simp] theorem State.writeEnds_eb (s : State) (h : EbAgrees s.coils.coils.eb s.causes) :
    EbAgrees (State.writeEnds s).coils.coils.eb (State.writeEnds s).causes := by
  unfold State.writeEnds
  dsimp only
  (repeat' split) <;> simp (maxDischargeDepth := 12) -implicitDefEqProofs [h]

@[simp] theorem State.writeDone_eb (o : OpRecord) (w : CardWrite) (newSequence : Nat) (s : State) (h : EbAgrees s.coils.coils.eb s.causes) :
    EbAgrees (State.writeDone o w newSequence s).coils.coils.eb (State.writeDone o w newSequence s).causes := by
  unfold State.writeDone
  split <;> simp (maxDischargeDepth := 12) -implicitDefEqProofs [h]

@[simp] theorem State.writeFail_eb (o : OpRecord) (w : CardWrite) (s : State) (h : EbAgrees s.coils.coils.eb s.causes) :
    EbAgrees (State.writeFail o w s).coils.coils.eb (State.writeFail o w s).causes := by
  unfold State.writeFail
  split <;> simp (maxDischargeDepth := 12) -implicitDefEqProofs [h]

@[simp] theorem State.writeUncertain_eb (o : OpRecord) (w : CardWrite) (cause : UncertainCause) (s : State) (h : EbAgrees s.coils.coils.eb s.causes) :
    EbAgrees (State.writeUncertain o w cause s).coils.coils.eb (State.writeUncertain o w cause s).causes := by
  unfold State.writeUncertain
  dsimp only
  (repeat' split) <;> simp (maxDischargeDepth := 12) -implicitDefEqProofs [h]

@[simp] theorem State.takeWritten_eb (txn : Nat) (r : WriteResult) (s : State) (h : EbAgrees s.coils.coils.eb s.causes) :
    EbAgrees (State.takeWritten txn r s).coils.coils.eb (State.takeWritten txn r s).causes := by
  unfold State.takeWritten
  (repeat' split) <;> simp (maxDischargeDepth := 12) -implicitDefEqProofs [h]

@[simp] theorem State.writeTimeout_eb (s : State) (h : EbAgrees s.coils.coils.eb s.causes) :
    EbAgrees (State.writeTimeout s).coils.coils.eb (State.writeTimeout s).causes := by
  unfold State.writeTimeout
  (repeat' split) <;> simp (maxDischargeDepth := 12) -implicitDefEqProofs [h]

@[simp] theorem State.cardAbsent_eb (s : State) (h : EbAgrees s.coils.coils.eb s.causes) :
    EbAgrees (State.cardAbsent s).coils.coils.eb (State.cardAbsent s).causes := by
  unfold State.cardAbsent
  dsimp only
  (repeat' split) <;> simp (maxDischargeDepth := 12) -implicitDefEqProofs [h]

@[simp] theorem State.takeCardFrame_eb (kind : Byte) (p : List Byte) (s : State) (h : EbAgrees s.coils.coils.eb s.causes) :
    EbAgrees (State.takeCardFrame kind p s).coils.coils.eb (State.takeCardFrame kind p s).causes := by
  unfold State.takeCardFrame
  (repeat' split) <;> simp (maxDischargeDepth := 12) -implicitDefEqProofs [h]

@[simp] theorem State.serveTopup_eb (amount : Word16) (receipt : Bool) (s : State) (h : EbAgrees s.coils.coils.eb s.causes) :
    EbAgrees (State.serveTopup amount receipt s).coils.coils.eb (State.serveTopup amount receipt s).causes := by
  unfold State.serveTopup
  split <;> simp (maxDischargeDepth := 12) -implicitDefEqProofs [h]

@[simp] theorem State.serveWriteOff_eb (txn : Nat) (s : State) (h : EbAgrees s.coils.coils.eb s.causes) :
    EbAgrees (State.serveWriteOff txn s).coils.coils.eb (State.serveWriteOff txn s).causes := by
  unfold State.serveWriteOff
  dsimp only
  (repeat' split) <;> simp (maxDischargeDepth := 12) -implicitDefEqProofs [h]

@[simp] theorem State.startSale_eb (o : OpRecord) (q : SellRequest) (t : SaleTerms) (s : State) (h : EbAgrees s.coils.coils.eb s.causes) :
    EbAgrees (State.startSale o q t s).coils.coils.eb (State.startSale o q t s).causes := by
  unfold State.startSale
  split <;> simp (maxDischargeDepth := 12) -implicitDefEqProofs [h]

@[simp] theorem State.serveSell_eb (q : SellRequest) (s : State) (h : EbAgrees s.coils.coils.eb s.causes) :
    EbAgrees (State.serveSell q s).coils.coils.eb (State.serveSell q s).causes := by
  unfold State.serveSell
  split <;> simp (maxDischargeDepth := 12) -implicitDefEqProofs [h]

@[simp] theorem State.passDown_eb (f : Frame) (s : State) (h : EbAgrees s.coils.coils.eb s.causes) :
    EbAgrees (State.passDown f s).coils.coils.eb (State.passDown f s).causes := by
  unfold State.passDown
  split <;> simp (maxDischargeDepth := 12) -implicitDefEqProofs [h]

@[simp] theorem State.consume_eb (r : Role) (f : Frame) (s : State) (h : EbAgrees s.coils.coils.eb s.causes) :
    EbAgrees (State.consume r f s).coils.coils.eb (State.consume r f s).causes := by
  unfold State.consume
  split <;> simp (maxDischargeDepth := 12) -implicitDefEqProofs [h]

@[simp] theorem State.disposeAnswer_eb (i : Fin 6) (f : Frame) (s : State) (h : EbAgrees s.coils.coils.eb s.causes) :
    EbAgrees (State.disposeAnswer i f s).coils.coils.eb (State.disposeAnswer i f s).causes := by
  unfold State.disposeAnswer
  dsimp only
  (repeat' split) <;> simp (maxDischargeDepth := 12) -implicitDefEqProofs [h]

theorem State.grantWrite_eb {s t : State} (e : s.grantWrite = some t) (h : EbAgrees s.coils.coils.eb s.causes) : EbAgrees t.coils.coils.eb t.causes := by
  unfold State.grantWrite at e
  repeat' split at e
  all_goals first
    | (cases e; done)
    | (simp only [Option.some.injEq] at e; subst e; simp (maxDischargeDepth := 12) -implicitDefEqProofs [h]; done)
    | (simp only [Option.map_eq_some_iff] at e; obtain ⟨_, _, rfl⟩ := e; simp (maxDischargeDepth := 12) -implicitDefEqProofs [h])

theorem State.grantPrint_eb {s t : State} (e : s.grantPrint = some t) (h : EbAgrees s.coils.coils.eb s.causes) : EbAgrees t.coils.coils.eb t.causes := by
  unfold State.grantPrint at e
  repeat' split at e
  all_goals first
    | (cases e; done)
    | (simp only [Option.some.injEq] at e; subst e; simp (maxDischargeDepth := 12) -implicitDefEqProofs [h]; done)
    | (simp only [Option.map_eq_some_iff] at e; obtain ⟨_, _, rfl⟩ := e; simp (maxDischargeDepth := 12) -implicitDefEqProofs [h])

theorem State.grantClass3_eb {s t : State} (e : s.grantClass3 = some t) (h : EbAgrees s.coils.coils.eb s.causes) : EbAgrees t.coils.coils.eb t.causes := by
  unfold State.grantClass3 at e
  repeat' split at e
  all_goals first
    | (cases e; done)
    | (simp only [Option.some.injEq] at e; subst e; simp (maxDischargeDepth := 12) -implicitDefEqProofs [h]; done)
    | (simp only [Option.map_eq_some_iff] at e; obtain ⟨_, _, rfl⟩ := e; simp (maxDischargeDepth := 12) -implicitDefEqProofs [h])

theorem State.grantForward_eb {s t : State} (e : s.grantForward = some t) (h : EbAgrees s.coils.coils.eb s.causes) : EbAgrees t.coils.coils.eb t.causes := by
  unfold State.grantForward at e
  repeat' split at e
  all_goals first
    | (cases e; done)
    | (simp only [Option.some.injEq] at e; subst e; simp (maxDischargeDepth := 12) -implicitDefEqProofs [h]; done)
    | (simp only [Option.map_eq_some_iff] at e; obtain ⟨_, _, rfl⟩ := e; simp (maxDischargeDepth := 12) -implicitDefEqProofs [h])

theorem State.grantPoll_eb {s t : State} (e : s.grantPoll = some t) (h : EbAgrees s.coils.coils.eb s.causes) : EbAgrees t.coils.coils.eb t.causes := by
  unfold State.grantPoll at e
  repeat' split at e
  all_goals first
    | (cases e; done)
    | (simp only [Option.some.injEq] at e; subst e; simp (maxDischargeDepth := 12) -implicitDefEqProofs [h]; done)
    | (simp only [Option.map_eq_some_iff] at e; obtain ⟨_, _, rfl⟩ := e; simp (maxDischargeDepth := 12) -implicitDefEqProofs [h])

@[simp] theorem State.grant_eb (s : State) (h : EbAgrees s.coils.coils.eb s.causes) : EbAgrees s.grant.coils.coils.eb s.grant.causes :=
  State.grant_keeps (fun t => EbAgrees t.coils.coils.eb t.causes) s h (fun _ e => State.grantWrite_eb e h) (fun _ e => State.grantPrint_eb e h)
    (fun _ e => State.grantClass3_eb e h) (fun _ e => State.grantForward_eb e h) (fun _ e => State.grantPoll_eb e h)

@[simp] theorem State.issuePresence_eb (r : Role) (discards : Nat) (s : State) (h : EbAgrees s.coils.coils.eb s.causes) :
    EbAgrees (State.issuePresence r discards s).coils.coils.eb (State.issuePresence r discards s).causes := by
  unfold State.issuePresence
  split <;> simp (maxDischargeDepth := 12) -implicitDefEqProofs [h]

@[simp] theorem State.tellAbsent_eb (r : Role) (s : State) (h : EbAgrees s.coils.coils.eb s.causes) :
    EbAgrees (State.tellAbsent r s).coils.coils.eb (State.tellAbsent r s).causes := by
  unfold State.tellAbsent
  split <;> simp (maxDischargeDepth := 12) -implicitDefEqProofs [h]

@[simp] theorem State.slotAbsent_eb (i : Fin 6) (s : State) (h : EbAgrees s.coils.coils.eb s.causes) :
    EbAgrees (State.slotAbsent i s).coils.coils.eb (State.slotAbsent i s).causes := by
  simp (maxDischargeDepth := 12) -implicitDefEqProofs [State.slotAbsent, h]

@[simp] theorem State.tellPresent_eb (r : Role) (s : State) (h : EbAgrees s.coils.coils.eb s.causes) :
    EbAgrees (State.tellPresent r s).coils.coils.eb (State.tellPresent r s).causes := by
  unfold State.tellPresent
  split <;> simp (maxDischargeDepth := 12) -implicitDefEqProofs [h]

@[simp] theorem State.slotPresent_eb (i : Fin 6) (s : State) (h : EbAgrees s.coils.coils.eb s.causes) :
    EbAgrees (State.slotPresent i s).coils.coils.eb (State.slotPresent i s).causes := by
  simp (maxDischargeDepth := 12) -implicitDefEqProofs [State.slotPresent, h]

@[simp] theorem State.answered_eb (i : Fin 6) (s : State) (h : EbAgrees s.coils.coils.eb s.causes) :
    EbAgrees (State.answered i s).coils.coils.eb (State.answered i s).causes := by
  unfold State.answered
  split <;> simp (maxDischargeDepth := 12) -implicitDefEqProofs [h]

@[simp] theorem State.missed_eb (i : Fin 6) (s : State) (h : EbAgrees s.coils.coils.eb s.causes) :
    EbAgrees (State.missed i s).coils.coils.eb (State.missed i s).causes := by
  unfold State.missed
  dsimp only
  (repeat' split) <;> simp (maxDischargeDepth := 12) -implicitDefEqProofs [h]

@[simp] theorem State.reprobeDue_eb (i : Fin 6) (s : State) (h : EbAgrees s.coils.coils.eb s.causes) :
    EbAgrees (State.reprobeDue i s).coils.coils.eb (State.reprobeDue i s).causes := by
  unfold State.reprobeDue
  split <;> simp (maxDischargeDepth := 12) -implicitDefEqProofs [h]

@[simp] theorem State.tellOutcome_eb (o : Owner) (valid : Bool) (s : State) (h : EbAgrees s.coils.coils.eb s.causes) :
    EbAgrees (State.tellOutcome o valid s).coils.coils.eb (State.tellOutcome o valid s).causes := by
  unfold State.tellOutcome
  split <;> simp (maxDischargeDepth := 12) -implicitDefEqProofs [h]

@[simp] theorem State.endValid_eb (i : Fin 6) (o : Owner) (f : Frame) (s : State) (h : EbAgrees s.coils.coils.eb s.causes) :
    EbAgrees (State.endValid i o f s).coils.coils.eb (State.endValid i o f s).causes := by
  simp (maxDischargeDepth := 12) -implicitDefEqProofs [State.endValid, h]

@[simp] theorem State.endInvalid_eb (i : Fin 6) (o : Owner) (s : State) (h : EbAgrees s.coils.coils.eb s.causes) :
    EbAgrees (State.endInvalid i o s).coils.coils.eb (State.endInvalid i o s).causes := by
  simp (maxDischargeDepth := 12) -implicitDefEqProofs [State.endInvalid, h]

@[simp] theorem State.moduleFrame_eb (f : Frame) (s : State) (h : EbAgrees s.coils.coils.eb s.causes) :
    EbAgrees (State.moduleFrame f s).coils.coils.eb (State.moduleFrame f s).causes := by
  unfold State.moduleFrame
  (repeat' split) <;> simp (maxDischargeDepth := 12) -implicitDefEqProofs [h]

@[simp] theorem State.noAnswer_eb (s : State) (h : EbAgrees s.coils.coils.eb s.causes) :
    EbAgrees (State.noAnswer s).coils.coils.eb (State.noAnswer s).causes := by
  unfold State.noAnswer
  split <;> simp (maxDischargeDepth := 12) -implicitDefEqProofs [h]

@[simp] theorem State.windowPasses_eb (s : State) (h : EbAgrees s.coils.coils.eb s.causes) :
    EbAgrees (State.windowPasses s).coils.coils.eb (State.windowPasses s).causes := by
  unfold State.windowPasses
  split <;> simp (maxDischargeDepth := 12) -implicitDefEqProofs [h]

@[simp] theorem State.groupEnds_eb (s : State) (h : EbAgrees s.coils.coils.eb s.causes) :
    EbAgrees (State.groupEnds s).coils.coils.eb (State.groupEnds s).causes := by
  unfold State.groupEnds
  split <;> simp (maxDischargeDepth := 12) -implicitDefEqProofs [h]

@[simp] theorem State.frameSeen_eb (s : State) (h : EbAgrees s.coils.coils.eb s.causes) :
    EbAgrees (State.frameSeen s).coils.coils.eb (State.frameSeen s).causes := by
  unfold State.frameSeen
  split <;> simp (maxDischargeDepth := 12) -implicitDefEqProofs [h]

theorem State.gated_eb (k : Byte) (f : State → State) (s : State) (hf : EbAgrees s.coils.coils.eb s.causes → EbAgrees (f s).coils.coils.eb (f s).causes)
    (h : EbAgrees s.coils.coils.eb s.causes) : EbAgrees (s.gated k f).coils.coils.eb (s.gated k f).causes := by
  unfold State.gated; split
  · simpa using h
  · exact hf h

@[simp] theorem State.setUp_eb (id rate : Nat) (roles : Vector Role 6) (silence : Nat) (s : State) (h : EbAgrees s.coils.coils.eb s.causes) :
    EbAgrees (State.setUp id rate roles silence s).coils.coils.eb (State.setUp id rate roles silence s).causes := by
  simp (maxDischargeDepth := 12) -implicitDefEqProofs [State.setUp, h]

@[simp] theorem State.serveSetup_eb (id : Word16) (rate : Byte) (codes : Vector Byte 6) (silence : Byte) (s : State) (h : EbAgrees s.coils.coils.eb s.causes) :
    EbAgrees (State.serveSetup id rate codes silence s).coils.coils.eb (State.serveSetup id rate codes silence s).causes := by
  unfold State.serveSetup
  (repeat' split) <;> simp (maxDischargeDepth := 12) -implicitDefEqProofs [h]

@[simp] theorem State.serveAlive_eb (s : State) (h : EbAgrees s.coils.coils.eb s.causes) :
    EbAgrees (State.serveAlive s).coils.coils.eb (State.serveAlive s).causes := by
  simp (maxDischargeDepth := 12) -implicitDefEqProofs [State.serveAlive, h]

@[simp] theorem State.serveService_eb (on : Bool) (s : State) (h : EbAgrees s.coils.coils.eb s.causes) :
    EbAgrees (State.serveService on s).coils.coils.eb (State.serveService on s).causes := by
  unfold State.serveService
  (repeat' split) <;> simp (maxDischargeDepth := 12) -implicitDefEqProofs [h]

@[simp] theorem State.serveInhibit_eb (on : Bool) (s : State) (h : EbAgrees s.coils.coils.eb s.causes) :
    EbAgrees (State.serveInhibit on s).coils.coils.eb (State.serveInhibit on s).causes := by
  simp (maxDischargeDepth := 12) -implicitDefEqProofs [State.serveInhibit, h]

@[simp] theorem State.serveRestart_eb (s : State) (h : EbAgrees s.coils.coils.eb s.causes) :
    EbAgrees (State.serveRestart s).coils.coils.eb (State.serveRestart s).causes := by
  simp (maxDischargeDepth := 12) -implicitDefEqProofs [State.serveRestart, h]

@[simp] theorem State.serveClearAll_eb (s : State) (h : EbAgrees s.coils.coils.eb s.causes) :
    EbAgrees (State.serveClearAll s).coils.coils.eb (State.serveClearAll s).causes := by
  unfold State.serveClearAll
  (repeat' split) <;> simp (maxDischargeDepth := 12) -implicitDefEqProofs [h]

@[simp] theorem State.serveClock_eb (day second dayOfWeek : Nat) (s : State) (h : EbAgrees s.coils.coils.eb s.causes) :
    EbAgrees (State.serveClock day second dayOfWeek s).coils.coils.eb (State.serveClock day second dayOfWeek s).causes := by
  unfold State.serveClock
  split <;> simp (maxDischargeDepth := 12) -implicitDefEqProofs [h]

@[simp] theorem State.serveQuery_eb (topic index : Byte) (s : State) (h : EbAgrees s.coils.coils.eb s.causes) :
    EbAgrees (State.serveQuery topic index s).coils.coils.eb (State.serveQuery topic index s).causes := by
  unfold State.serveQuery
  (repeat' split) <;> simp (maxDischargeDepth := 12) -implicitDefEqProofs [h]

@[simp] theorem State.takeSetup_eb (id : Word16) (rate : Byte) (roles : Vector Byte 6) (silence : Byte) (s : State) (h : EbAgrees s.coils.coils.eb s.causes) :
    EbAgrees (State.takeSetup id rate roles silence s).coils.coils.eb (State.takeSetup id rate roles silence s).causes := by
  simp (maxDischargeDepth := 12) -implicitDefEqProofs [State.takeSetup, h]

@[simp] theorem State.takeLoad_eb (kind : TableKind) (generation : Word16) (index total : Byte) (check count : Word16) (entries : List Byte) (s : State) (h : EbAgrees s.coils.coils.eb s.causes) :
    EbAgrees (State.takeLoad kind generation index total check count entries s).coils.coils.eb (State.takeLoad kind generation index total check count entries s).causes := by
  unfold State.takeLoad
  (repeat' split) <;> simp (maxDischargeDepth := 12) -implicitDefEqProofs [h]

@[simp] theorem State.takeActivate_eb (kind : TableKind) (generation : Word16) (due : Due) (s : State) (h : EbAgrees s.coils.coils.eb s.causes) :
    EbAgrees (State.takeActivate kind generation due s).coils.coils.eb (State.takeActivate kind generation due s).causes := by
  unfold State.takeActivate; exact State.gated_eb _ _ _ (fun h => by simp (maxDischargeDepth := 12) -implicitDefEqProofs [h]) h

@[simp] theorem State.takeSell_eb (product zones : Byte) (concession : Fin 8) (medium : Medium) (keep : Bool) (s : State) (h : EbAgrees s.coils.coils.eb s.causes) :
    EbAgrees (State.takeSell product zones concession medium keep s).coils.coils.eb (State.takeSell product zones concession medium keep s).causes := by
  unfold State.takeSell; exact State.gated_eb _ _ _ (fun h => by simp (maxDischargeDepth := 12) -implicitDefEqProofs [h]) h

@[simp] theorem State.takeClock_eb (day : Word16) (second : Word32) (dayOfWeek : Byte) (s : State) (h : EbAgrees s.coils.coils.eb s.causes) :
    EbAgrees (State.takeClock day second dayOfWeek s).coils.coils.eb (State.takeClock day second dayOfWeek s).causes := by
  unfold State.takeClock; exact State.gated_eb _ _ _ (fun h => by simp (maxDischargeDepth := 12) -implicitDefEqProofs [h]) h

@[simp] theorem State.takeTube_eb (tube count : Byte) (s : State) (h : EbAgrees s.coils.coils.eb s.causes) :
    EbAgrees (State.takeTube tube count s).coils.coils.eb (State.takeTube tube count s).causes := by
  unfold State.takeTube; exact State.gated_eb _ _ _ (fun h => by simp (maxDischargeDepth := 12) -implicitDefEqProofs [h]) h

@[simp] theorem State.takeRequest_eb (i : Instr) (s : State) (h : EbAgrees s.coils.coils.eb s.causes) : EbAgrees (s.takeRequest i).coils.coils.eb (s.takeRequest i).causes := by
  unfold State.takeRequest
  split <;> first
    | exact h
    | (simp (maxDischargeDepth := 12) -implicitDefEqProofs [h]; done)
    | exact State.gated_eb _ _ _ (fun h => by simp (maxDischargeDepth := 12) -implicitDefEqProofs [h]) h

@[simp] theorem State.refuseFormat_eb (kind : Byte) (p : List Byte) (s : State) (h : EbAgrees s.coils.coils.eb s.causes) :
    EbAgrees (State.refuseFormat kind p s).coils.coils.eb (State.refuseFormat kind p s).causes := by
  unfold State.refuseFormat
  split <;> simp (maxDischargeDepth := 12) -implicitDefEqProofs [h]

@[simp] theorem State.disposeRequest_eb (kind : Byte) (p : List Byte) (s : State) (h : EbAgrees s.coils.coils.eb s.causes) :
    EbAgrees (State.disposeRequest kind p s).coils.coils.eb (State.disposeRequest kind p s).causes := by
  unfold State.disposeRequest
  split <;> simp (maxDischargeDepth := 12) -implicitDefEqProofs [h]

@[simp] theorem State.disposeDownward_eb (f : Frame) (s : State) (h : EbAgrees s.coils.coils.eb s.causes) :
    EbAgrees (State.disposeDownward f s).coils.coils.eb (State.disposeDownward f s).causes := by
  unfold State.disposeDownward
  split <;> simp (maxDischargeDepth := 12) -implicitDefEqProofs [h]

@[simp] theorem State.disposeFrame_eb (f : Frame) (s : State) (h : EbAgrees s.coils.coils.eb s.causes) :
    EbAgrees (State.disposeFrame f s).coils.coils.eb (State.disposeFrame f s).causes := by
  unfold State.disposeFrame
  (repeat' split) <;> simp (maxDischargeDepth := 12) -implicitDefEqProofs [h]

theorem State.onCLine_eb (f : Frame) (g : State → State) (s : State)
    (hg : ∀ t : State, EbAgrees t.coils.coils.eb t.causes → EbAgrees (g t).coils.coils.eb (g t).causes) (h : EbAgrees s.coils.coils.eb s.causes) : EbAgrees (s.onCLine f g).coils.coils.eb (s.onCLine f g).causes := by
  unfold State.onCLine
  repeat' split
  · exact h
  · simpa using h
  · exact hg _ (by simpa using State.frameSeen_eb s h)

theorem State.onRequest_eb (i : Instr) (g : State → State) (s : State)
    (hg : ∀ t : State, EbAgrees t.coils.coils.eb t.causes → EbAgrees (g t).coils.coils.eb (g t).causes) (h : EbAgrees s.coils.coils.eb s.causes) : EbAgrees (s.onRequest i g).coils.coils.eb (s.onRequest i g).causes := by
  unfold State.onRequest
  split
  · exact State.onCLine_eb _ _ _ hg h
  · exact h

@[simp] theorem State.runC_eb (s : State) (h : EbAgrees s.coils.coils.eb s.causes) : EbAgrees s.runC.coils.coils.eb s.runC.causes :=
  State.pumpC_keeps (fun t => EbAgrees t.coils.coils.eb t.causes) (fun _ _ ht => ht) (fun f _ ht => State.disposeFrame_eb f _ (State.frameSeen_eb _ ht)) _ s h

@[simp] theorem State.runM_eb (s : State) (h : EbAgrees s.coils.coils.eb s.causes) : EbAgrees s.runM.coils.coils.eb s.runM.causes :=
  State.pumpM_keeps (fun t => EbAgrees t.coils.coils.eb t.causes) (fun _ _ ht => ht) (fun t ht => State.noAnswer_eb t ht)
    (fun f t ht => State.moduleFrame_eb f t ht) _ s h

@[simp] theorem State.onReceiver_eb (l : Line) (f : Receiver → Receiver) (s : State)
    (h : EbAgrees s.coils.coils.eb s.causes) : EbAgrees (s.onReceiver l f).coils.coils.eb (s.onReceiver l f).causes := by
  unfold State.onReceiver; repeat' split
  · exact State.runC_eb _ h
  · exact State.runM_eb _ h
  · exact h

@[simp] theorem State.characterArrives_eb (l : Line) (value : Byte) (parity stopMark : Bool) (s : State) (h : EbAgrees s.coils.coils.eb s.causes) :
    EbAgrees (State.characterArrives l value parity stopMark s).coils.coils.eb (State.characterArrives l value parity stopMark s).causes := by
  simp (maxDischargeDepth := 12) -implicitDefEqProofs [State.characterArrives, h]

@[simp] theorem State.breakArrives_eb (l : Line) (s : State) (h : EbAgrees s.coils.coils.eb s.causes) :
    EbAgrees (State.breakArrives l s).coils.coils.eb (State.breakArrives l s).causes := by
  simp (maxDischargeDepth := 12) -implicitDefEqProofs [State.breakArrives, h]

@[simp] theorem State.gapExpires_eb (l : Line) (s : State) (h : EbAgrees s.coils.coils.eb s.causes) :
    EbAgrees (State.gapExpires l s).coils.coils.eb (State.gapExpires l s).causes := by
  unfold State.gapExpires
  split <;> simp (maxDischargeDepth := 12) -implicitDefEqProofs [h]

@[simp] theorem State.takeNext_eb (s : State) (h : EbAgrees s.coils.coils.eb s.causes) :
    EbAgrees (State.takeNext s).coils.coils.eb (State.takeNext s).causes := by
  unfold State.takeNext
  split <;> simp (maxDischargeDepth := 12) -implicitDefEqProofs [h]

@[simp] theorem State.transmitEnds_eb (s : State) (h : EbAgrees s.coils.coils.eb s.causes) :
    EbAgrees (State.transmitEnds s).coils.coils.eb (State.transmitEnds s).causes := by
  unfold State.transmitEnds
  split <;> simp (maxDischargeDepth := 12) -implicitDefEqProofs [h]

@[simp] theorem State.transmit_eb (s : State) (h : EbAgrees s.coils.coils.eb s.causes) :
    EbAgrees (State.transmit s).coils.coils.eb (State.transmit s).causes := by
  unfold State.transmit
  split <;> simp (maxDischargeDepth := 12) -implicitDefEqProofs [h]

@[simp] theorem State.silenceExpires_eb (s : State) (h : EbAgrees s.coils.coils.eb s.causes) :
    EbAgrees (State.silenceExpires s).coils.coils.eb (State.silenceExpires s).causes := by
  unfold State.silenceExpires
  split <;> simp (maxDischargeDepth := 12) -implicitDefEqProofs [h]

@[simp] theorem State.secondAdvances_eb (s : State) (h : EbAgrees s.coils.coils.eb s.causes) :
    EbAgrees (State.secondAdvances s).coils.coils.eb (State.secondAdvances s).causes := by
  unfold State.secondAdvances
  dsimp only
  (repeat' split) <;> simp (maxDischargeDepth := 12) -implicitDefEqProofs [h]

@[simp] theorem State.hundredthAdvances_eb (s : State) (h : EbAgrees s.coils.coils.eb s.causes) :
    EbAgrees (State.hundredthAdvances s).coils.coils.eb (State.hundredthAdvances s).causes := by
  unfold State.hundredthAdvances
  (repeat' split) <;> simp (maxDischargeDepth := 12) -implicitDefEqProofs [h]

@[simp] theorem State.oscillatorStops_eb (s : State) (h : EbAgrees s.coils.coils.eb s.causes) :
    EbAgrees (State.oscillatorStops s).coils.coils.eb (State.oscillatorStops s).causes := by
  unfold State.oscillatorStops
  split <;> simp (maxDischargeDepth := 12) -implicitDefEqProofs [h]

@[simp] theorem State.timeBaseRuns_eb (s : State) (h : EbAgrees s.coils.coils.eb s.causes) :
    EbAgrees (State.timeBaseRuns s).coils.coils.eb (State.timeBaseRuns s).causes := by
  simp (maxDischargeDepth := 12) -implicitDefEqProofs [State.timeBaseRuns, h]

end Sys2Proof.Machine
end

