-- ==== Sys2Proof/Laws/Entry.lean ====
section
/-! SUPPORT. The entry test under every operation (R64): each one leaves the failing conditions as last tested, or tests them at
its end. -/

namespace Sys2Proof.Machine

/-- The failing conditions that these fields give (R64). -/
def failingOf (st : ChuteState) (p : PurchaseState) (part : PartState) (detached inhibit door : Bool)
    (coin : Option (Active CoinTable)) (fare : Option (Active FareTable)) (c : Money) : Causes :=
  { chute := st != .idle, purchase := !(p == .idle || p == .opened), state := part != .ready, detached := detached
    inhibit := inhibit, door := door, table := !(coin.isSome && fare.isSome)
    ceiling := !(match coin.map Active.content, fare.map Active.content with
      | some t, some f =>
        match t.smallestValue with
        | some v => c.toNat + v ≤ f.header.ceiling
        | none => false
      | _, _ => false) }

/-- The conditions are those last tested, and EB agrees (R64). -/
structure Entry (eb : Coil) (k : Causes) (st : ChuteState) (p : PurchaseState) (part : PartState)
    (detached inhibit door : Bool) (coin : Option (Active CoinTable)) (fare : Option (Active FareTable)) (c : Money) :
    Prop where
  tested : k = failingOf st p part detached inhibit door coin fare c
  eb : EbAgrees eb k

/-- The conditions of a state are those last tested, and EB agrees (R64). -/
abbrev State.Entry (s : State) : Prop :=
  Machine.Entry s.coils.coils.eb s.causes s.chute.state s.purchase s.part s.detached s.inhibit s.doorOpen s.retained.coin
    s.retained.fare s.retained.ledger.c

theorem State.failing_eq (s : State) : s.failing = failingOf s.chute.state s.purchase s.part s.detached s.inhibit
    s.doorOpen s.retained.coin s.retained.fare s.retained.ledger.c := rfl

/-- The entry test makes the conditions those last tested (R64). -/
@[simp] theorem State.entryTest_entry (s : State) (h : EbAgrees s.coils.coils.eb s.causes) : s.entryTest.Entry := by
  refine ⟨?_, State.entryTest_eb s h⟩
  rw [← State.failing_eq]
  unfold State.entryTest
  split
  · next e => exact e.symm
  · rfl

theorem State.entryTest_causes_failing (s : State) : s.entryTest.causes = s.entryTest.failing := by
  unfold State.entryTest
  split
  · next e => exact e.symm
  · rfl

/-- EB's drive in another phase. -/
theorem Entry.withEb {eb eb' : Coil} {k : Causes} {st : ChuteState} {p : PurchaseState} {part : PartState}
    {detached inhibit door : Bool} {coin : Option (Active CoinTable)} {fare : Option (Active FareTable)} {c : Money}
    (h : Entry eb k st p part detached inhibit door coin fare c) (he : EbAgrees eb' k) :
    Entry eb' k st p part detached inhibit door coin fare c := ⟨h.tested, he⟩

/-- A move between chute states other than IDLE changes no condition. -/
theorem Entry.moved {eb : Coil} {k : Causes} {st st' : ChuteState} {p : PurchaseState} {part : PartState}
    {detached inhibit door : Bool} {coin : Option (Active CoinTable)} {fare : Option (Active FareTable)} {c : Money}
    (h : Entry eb k st p part detached inhibit door coin fare c) (h1 : st ≠ .idle) (h2 : st' ≠ .idle) :
    Entry eb k st' p part detached inhibit door coin fare c := by
  refine ⟨h.tested.trans ?_, h.eb⟩
  simp [failingOf, bne_iff_ne.2 h1, bne_iff_ne.2 h2]

@[simp] theorem Move.paidCoin_c (v : Money) (l : Ledger) : (Move.paidCoin v l).c = l.c := by
  unfold Move.paidCoin; split <;> rfl
@[simp] theorem Move.extraCoin_c (v : Money) (l : Ledger) : (Move.extraCoin v l).c = l.c := rfl
@[simp] theorem Move.writeOff_c (v : Money) (l : Ledger) : (Move.writeOff v l).c = l.c := rfl
@[simp] theorem Move.clearCounters_c (l : Ledger) : (Move.clearCounters l).c = l.c := rfl

@[simp] theorem Chute.startWait_state (c : Chute) : c.startWait.state = c.state := by
  unfold Chute.startWait
  repeat' split
  all_goals rfl

/-! ## Every operation -/

@[simp] theorem State.issueFree_entry (r : Report) (s : State) (h : State.Entry s) :
    State.Entry (State.issueFree r s) := by
  unfold State.issueFree
  split <;> simp (maxDischargeDepth := 12) -implicitDefEqProofs [State.Entry, h, h.eb]

@[simp] theorem State.issueReserved_entry (r : Report) (s : State) (h : State.Entry s) :
    State.Entry (State.issueReserved r s) := by
  unfold State.issueReserved
  split <;> simp (maxDischargeDepth := 12) -implicitDefEqProofs [State.Entry, h, h.eb]

@[simp] theorem State.tubesChanged_entry (s : State) (before : State) (h : State.Entry s) :
    State.Entry (State.tubesChanged s before) := by
  unfold State.tubesChanged
  split <;> simp (maxDischargeDepth := 12) -implicitDefEqProofs [State.Entry, h, h.eb]

@[simp] theorem State.enterFault_entry (k : FaultKind) (s : State) (h : EbAgrees s.coils.coils.eb s.causes) :
    State.Entry (State.enterFault k s) := by
  unfold State.enterFault
  split <;> simp (maxDischargeDepth := 12) -implicitDefEqProofs [State.Entry, h]

@[simp] theorem State.coilFault_entry (failed : PerCoil Bool) (s : State) : (s.coilFault failed).Entry := by
  refine ⟨?_, State.coilFault_eb failed s⟩
  unfold State.coilFault State.enterFault
  exact State.entryTest_causes_failing _

@[simp] theorem State.pwmPeriod_entry (sense : PerCoil Sense) (s : State) (h : s.Entry) : (s.pwmPeriod sense).Entry := by
  unfold State.pwmPeriod
  split
  · exact h
  · dsimp only
    split
    · exact (State.coilFault_entry _ _).withEb (CoilDriver.periodStart_eb _ _ _ (State.coilFault_eb _ _))
    · exact h.withEb (CoilDriver.periodStart_eb _ _ _ (CoilDriver.periodEnd_eb _ _ _ _ h.eb))

@[simp] theorem State.pullInCheck_entry (ends : PerCoil Bool) (sense : PerCoil Sense) (s : State) (h : s.Entry) :
    (s.pullInCheck ends sense).Entry := by
  unfold State.pullInCheck
  split
  · exact h
  · dsimp only
    split
    · split
      · exact State.coilFault_entry _ _
      · exact h.withEb ((Coil.checked_on _ _ _ _).trans h.eb)
    · exact h

@[simp] theorem State.diverterChangeover_entry (s : State) (h : State.Entry s) :
    State.Entry (State.diverterChangeover s) := by
  unfold State.diverterChangeover
  split <;> simp (maxDischargeDepth := 12) -implicitDefEqProofs [State.Entry, h, h.eb]

@[simp] theorem State.serveLoad_entry (kind : TableKind) (generation index total check count : Nat) (bytes : List Byte) (s : State) (h : State.Entry s) :
    State.Entry (State.serveLoad kind generation index total check count bytes s) := by
  unfold State.serveLoad
  dsimp only
  (repeat' split) <;> simp (maxDischargeDepth := 12) -implicitDefEqProofs [State.Entry, h, h.eb]

@[simp] theorem State.serveDiscard_entry (kind : TableKind) (s : State) (h : State.Entry s) :
    State.Entry (State.serveDiscard kind s) := by
  unfold State.serveDiscard
  dsimp only
  (repeat' split) <;> simp (maxDischargeDepth := 12) -implicitDefEqProofs [State.Entry, h, h.eb]

theorem State.coinActivation_entry (before : State) (s : State) (h : EbAgrees s.coils.coils.eb s.causes) :
    (State.afterActivation .coin before s).Entry := by
  have a : ((s.tubesChanged before).entryTest).Entry := State.entryTest_entry _ (State.tubesChanged_eb s before h)
  unfold State.afterActivation
  dsimp only
  generalize (s.tubesChanged before).entryTest = t at a ⊢
  split
  · split
    · exact a
    · exact a
  · split
    · exact a.withEb (CoilDriver.newProfile_eb _ _ _ a.eb)
    · exact a.withEb (CoilDriver.newProfile_eb _ _ _ a.eb)

@[simp] theorem State.takeActivation_entry (kind : TableKind) (waited : Bool) (s : State) (h : s.Entry) :
    (State.takeActivation kind waited s).Entry := by
  unfold State.takeActivation
  cases kind
  · exact State.coinActivation_entry _ _ (State.issueReserved_eb _ _ h.eb)
  · exact State.entryTest_entry _ (State.issueReserved_eb _ _ h.eb)
  all_goals exact State.issueReserved_entry _ _ h

@[simp] theorem State.fallDue_entry (kind : TableKind) (s : State) (h : State.Entry s) :
    State.Entry (State.fallDue kind s) := by
  unfold State.fallDue
  dsimp only
  (repeat' split) <;> simp (maxDischargeDepth := 12) -implicitDefEqProofs [State.Entry, h, h.eb]

@[simp] theorem State.takeWaiting_entry (kind : TableKind) (s : State) (h : State.Entry s) :
    State.Entry (State.takeWaiting kind s) := by
  unfold State.takeWaiting
  dsimp only
  (repeat' split) <;> simp (maxDischargeDepth := 12) -implicitDefEqProofs [State.Entry, h, h.eb]

@[simp] theorem State.testSchedules_entry (s : State) (h : State.Entry s) : State.Entry s.testSchedules.2 :=
  State.testSchedules_keeps (fun t => State.Entry t) (fun k t ht => State.fallDue_entry k t ht) s h

@[simp] theorem State.serveActivate_entry (kind : TableKind) (generation : Word16) (due : Due) (s : State) (h : State.Entry s) :
    State.Entry (State.serveActivate kind generation due s) := by
  unfold State.serveActivate
  dsimp only
  (repeat' split) <;> simp (maxDischargeDepth := 12) -implicitDefEqProofs [State.Entry, h, h.eb]

@[simp] theorem State.returnCoin_entry (m : Measurement) (s : State) (h : EbAgrees s.coils.coils.eb s.causes) :
    State.Entry (State.returnCoin m s) := by
  unfold State.returnCoin
  split <;> simp (maxDischargeDepth := 12) -implicitDefEqProofs [State.Entry, h]

@[simp] theorem State.acceptCoin_entry (a : AcceptedCoin) (m : Measurement) (s : State) (h : EbAgrees s.coils.coils.eb s.causes) :
    State.Entry (State.acceptCoin a m s) := by
  simp (maxDischargeDepth := 12) -implicitDefEqProofs [State.acceptCoin, State.Entry, h]

@[simp] theorem State.decideCoin_entry (s : State) (h : EbAgrees s.coils.coils.eb s.causes) :
    State.Entry (State.decideCoin s) := by
  unfold State.decideCoin
  dsimp only
  (repeat' split) <;> simp (maxDischargeDepth := 12) -implicitDefEqProofs [State.Entry, h]

@[simp] theorem State.chuteToIdle_entry (s : State) (h : EbAgrees s.coils.coils.eb s.causes) :
    State.Entry (State.chuteToIdle s) := by
  simp (maxDischargeDepth := 12) -implicitDefEqProofs [State.chuteToIdle, State.Entry, h]

@[simp] theorem State.coinAtC_entry (s : State) (h : EbAgrees s.coils.coils.eb s.causes) :
    State.Entry (State.coinAtC s) := by
  unfold State.coinAtC
  split <;> simp (maxDischargeDepth := 12) -implicitDefEqProofs [State.Entry, h]

@[simp] theorem State.coinBegins_entry (s : State) (h : EbAgrees s.coils.coils.eb s.causes) :
    State.Entry (State.coinBegins s) := by
  simp (maxDischargeDepth := 12) -implicitDefEqProofs [State.coinBegins, State.Entry, h]

theorem State.riseIn_entry (s : State) (c : ChuteState) (x : Sensor) (h : s.Entry) (hc : s.chute.state = c) :
    (s.riseIn c x).Entry := by
  unfold State.riseIn
  split
  all_goals first
    | with_reducible exact h
    | with_reducible exact State.enterFault_entry _ _ h.eb
    | with_reducible exact State.coinAtC_entry _ h.eb
    | with_reducible exact State.coinBegins_entry _ h.eb
    | with_reducible exact State.chuteToIdle_entry _ h.eb
    | exact h.moved (by rw [hc]; decide) (by simp [hc])

@[simp] theorem State.sensorRise_entry (x : Sensor) (ticks : Nat) (s : State) (h : s.Entry) :
    (s.sensorRise x ticks).Entry := by
  unfold State.sensorRise
  split
  · exact h
  · exact State.riseIn_entry _ _ _ (by simpa [State.Entry] using h) (by simp)

theorem State.fallIn_entry (s : State) (c : ChuteState) (x : Sensor) (h : s.Entry) (hc : s.chute.state = c) :
    (s.fallIn c x).Entry := by
  unfold State.fallIn
  split
  all_goals first
    | with_reducible exact h
    | with_reducible exact State.decideCoin_entry _ h.eb
    | exact h.moved (by rw [hc]; decide) (by simp [hc])

@[simp] theorem State.sensorFall_entry (x : Sensor) (ticks : Nat) (s : State) (h : s.Entry) :
    (s.sensorFall x ticks).Entry := by
  unfold State.sensorFall
  split
  · exact State.fallIn_entry _ _ _ (by simpa [State.Entry] using h) (by simp)
  · exact h

@[simp] theorem State.aLimitPasses_entry (s : State) (h : State.Entry s) :
    State.Entry (State.aLimitPasses s) := by
  unfold State.aLimitPasses
  split <;> simp (maxDischargeDepth := 12) -implicitDefEqProofs [State.Entry, h, h.eb]

@[simp] theorem State.gapLimitPasses_entry (s : State) (h : State.Entry s) :
    State.Entry (State.gapLimitPasses s) := by
  unfold State.gapLimitPasses
  split <;> simp (maxDischargeDepth := 12) -implicitDefEqProofs [State.Entry, h, h.eb]

@[simp] theorem State.acceptWaitPasses_entry (s : State) (h : State.Entry s) :
    State.Entry (State.acceptWaitPasses s) := by
  unfold State.acceptWaitPasses
  split <;> simp (maxDischargeDepth := 12) -implicitDefEqProofs [State.Entry, h, h.eb]

@[simp] theorem State.returnWaitPasses_entry (s : State) (h : State.Entry s) :
    State.Entry (State.returnWaitPasses s) := by
  unfold State.returnWaitPasses
  split <;> simp (maxDischargeDepth := 12) -implicitDefEqProofs [State.Entry, h, h.eb]

@[simp] theorem State.faultClears_entry (s : State) (h : EbAgrees s.coils.coils.eb s.causes) :
    State.Entry (State.faultClears s) := by
  simp (maxDischargeDepth := 12) -implicitDefEqProofs [State.faultClears, State.Entry, h]

@[simp] theorem State.idleWaitPasses_entry (s : State) (h : State.Entry s) :
    State.Entry (State.idleWaitPasses s) := by
  unfold State.idleWaitPasses
  split <;> simp (maxDischargeDepth := 12) -implicitDefEqProofs [State.Entry, h, h.eb]

@[simp] theorem State.serveChuteClear_entry (s : State) (h : State.Entry s) :
    State.Entry (State.serveChuteClear s) := by
  unfold State.serveChuteClear
  (repeat' split) <;> simp (maxDischargeDepth := 12) -implicitDefEqProofs [State.Entry, h, h.eb]

@[simp] theorem State.endPayout_entry (s : State) (h : State.Entry s) :
    State.Entry (State.endPayout s) := by
  unfold State.endPayout
  split <;> simp (maxDischargeDepth := 12) -implicitDefEqProofs [State.Entry, h, h.eb]

@[simp] theorem State.startEntry_entry (s : State) (h : State.Entry s) :
    State.Entry (State.startEntry s) := by
  unfold State.startEntry
  (repeat' split) <;> simp (maxDischargeDepth := 12) -implicitDefEqProofs [State.Entry, h, h.eb]

@[simp] theorem State.runPlan_entry (entries : List PlanEntry) (s : State) (h : State.Entry s) :
    State.Entry (State.runPlan entries s) := by
  unfold State.runPlan
  (repeat' split) <;> simp (maxDischargeDepth := 12) -implicitDefEqProofs [State.Entry, h, h.eb]

@[simp] theorem State.startPayout_entry (cause : PayoutCause) (s : State) (h : EbAgrees s.coils.coils.eb s.causes) :
    State.Entry (State.startPayout cause s) := by
  simp (maxDischargeDepth := 12) -implicitDefEqProofs [State.startPayout, State.Entry, h]

@[simp] theorem State.entryDone_entry (s : State) (h : State.Entry s) :
    State.Entry (State.entryDone s) := by
  unfold State.entryDone
  (repeat' split) <;> simp (maxDischargeDepth := 12) -implicitDefEqProofs [State.Entry, h, h.eb]

@[simp] theorem State.paidCoin_entry (i : Fin 4) (s : State) (h : State.Entry s) :
    State.Entry (State.paidCoin i s) := by
  unfold State.paidCoin
  dsimp only
  (repeat' split) <;> simp (maxDischargeDepth := 12) -implicitDefEqProofs [State.Entry, h, h.eb]

@[simp] theorem State.extraCoin_entry (i : Fin 4) (s : State) (h : State.Entry s) :
    State.Entry (State.extraCoin i s) := by
  simp (maxDischargeDepth := 12) -implicitDefEqProofs [State.extraCoin, State.Entry, h, h.eb]

@[simp] theorem State.exitPulse_entry (i : Fin 4) (s : State) (h : State.Entry s) :
    State.Entry (State.exitPulse i s) := by
  unfold State.exitPulse
  split <;> simp (maxDischargeDepth := 12) -implicitDefEqProofs [State.Entry, h, h.eb]

@[simp] theorem State.jam_entry (i : Fin 4) (s : State) (h : State.Entry s) :
    State.Entry (State.jam i s) := by
  simp (maxDischargeDepth := 12) -implicitDefEqProofs [State.jam, State.Entry, h, h.eb]

@[simp] theorem State.afterJam_entry (s : State) (h : State.Entry s) :
    State.Entry (State.afterJam s) := by
  unfold State.afterJam
  (repeat' split) <;> simp (maxDischargeDepth := 12) -implicitDefEqProofs [State.Entry, h, h.eb]

@[simp] theorem State.jamTimeout_entry (i : Fin 4) (s : State) (h : State.Entry s) :
    State.Entry (State.jamTimeout i s) := by
  unfold State.jamTimeout
  split <;> simp (maxDischargeDepth := 12) -implicitDefEqProofs [State.Entry, h, h.eb]

@[simp] theorem State.trailingEnds_entry (i : Fin 4) (s : State) (h : State.Entry s) :
    State.Entry (State.trailingEnds i s) := by
  unfold State.trailingEnds
  split <;> simp (maxDischargeDepth := 12) -implicitDefEqProofs [State.Entry, h, h.eb]

@[simp] theorem State.doorChange_entry (isOpen : Bool) (s : State) (h : State.Entry s) :
    State.Entry (State.doorChange isOpen s) := by
  unfold State.doorChange
  split <;> simp (maxDischargeDepth := 12) -implicitDefEqProofs [State.Entry, h, h.eb]

@[simp] theorem State.leverPress_entry (s : State) (h : State.Entry s) :
    State.Entry (State.leverPress s) := by
  unfold State.leverPress
  split <;> simp (maxDischargeDepth := 12) -implicitDefEqProofs [State.Entry, h, h.eb]

@[simp] theorem State.comeToRest_entry (s : State) (h : EbAgrees s.coils.coils.eb s.causes) :
    State.Entry (State.comeToRest s) := by
  simp (maxDischargeDepth := 12) -implicitDefEqProofs [State.comeToRest, State.Entry, h]

@[simp] theorem State.afterSale_entry (o : OpRecord) (void : Bool) (s : State) (h : EbAgrees s.coils.coils.eb s.causes) :
    State.Entry (State.afterSale o void s) := by
  unfold State.afterSale
  split <;> simp (maxDischargeDepth := 12) -implicitDefEqProofs [State.Entry, h]

@[simp] theorem State.ticketEnds_entry (failure : Option VoidCause) (s : State) (h : State.Entry s) :
    State.Entry (State.ticketEnds failure s) := by
  unfold State.ticketEnds
  (repeat' split) <;> simp (maxDischargeDepth := 12) -implicitDefEqProofs [State.Entry, h, h.eb]

@[simp] theorem State.voucherEnds_entry (failure : Option VoidCause) (s : State) (h : State.Entry s) :
    State.Entry (State.voucherEnds failure s) := by
  unfold State.voucherEnds
  (repeat' split) <;> simp (maxDischargeDepth := 12) -implicitDefEqProofs [State.Entry, h, h.eb]

@[simp] theorem State.serveCancel_entry (s : State) (h : State.Entry s) :
    State.Entry (State.serveCancel s) := by
  unfold State.serveCancel
  (repeat' split) <;> simp (maxDischargeDepth := 12) -implicitDefEqProofs [State.Entry, h, h.eb]

@[simp] theorem State.serveTube_entry (tube count : Nat) (s : State) (h : State.Entry s) :
    State.Entry (State.serveTube tube count s) := by
  unfold State.serveTube
  dsimp only
  (repeat' split) <;> simp (maxDischargeDepth := 12) -implicitDefEqProofs [State.Entry, h, h.eb]

@[simp] theorem State.serveClearTotals_entry (s : State) (h : State.Entry s) :
    State.Entry (State.serveClearTotals s) := by
  unfold State.serveClearTotals
  (repeat' split) <;> simp (maxDischargeDepth := 12) -implicitDefEqProofs [State.Entry, h, h.eb]

@[simp] theorem State.printDuty_entry (s : State) (h : State.Entry s) :
    State.Entry (State.printDuty s) := by
  unfold State.printDuty
  split <;> simp (maxDischargeDepth := 12) -implicitDefEqProofs [State.Entry, h, h.eb]

@[simp] theorem State.startJob_entry (kind : JobKind) (txn template : Nat) (v : FieldValues) (s : State) (h : State.Entry s) :
    State.Entry (State.startJob kind txn template v s) := by
  simp (maxDischargeDepth := 12) -implicitDefEqProofs [State.startJob, State.Entry, h, h.eb]

@[simp] theorem State.receiptEnds_entry (txn : Nat) (failure : Option VoidCause) (s : State) (h : State.Entry s) :
    State.Entry (State.receiptEnds txn failure s) := by
  simp (maxDischargeDepth := 12) -implicitDefEqProofs [State.receiptEnds, State.Entry, h, h.eb]

@[simp] theorem State.tellOwner_entry (j : Job) (failure : Option VoidCause) (s : State) (h : State.Entry s) :
    State.Entry (State.tellOwner j failure s) := by
  unfold State.tellOwner
  split <;> simp (maxDischargeDepth := 12) -implicitDefEqProofs [State.Entry, h, h.eb]

@[simp] theorem State.jobEnds_entry (failure : Option VoidCause) (s : State) (h : State.Entry s) :
    State.Entry (State.jobEnds failure s) := by
  unfold State.jobEnds
  split <;> simp (maxDischargeDepth := 12) -implicitDefEqProofs [State.Entry, h, h.eb]

@[simp] theorem State.cutTimeout_entry (s : State) (h : State.Entry s) :
    State.Entry (State.cutTimeout s) := by
  unfold State.cutTimeout
  (repeat' split) <;> simp (maxDischargeDepth := 12) -implicitDefEqProofs [State.Entry, h, h.eb]

@[simp] theorem State.roomAskDelay_entry (s : State) (h : State.Entry s) :
    State.Entry (State.roomAskDelay s) := by
  unfold State.roomAskDelay
  split <;> simp (maxDischargeDepth := 12) -implicitDefEqProofs [State.Entry, h, h.eb]

@[simp] theorem State.takeState_entry (paper : Paper) (head : Head) (fault : PrinterFault) (s : State) (h : State.Entry s) :
    State.Entry (State.takeState paper head fault s) := by
  unfold State.takeState
  dsimp only
  (repeat' split) <;> simp (maxDischargeDepth := 12) -implicitDefEqProofs [State.Entry, h, h.eb]

@[simp] theorem State.takeCutDone_entry (tag : Nat) (s : State) (h : State.Entry s) :
    State.Entry (State.takeCutDone tag s) := by
  unfold State.takeCutDone
  (repeat' split) <;> simp (maxDischargeDepth := 12) -implicitDefEqProofs [State.Entry, h, h.eb]

@[simp] theorem State.takeNotice_entry (s : State) (n : Notice) (h : State.Entry s) : State.Entry (s.takeNotice n) := by
  unfold State.takeNotice; split <;> simp (maxDischargeDepth := 12) -implicitDefEqProofs [State.Entry, h, h.eb]

@[simp] theorem State.takeNotices_entry (kind : Byte) (payload : List Byte) (s : State) (h : State.Entry s) :
    State.Entry (s.takeNotices kind payload) :=
  State.takeNotices_keeps (fun t => State.Entry t) (fun n t ht => State.takeNotice_entry t n ht) kind payload s h

@[simp] theorem State.lineOutcome_entry (tag : Nat) (valid : Bool) (s : State) (h : State.Entry s) :
    State.Entry (State.lineOutcome tag valid s) := by
  simp (maxDischargeDepth := 12) -implicitDefEqProofs [State.lineOutcome, State.Entry, h, h.eb]

@[simp] theorem State.cutOutcome_entry (tag : Nat) (valid : Bool) (s : State) (h : State.Entry s) :
    State.Entry (State.cutOutcome tag valid s) := by
  simp (maxDischargeDepth := 12) -implicitDefEqProofs [State.cutOutcome, State.Entry, h, h.eb]

@[simp] theorem State.askOutcome_entry (forRoom valid : Bool) (s : State) (h : State.Entry s) :
    State.Entry (State.askOutcome forRoom valid s) := by
  simp (maxDischargeDepth := 12) -implicitDefEqProofs [State.askOutcome, State.Entry, h, h.eb]

@[simp] theorem State.printerAbsent_entry (s : State) (h : State.Entry s) :
    State.Entry (State.printerAbsent s) := by
  simp (maxDischargeDepth := 12) -implicitDefEqProofs [State.printerAbsent, State.Entry, h, h.eb]

@[simp] theorem State.serveVoucher_entry (s : State) (h : State.Entry s) :
    State.Entry (State.serveVoucher s) := by
  unfold State.serveVoucher
  split <;> simp (maxDischargeDepth := 12) -implicitDefEqProofs [State.Entry, h, h.eb]

@[simp] theorem State.serveReprint_entry (s : State) (h : State.Entry s) :
    State.Entry (State.serveReprint s) := by
  unfold State.serveReprint
  (repeat' split) <;> simp (maxDischargeDepth := 12) -implicitDefEqProofs [State.Entry, h, h.eb]

@[simp] theorem State.bindCard_entry (p : Presentation) (s : State) (h : EbAgrees s.coils.coils.eb s.causes) :
    State.Entry (State.bindCard p s) := by
  unfold State.bindCard
  dsimp only
  (repeat' split) <;> simp (maxDischargeDepth := 12) -implicitDefEqProofs [State.Entry, h]

@[simp] theorem State.unbind_entry (s : State) (h : State.Entry s) :
    State.Entry (State.unbind s) := by
  simp (maxDischargeDepth := 12) -implicitDefEqProofs [State.unbind, State.Entry, h, h.eb]

@[simp] theorem State.afterUnbind_entry (s : State) (h : s.Entry) : s.afterUnbind.Entry := by
  unfold State.afterUnbind
  split
  · next e =>
    dsimp only
    split
    · exact State.entryTest_entry _ h.eb
    · next e' =>
      have : s.rest.purchase = .opened := by
        simp only [State.rest] at e' ⊢
        split at e' <;> simp_all
      refine ⟨?_, h.eb⟩
      rw [this, ← e]
      exact h.tested
  · exact h

@[simp] theorem State.cardLeaves_entry (s : State) (h : State.Entry s) :
    State.Entry (State.cardLeaves s) := by
  unfold State.cardLeaves
  (repeat' split) <;> simp (maxDischargeDepth := 12) -implicitDefEqProofs [State.Entry, h, h.eb]

@[simp] theorem State.takeSeen_entry (p : Presentation) (s : State) (h : State.Entry s) :
    State.Entry (State.takeSeen p s) := by
  unfold State.takeSeen
  (repeat' split) <;> simp (maxDischargeDepth := 12) -implicitDefEqProofs [State.Entry, h, h.eb]

@[simp] theorem State.startWrite_entry (o : OpRecord) (b : Binding) (w : Written) (s : State) (h : State.Entry s) :
    State.Entry (State.startWrite o b w s) := by
  simp (maxDischargeDepth := 12) -implicitDefEqProofs [State.startWrite, State.Entry, h, h.eb]

@[simp] theorem State.handReceipt_entry (o : OpRecord) (w : CardWrite) (newBalance : Nat) (s : State) (h : State.Entry s) :
    State.Entry (State.handReceipt o w newBalance s) := by
  unfold State.handReceipt
  dsimp only
  (repeat' split) <;> simp (maxDischargeDepth := 12) -implicitDefEqProofs [State.Entry, h, h.eb]

@[simp] theorem State.writeEnds_entry (s : State) (h : State.Entry s) :
    State.Entry (State.writeEnds s) := by
  unfold State.writeEnds
  dsimp only
  (repeat' split) <;> simp (maxDischargeDepth := 12) -implicitDefEqProofs [State.Entry, h, h.eb]

@[simp] theorem State.writeDone_entry (o : OpRecord) (w : CardWrite) (newSequence : Nat) (s : State) (h : EbAgrees s.coils.coils.eb s.causes) :
    State.Entry (State.writeDone o w newSequence s) := by
  unfold State.writeDone
  split <;> simp (maxDischargeDepth := 12) -implicitDefEqProofs [State.Entry, h]

@[simp] theorem State.writeFail_entry (o : OpRecord) (w : CardWrite) (s : State) (h : EbAgrees s.coils.coils.eb s.causes) :
    State.Entry (State.writeFail o w s) := by
  unfold State.writeFail
  split <;> simp (maxDischargeDepth := 12) -implicitDefEqProofs [State.Entry, h]

@[simp] theorem State.writeUncertain_entry (o : OpRecord) (w : CardWrite) (cause : UncertainCause) (s : State) (h : EbAgrees s.coils.coils.eb s.causes) :
    State.Entry (State.writeUncertain o w cause s) := by
  unfold State.writeUncertain
  dsimp only
  (repeat' split) <;> simp (maxDischargeDepth := 12) -implicitDefEqProofs [State.Entry, h]

@[simp] theorem State.takeWritten_entry (txn : Nat) (r : WriteResult) (s : State) (h : State.Entry s) :
    State.Entry (State.takeWritten txn r s) := by
  unfold State.takeWritten
  (repeat' split) <;> simp (maxDischargeDepth := 12) -implicitDefEqProofs [State.Entry, h, h.eb]

@[simp] theorem State.writeTimeout_entry (s : State) (h : State.Entry s) :
    State.Entry (State.writeTimeout s) := by
  unfold State.writeTimeout
  (repeat' split) <;> simp (maxDischargeDepth := 12) -implicitDefEqProofs [State.Entry, h, h.eb]

@[simp] theorem State.cardAbsent_entry (s : State) (h : State.Entry s) :
    State.Entry (State.cardAbsent s) := by
  unfold State.cardAbsent
  dsimp only
  (repeat' split) <;> simp (maxDischargeDepth := 12) -implicitDefEqProofs [State.Entry, h, h.eb]

@[simp] theorem State.takeCardFrame_entry (kind : Byte) (p : List Byte) (s : State) (h : State.Entry s) :
    State.Entry (State.takeCardFrame kind p s) := by
  unfold State.takeCardFrame
  (repeat' split) <;> simp (maxDischargeDepth := 12) -implicitDefEqProofs [State.Entry, h, h.eb]

@[simp] theorem State.serveTopup_entry (amount : Word16) (receipt : Bool) (s : State) (h : State.Entry s) :
    State.Entry (State.serveTopup amount receipt s) := by
  unfold State.serveTopup
  split <;> simp (maxDischargeDepth := 12) -implicitDefEqProofs [State.Entry, h, h.eb]

@[simp] theorem State.serveWriteOff_entry (txn : Nat) (s : State) (h : State.Entry s) :
    State.Entry (State.serveWriteOff txn s) := by
  unfold State.serveWriteOff
  dsimp only
  (repeat' split) <;> simp (maxDischargeDepth := 12) -implicitDefEqProofs [State.Entry, h, h.eb]

@[simp] theorem State.startSale_entry (o : OpRecord) (q : SellRequest) (t : SaleTerms) (s : State) (h : State.Entry s) :
    State.Entry (State.startSale o q t s) := by
  unfold State.startSale
  split <;> simp (maxDischargeDepth := 12) -implicitDefEqProofs [State.Entry, h, h.eb]

@[simp] theorem State.serveSell_entry (q : SellRequest) (s : State) (h : State.Entry s) :
    State.Entry (State.serveSell q s) := by
  unfold State.serveSell
  split <;> simp (maxDischargeDepth := 12) -implicitDefEqProofs [State.Entry, h, h.eb]

@[simp] theorem State.passDown_entry (f : Frame) (s : State) (h : State.Entry s) :
    State.Entry (State.passDown f s) := by
  unfold State.passDown
  split <;> simp (maxDischargeDepth := 12) -implicitDefEqProofs [State.Entry, h, h.eb]

@[simp] theorem State.consume_entry (r : Role) (f : Frame) (s : State) (h : State.Entry s) :
    State.Entry (State.consume r f s) := by
  unfold State.consume
  split <;> simp (maxDischargeDepth := 12) -implicitDefEqProofs [State.Entry, h, h.eb]

@[simp] theorem State.disposeAnswer_entry (i : Fin 6) (f : Frame) (s : State) (h : State.Entry s) :
    State.Entry (State.disposeAnswer i f s) := by
  unfold State.disposeAnswer
  dsimp only
  (repeat' split) <;> simp (maxDischargeDepth := 12) -implicitDefEqProofs [State.Entry, h, h.eb]

theorem State.grantWrite_entry {s t : State} (e : s.grantWrite = some t) (h : State.Entry s) : State.Entry t := by
  unfold State.grantWrite at e
  repeat' split at e
  all_goals first
    | (cases e; done)
    | (simp only [Option.some.injEq] at e; subst e; simp (maxDischargeDepth := 12) -implicitDefEqProofs [State.Entry, h, h.eb]; done)
    | (simp only [Option.map_eq_some_iff] at e; obtain ⟨_, _, rfl⟩ := e; simp (maxDischargeDepth := 12) -implicitDefEqProofs [State.Entry, h, h.eb])

theorem State.grantPrint_entry {s t : State} (e : s.grantPrint = some t) (h : State.Entry s) : State.Entry t := by
  unfold State.grantPrint at e
  repeat' split at e
  all_goals first
    | (cases e; done)
    | (simp only [Option.some.injEq] at e; subst e; simp (maxDischargeDepth := 12) -implicitDefEqProofs [State.Entry, h, h.eb]; done)
    | (simp only [Option.map_eq_some_iff] at e; obtain ⟨_, _, rfl⟩ := e; simp (maxDischargeDepth := 12) -implicitDefEqProofs [State.Entry, h, h.eb])

theorem State.grantClass3_entry {s t : State} (e : s.grantClass3 = some t) (h : State.Entry s) : State.Entry t := by
  unfold State.grantClass3 at e
  repeat' split at e
  all_goals first
    | (cases e; done)
    | (simp only [Option.some.injEq] at e; subst e; simp (maxDischargeDepth := 12) -implicitDefEqProofs [State.Entry, h, h.eb]; done)
    | (simp only [Option.map_eq_some_iff] at e; obtain ⟨_, _, rfl⟩ := e; simp (maxDischargeDepth := 12) -implicitDefEqProofs [State.Entry, h, h.eb])

theorem State.grantForward_entry {s t : State} (e : s.grantForward = some t) (h : State.Entry s) : State.Entry t := by
  unfold State.grantForward at e
  repeat' split at e
  all_goals first
    | (cases e; done)
    | (simp only [Option.some.injEq] at e; subst e; simp (maxDischargeDepth := 12) -implicitDefEqProofs [State.Entry, h, h.eb]; done)
    | (simp only [Option.map_eq_some_iff] at e; obtain ⟨_, _, rfl⟩ := e; simp (maxDischargeDepth := 12) -implicitDefEqProofs [State.Entry, h, h.eb])

theorem State.grantPoll_entry {s t : State} (e : s.grantPoll = some t) (h : State.Entry s) : State.Entry t := by
  unfold State.grantPoll at e
  repeat' split at e
  all_goals first
    | (cases e; done)
    | (simp only [Option.some.injEq] at e; subst e; simp (maxDischargeDepth := 12) -implicitDefEqProofs [State.Entry, h, h.eb]; done)
    | (simp only [Option.map_eq_some_iff] at e; obtain ⟨_, _, rfl⟩ := e; simp (maxDischargeDepth := 12) -implicitDefEqProofs [State.Entry, h, h.eb])

@[simp] theorem State.grant_entry (s : State) (h : State.Entry s) : State.Entry s.grant :=
  State.grant_keeps (fun t => State.Entry t) s h (fun _ e => State.grantWrite_entry e h) (fun _ e => State.grantPrint_entry e h)
    (fun _ e => State.grantClass3_entry e h) (fun _ e => State.grantForward_entry e h) (fun _ e => State.grantPoll_entry e h)

@[simp] theorem State.issuePresence_entry (r : Role) (discards : Nat) (s : State) (h : State.Entry s) :
    State.Entry (State.issuePresence r discards s) := by
  unfold State.issuePresence
  split <;> simp (maxDischargeDepth := 12) -implicitDefEqProofs [State.Entry, h, h.eb]

@[simp] theorem State.tellAbsent_entry (r : Role) (s : State) (h : State.Entry s) :
    State.Entry (State.tellAbsent r s) := by
  unfold State.tellAbsent
  split <;> simp (maxDischargeDepth := 12) -implicitDefEqProofs [State.Entry, h, h.eb]

@[simp] theorem State.slotAbsent_entry (i : Fin 6) (s : State) (h : State.Entry s) :
    State.Entry (State.slotAbsent i s) := by
  simp (maxDischargeDepth := 12) -implicitDefEqProofs [State.slotAbsent, State.Entry, h, h.eb]

@[simp] theorem State.tellPresent_entry (r : Role) (s : State) (h : State.Entry s) :
    State.Entry (State.tellPresent r s) := by
  unfold State.tellPresent
  split <;> simp (maxDischargeDepth := 12) -implicitDefEqProofs [State.Entry, h, h.eb]

@[simp] theorem State.slotPresent_entry (i : Fin 6) (s : State) (h : State.Entry s) :
    State.Entry (State.slotPresent i s) := by
  simp (maxDischargeDepth := 12) -implicitDefEqProofs [State.slotPresent, State.Entry, h, h.eb]

@[simp] theorem State.answered_entry (i : Fin 6) (s : State) (h : State.Entry s) :
    State.Entry (State.answered i s) := by
  unfold State.answered
  split <;> simp (maxDischargeDepth := 12) -implicitDefEqProofs [State.Entry, h, h.eb]

@[simp] theorem State.missed_entry (i : Fin 6) (s : State) (h : State.Entry s) :
    State.Entry (State.missed i s) := by
  unfold State.missed
  dsimp only
  (repeat' split) <;> simp (maxDischargeDepth := 12) -implicitDefEqProofs [State.Entry, h, h.eb]

@[simp] theorem State.reprobeDue_entry (i : Fin 6) (s : State) (h : State.Entry s) :
    State.Entry (State.reprobeDue i s) := by
  unfold State.reprobeDue
  split <;> simp (maxDischargeDepth := 12) -implicitDefEqProofs [State.Entry, h, h.eb]

@[simp] theorem State.tellOutcome_entry (o : Owner) (valid : Bool) (s : State) (h : State.Entry s) :
    State.Entry (State.tellOutcome o valid s) := by
  unfold State.tellOutcome
  split <;> simp (maxDischargeDepth := 12) -implicitDefEqProofs [State.Entry, h, h.eb]

@[simp] theorem State.endValid_entry (i : Fin 6) (o : Owner) (f : Frame) (s : State) (h : State.Entry s) :
    State.Entry (State.endValid i o f s) := by
  simp (maxDischargeDepth := 12) -implicitDefEqProofs [State.endValid, State.Entry, h, h.eb]

@[simp] theorem State.endInvalid_entry (i : Fin 6) (o : Owner) (s : State) (h : State.Entry s) :
    State.Entry (State.endInvalid i o s) := by
  simp (maxDischargeDepth := 12) -implicitDefEqProofs [State.endInvalid, State.Entry, h, h.eb]

@[simp] theorem State.moduleFrame_entry (f : Frame) (s : State) (h : State.Entry s) :
    State.Entry (State.moduleFrame f s) := by
  unfold State.moduleFrame
  (repeat' split) <;> simp (maxDischargeDepth := 12) -implicitDefEqProofs [State.Entry, h, h.eb]

@[simp] theorem State.noAnswer_entry (s : State) (h : State.Entry s) :
    State.Entry (State.noAnswer s) := by
  unfold State.noAnswer
  split <;> simp (maxDischargeDepth := 12) -implicitDefEqProofs [State.Entry, h, h.eb]

@[simp] theorem State.windowPasses_entry (s : State) (h : State.Entry s) :
    State.Entry (State.windowPasses s) := by
  unfold State.windowPasses
  split <;> simp (maxDischargeDepth := 12) -implicitDefEqProofs [State.Entry, h, h.eb]

@[simp] theorem State.groupEnds_entry (s : State) (h : State.Entry s) :
    State.Entry (State.groupEnds s) := by
  unfold State.groupEnds
  split <;> simp (maxDischargeDepth := 12) -implicitDefEqProofs [State.Entry, h, h.eb]

@[simp] theorem State.frameSeen_entry (s : State) (h : s.Entry) : s.frameSeen.Entry := by
  unfold State.frameSeen
  dsimp only
  split
  · exact State.entryTest_entry _ h.eb
  · next e => exact ⟨by simpa [e] using h.tested, h.eb⟩

theorem State.gated_entry (k : Byte) (f : State → State) (s : State) (hf : s.Entry → (f s).Entry) (h : s.Entry) :
    (s.gated k f).Entry := by
  unfold State.gated; split
  · exact h
  · exact hf h

@[simp] theorem State.setUp_entry (id rate : Nat) (roles : Vector Role 6) (silence : Nat) (s : State) (h : EbAgrees s.coils.coils.eb s.causes) :
    State.Entry (State.setUp id rate roles silence s) := by
  simp (maxDischargeDepth := 12) -implicitDefEqProofs [State.setUp, State.Entry, h]

@[simp] theorem State.serveSetup_entry (id : Word16) (rate : Byte) (codes : Vector Byte 6) (silence : Byte) (s : State) (h : State.Entry s) :
    State.Entry (State.serveSetup id rate codes silence s) := by
  unfold State.serveSetup
  (repeat' split) <;> simp (maxDischargeDepth := 12) -implicitDefEqProofs [State.Entry, h, h.eb]

@[simp] theorem State.serveAlive_entry (s : State) (h : State.Entry s) :
    State.Entry (State.serveAlive s) := by
  simp (maxDischargeDepth := 12) -implicitDefEqProofs [State.serveAlive, State.Entry, h, h.eb]

@[simp] theorem State.serveService_entry (on : Bool) (s : State) (h : State.Entry s) :
    State.Entry (State.serveService on s) := by
  unfold State.serveService
  (repeat' split) <;> simp (maxDischargeDepth := 12) -implicitDefEqProofs [State.Entry, h, h.eb]

@[simp] theorem State.serveInhibit_entry (on : Bool) (s : State) (h : EbAgrees s.coils.coils.eb s.causes) :
    State.Entry (State.serveInhibit on s) := by
  simp (maxDischargeDepth := 12) -implicitDefEqProofs [State.serveInhibit, State.Entry, h]

@[simp] theorem State.serveRestart_entry (s : State) (h : State.Entry s) :
    State.Entry (State.serveRestart s) := by
  simp (maxDischargeDepth := 12) -implicitDefEqProofs [State.serveRestart, State.Entry, h, h.eb]

@[simp] theorem State.serveClearAll_entry (s : State) (h : State.Entry s) :
    State.Entry (State.serveClearAll s) := by
  unfold State.serveClearAll
  (repeat' split) <;> simp (maxDischargeDepth := 12) -implicitDefEqProofs [State.Entry, h, h.eb]

@[simp] theorem State.serveClock_entry (day second dayOfWeek : Nat) (s : State) (h : State.Entry s) :
    State.Entry (State.serveClock day second dayOfWeek s) := by
  unfold State.serveClock
  split <;> simp (maxDischargeDepth := 12) -implicitDefEqProofs [State.Entry, h, h.eb]

@[simp] theorem State.serveQuery_entry (topic index : Byte) (s : State) (h : State.Entry s) :
    State.Entry (State.serveQuery topic index s) := by
  unfold State.serveQuery
  (repeat' split) <;> simp (maxDischargeDepth := 12) -implicitDefEqProofs [State.Entry, h, h.eb]

@[simp] theorem State.takeSetup_entry (id : Word16) (rate : Byte) (roles : Vector Byte 6) (silence : Byte) (s : State) (h : State.Entry s) :
    State.Entry (State.takeSetup id rate roles silence s) := by
  simp (maxDischargeDepth := 12) -implicitDefEqProofs [State.takeSetup, State.Entry, h, h.eb]

@[simp] theorem State.takeLoad_entry (kind : TableKind) (generation : Word16) (index total : Byte) (check count : Word16) (entries : List Byte) (s : State) (h : State.Entry s) :
    State.Entry (State.takeLoad kind generation index total check count entries s) := by
  unfold State.takeLoad
  (repeat' split) <;> simp (maxDischargeDepth := 12) -implicitDefEqProofs [State.Entry, h, h.eb]

@[simp] theorem State.takeActivate_entry (kind : TableKind) (generation : Word16) (due : Due) (s : State) (h : State.Entry s) :
    State.Entry (State.takeActivate kind generation due s) := by
  unfold State.takeActivate; exact State.gated_entry _ _ _ (fun h => by simp (maxDischargeDepth := 12) -implicitDefEqProofs [State.Entry, h, h.eb]) h

@[simp] theorem State.takeSell_entry (product zones : Byte) (concession : Fin 8) (medium : Medium) (keep : Bool) (s : State) (h : State.Entry s) :
    State.Entry (State.takeSell product zones concession medium keep s) := by
  unfold State.takeSell; exact State.gated_entry _ _ _ (fun h => by simp (maxDischargeDepth := 12) -implicitDefEqProofs [State.Entry, h, h.eb]) h

@[simp] theorem State.takeClock_entry (day : Word16) (second : Word32) (dayOfWeek : Byte) (s : State) (h : State.Entry s) :
    State.Entry (State.takeClock day second dayOfWeek s) := by
  unfold State.takeClock; exact State.gated_entry _ _ _ (fun h => by simp (maxDischargeDepth := 12) -implicitDefEqProofs [State.Entry, h, h.eb]) h

@[simp] theorem State.takeTube_entry (tube count : Byte) (s : State) (h : State.Entry s) :
    State.Entry (State.takeTube tube count s) := by
  unfold State.takeTube; exact State.gated_entry _ _ _ (fun h => by simp (maxDischargeDepth := 12) -implicitDefEqProofs [State.Entry, h, h.eb]) h

@[simp] theorem State.takeRequest_entry (i : Instr) (s : State) (h : State.Entry s) : State.Entry (s.takeRequest i) := by
  unfold State.takeRequest
  split <;> first
    | exact h
    | (simp (maxDischargeDepth := 12) -implicitDefEqProofs [State.Entry, h, h.eb]; done)
    | exact State.gated_entry _ _ _ (fun h => by simp (maxDischargeDepth := 12) -implicitDefEqProofs [State.Entry, h, h.eb]) h

@[simp] theorem State.refuseFormat_entry (kind : Byte) (p : List Byte) (s : State) (h : State.Entry s) :
    State.Entry (State.refuseFormat kind p s) := by
  unfold State.refuseFormat
  split <;> simp (maxDischargeDepth := 12) -implicitDefEqProofs [State.Entry, h, h.eb]

@[simp] theorem State.disposeRequest_entry (kind : Byte) (p : List Byte) (s : State) (h : State.Entry s) :
    State.Entry (State.disposeRequest kind p s) := by
  unfold State.disposeRequest
  split <;> simp (maxDischargeDepth := 12) -implicitDefEqProofs [State.Entry, h, h.eb]

@[simp] theorem State.disposeDownward_entry (f : Frame) (s : State) (h : State.Entry s) :
    State.Entry (State.disposeDownward f s) := by
  unfold State.disposeDownward
  split <;> simp (maxDischargeDepth := 12) -implicitDefEqProofs [State.Entry, h, h.eb]

@[simp] theorem State.disposeFrame_entry (f : Frame) (s : State) (h : State.Entry s) :
    State.Entry (State.disposeFrame f s) := by
  unfold State.disposeFrame
  (repeat' split) <;> simp (maxDischargeDepth := 12) -implicitDefEqProofs [State.Entry, h, h.eb]

theorem State.onCLine_entry (f : Frame) (g : State → State) (s : State) (hg : ∀ t : State, t.Entry → (g t).Entry)
    (h : s.Entry) : (s.onCLine f g).Entry := by
  unfold State.onCLine
  repeat' split
  · exact h
  · exact h
  · exact hg _ (State.frameSeen_entry s h)

theorem State.onRequest_entry (i : Instr) (g : State → State) (s : State)
    (hg : ∀ t : State, State.Entry t → State.Entry (g t)) (h : State.Entry s) : State.Entry (s.onRequest i g) := by
  unfold State.onRequest
  split
  · exact State.onCLine_entry _ _ _ hg h
  · exact h

@[simp] theorem State.runC_entry (s : State) (h : State.Entry s) : State.Entry s.runC :=
  State.pumpC_keeps (fun t => State.Entry t) (fun _ _ ht => ht) (fun f _ ht => State.disposeFrame_entry f _ (State.frameSeen_entry _ ht)) _ s h

@[simp] theorem State.runM_entry (s : State) (h : State.Entry s) : State.Entry s.runM :=
  State.pumpM_keeps (fun t => State.Entry t) (fun _ _ ht => ht) (fun t ht => State.noAnswer_entry t ht)
    (fun f t ht => State.moduleFrame_entry f t ht) _ s h

@[simp] theorem State.onReceiver_entry (l : Line) (f : Receiver → Receiver) (s : State)
    (h : State.Entry s) : State.Entry (s.onReceiver l f) := by
  unfold State.onReceiver; repeat' split
  · exact State.runC_entry _ h
  · exact State.runM_entry _ h
  · exact h

@[simp] theorem State.characterArrives_entry (l : Line) (value : Byte) (parity stopMark : Bool) (s : State) (h : State.Entry s) :
    State.Entry (State.characterArrives l value parity stopMark s) := by
  simp (maxDischargeDepth := 12) -implicitDefEqProofs [State.characterArrives, State.Entry, h, h.eb]

@[simp] theorem State.breakArrives_entry (l : Line) (s : State) (h : State.Entry s) :
    State.Entry (State.breakArrives l s) := by
  simp (maxDischargeDepth := 12) -implicitDefEqProofs [State.breakArrives, State.Entry, h, h.eb]

@[simp] theorem State.gapExpires_entry (l : Line) (s : State) (h : State.Entry s) :
    State.Entry (State.gapExpires l s) := by
  unfold State.gapExpires
  split <;> simp (maxDischargeDepth := 12) -implicitDefEqProofs [State.Entry, h, h.eb]

@[simp] theorem State.takeNext_entry (s : State) (h : State.Entry s) :
    State.Entry (State.takeNext s) := by
  unfold State.takeNext
  split <;> simp (maxDischargeDepth := 12) -implicitDefEqProofs [State.Entry, h, h.eb]

@[simp] theorem State.transmitEnds_entry (s : State) (h : State.Entry s) :
    State.Entry (State.transmitEnds s) := by
  unfold State.transmitEnds
  split <;> simp (maxDischargeDepth := 12) -implicitDefEqProofs [State.Entry, h, h.eb]

@[simp] theorem State.transmit_entry (s : State) (h : State.Entry s) :
    State.Entry (State.transmit s) := by
  unfold State.transmit
  split <;> simp (maxDischargeDepth := 12) -implicitDefEqProofs [State.Entry, h, h.eb]

@[simp] theorem State.silenceExpires_entry (s : State) (h : State.Entry s) :
    State.Entry (State.silenceExpires s) := by
  unfold State.silenceExpires
  split <;> simp (maxDischargeDepth := 12) -implicitDefEqProofs [State.Entry, h, h.eb]

@[simp] theorem State.secondAdvances_entry (s : State) (h : State.Entry s) :
    State.Entry (State.secondAdvances s) := by
  unfold State.secondAdvances
  dsimp only
  (repeat' split) <;> simp (maxDischargeDepth := 12) -implicitDefEqProofs [State.Entry, h, h.eb]

@[simp] theorem State.hundredthAdvances_entry (s : State) (h : State.Entry s) :
    State.Entry (State.hundredthAdvances s) := by
  unfold State.hundredthAdvances
  (repeat' split) <;> simp (maxDischargeDepth := 12) -implicitDefEqProofs [State.Entry, h, h.eb]

@[simp] theorem State.oscillatorStops_entry (s : State) (h : State.Entry s) :
    State.Entry (State.oscillatorStops s) := by
  unfold State.oscillatorStops
  split <;> simp (maxDischargeDepth := 12) -implicitDefEqProofs [State.Entry, h, h.eb]

@[simp] theorem State.timeBaseRuns_entry (s : State) (h : State.Entry s) :
    State.Entry (State.timeBaseRuns s) := by
  simp (maxDischargeDepth := 12) -implicitDefEqProofs [State.timeBaseRuns, State.Entry, h, h.eb]

end Sys2Proof.Machine
end

