-- ==== Sys2Proof/Laws/MoneyState.lean ====
section
/-! SUPPORT. The money state under every operation (R85, R88, R89, R149): the operation record is present exactly while the purchase
is BUSY and the payout record exactly while it is PAYOUT, with K and Pp 0 without them. -/

namespace Sys2Proof.Machine

/-- No operation and no payout: what an operation's end leaves before the purchase comes to rest. -/
structure MoneyFree (op : Option OpRecord) (k pp : Money) (x : Option Payout) : Prop where
  op : op = none
  k : k = 0
  pp : pp = 0
  payout : x = none

theorem MoneyState.free {op : Option OpRecord} {k pp : Money} {p : PurchaseState} {x : Option Payout}
    (h : MoneyState op k pp p x) (h1 : p ≠ .busy) (h2 : p ≠ .payout) : MoneyFree op k pp x := by
  have a : op = none := by
    cases e : op
    · rfl
    · exact absurd (h.busy.1 (by rw [e]; rfl)) h1
  have b : x = none := by
    cases e : x
    · rfl
    · exact absurd (h.payout.1 (by rw [e]; rfl)) h2
  exact ⟨a, h.committed a, h.pending b, b⟩

/-- At rest without an operation or a payout. -/
theorem MoneyFree.rest {op : Option OpRecord} {k pp : Money} {x : Option Payout} (h : MoneyFree op k pp x)
    {p : PurchaseState} (h1 : p ≠ .busy) (h2 : p ≠ .payout) : MoneyState op k pp p x where
  busy := by rw [h.op]; simp [h1]
  payout := by rw [h.payout]; simp [h2]
  committed _ := h.k
  pending _ := h.pp

theorem MoneyState.ofOp {op : Option OpRecord} {k pp : Money} {p : PurchaseState} {x : Option Payout} {o : OpRecord}
    (h : MoneyState op k pp p x) (e : op = some o) : x = none ∧ pp = 0 := by
  have a := h.busy.1 (by rw [e]; rfl)
  have b : x = none := by
    cases e' : x
    · rfl
    · have := h.payout.1 (by rw [e']; rfl); rw [a] at this; cases this
  exact ⟨b, h.pending b⟩

theorem MoneyState.ofPayout {op : Option OpRecord} {k pp : Money} {p : PurchaseState} {x : Option Payout} {y : Payout}
    (h : MoneyState op k pp p x) (e : x = some y) : op = none ∧ k = 0 ∧ p = .payout := by
  have a := h.payout.1 (by rw [e]; rfl)
  have b : op = none := by
    cases e' : op
    · rfl
    · have := h.busy.1 (by rw [e']; rfl); rw [a] at this; cases this
  exact ⟨b, h.committed b, a⟩

/-- The payout record changed in place. -/
theorem MoneyState.withPayout {op : Option OpRecord} {k pp pp' : Money} {p : PurchaseState} {x y : Option Payout}
    (h : MoneyState op k pp p x) (e : y.isSome = x.isSome) (hp : pp = 0 → pp' = 0) : MoneyState op k pp' p y where
  busy := h.busy
  payout := by rw [e]; exact h.payout
  committed := h.committed
  pending e' := by
    refine hp (h.pending ?_)
    cases x
    · rfl
    · rw [e'] at e; cases e

theorem State.rest_purchase_ne (s : State) : s.rest.purchase ≠ .busy ∧ s.rest.purchase ≠ .payout := by
  simp only [State.rest]
  split <;> exact ⟨by decide, by decide⟩

@[simp] theorem Retained.install_op (k : TableKind) (l : Load) (r : Retained) : (Retained.install k l r).op = r.op := by
  cases k <;> rfl

@[simp] theorem JournalRecord.resolution_k (r : JournalRecord) (o : Resolution) (l : Ledger) :
    (r.resolution o l).k = l.k := by
  unfold JournalRecord.resolution
  split
  · split <;> rfl
  · rfl

@[simp] theorem JournalRecord.resolution_pp (r : JournalRecord) (o : Resolution) (l : Ledger) :
    (r.resolution o l).pp = l.pp := by
  unfold JournalRecord.resolution
  split
  · split <;> rfl
  · rfl

/-- A paid coin leaves a Pp of 0 as it is (R95). -/
theorem Move.paidCoin_pp (v : Money) (l : Ledger) (h : l.pp = 0) : (Move.paidCoin v l).pp = 0 := by
  unfold Move.paidCoin
  split
  · next hv =>
    have : v.toNat = 0 := by simpa [h] using hv
    have hv0 : v = 0 := BitVec.eq_of_toNat_eq (by simpa using this)
    simp [h, hv0]
  · rfl

@[simp] theorem Move.paidCoin_k (v : Money) (l : Ledger) : (Move.paidCoin v l).k = l.k := by
  unfold Move.paidCoin; split <;> rfl

@[simp] theorem Move.credit_k (v : Money) (l : Ledger) : (Move.credit v l).k = l.k := rfl
@[simp] theorem Move.credit_pp (v : Money) (l : Ledger) : (Move.credit v l).pp = l.pp := rfl
@[simp] theorem Move.extraCoin_k (v : Money) (l : Ledger) : (Move.extraCoin v l).k = l.k := rfl
@[simp] theorem Move.extraCoin_pp (v : Money) (l : Ledger) : (Move.extraCoin v l).pp = l.pp := rfl
@[simp] theorem Move.writeOff_k (v : Money) (l : Ledger) : (Move.writeOff v l).k = l.k := rfl
@[simp] theorem Move.writeOff_pp (v : Money) (l : Ledger) : (Move.writeOff v l).pp = l.pp := rfl
@[simp] theorem Move.clearCounters_k (l : Ledger) : (Move.clearCounters l).k = l.k := rfl
@[simp] theorem Move.clearCounters_pp (l : Ledger) : (Move.clearCounters l).pp = l.pp := rfl
@[simp] theorem Move.endPayout_k (l : Ledger) : (Move.endPayout l).k = l.k := rfl
@[simp] theorem Move.endPayout_pp (l : Ledger) : (Move.endPayout l).pp = 0 := rfl
@[simp] theorem Move.startPayout_k (l : Ledger) : (Move.startPayout l).k = l.k := rfl

/-! ## Operations between an operation's end and rest -/

@[simp] theorem State.issueFree_free (r : Report) (s : State) (h : MoneyFree s.retained.op s.retained.ledger.k s.retained.ledger.pp s.payout) :
    MoneyFree (State.issueFree r s).retained.op (State.issueFree r s).retained.ledger.k (State.issueFree r s).retained.ledger.pp (State.issueFree r s).payout := by
  unfold State.issueFree
  try dsimp only
  repeat' first | (simp (maxDischargeDepth := 12) -implicitDefEqProofs [h]; done) | split | (simp (maxDischargeDepth := 12) -implicitDefEqProofs [h]; split)

@[simp] theorem State.issueFree_money (r : Report) (s : State) (h : MoneyState s.retained.op s.retained.ledger.k s.retained.ledger.pp s.purchase s.payout) : MoneyState (s.issueFree r).retained.op (s.issueFree r).retained.ledger.k (s.issueFree r).retained.ledger.pp (s.issueFree r).purchase (s.issueFree r).payout := by
  unfold State.issueFree
  split <;> exact h

@[simp] theorem State.issueReserved_free (r : Report) (s : State) (h : MoneyFree s.retained.op s.retained.ledger.k s.retained.ledger.pp s.payout) :
    MoneyFree (State.issueReserved r s).retained.op (State.issueReserved r s).retained.ledger.k (State.issueReserved r s).retained.ledger.pp (State.issueReserved r s).payout := by
  unfold State.issueReserved
  try dsimp only
  repeat' first | (simp (maxDischargeDepth := 12) -implicitDefEqProofs [h]; done) | split | (simp (maxDischargeDepth := 12) -implicitDefEqProofs [h]; split)

@[simp] theorem State.issueReserved_money (r : Report) (s : State) (h : MoneyState s.retained.op s.retained.ledger.k s.retained.ledger.pp s.purchase s.payout) : MoneyState (s.issueReserved r).retained.op (s.issueReserved r).retained.ledger.k (s.issueReserved r).retained.ledger.pp (s.issueReserved r).purchase (s.issueReserved r).payout := by
  unfold State.issueReserved
  split
  · exact h
  · exact State.issueFree_money r s h

@[simp] theorem State.entryTest_free (s : State) (h : MoneyFree s.retained.op s.retained.ledger.k s.retained.ledger.pp s.payout) :
    MoneyFree (State.entryTest s).retained.op (State.entryTest s).retained.ledger.k (State.entryTest s).retained.ledger.pp (State.entryTest s).payout := by
  unfold State.entryTest
  try dsimp only
  repeat' first | (simp (maxDischargeDepth := 12) -implicitDefEqProofs [h]; done) | split | (simp (maxDischargeDepth := 12) -implicitDefEqProofs [h]; split)

@[simp] theorem State.entryTest_money (s : State) (h : MoneyState s.retained.op s.retained.ledger.k s.retained.ledger.pp s.purchase s.payout) : MoneyState s.entryTest.retained.op s.entryTest.retained.ledger.k s.entryTest.retained.ledger.pp s.entryTest.purchase s.entryTest.payout := by
  unfold State.entryTest
  split <;> exact h

@[simp] theorem State.tubesChanged_money (s : State) (before : State) (h : MoneyState s.retained.op s.retained.ledger.k s.retained.ledger.pp s.purchase s.payout) : MoneyState (s.tubesChanged before).retained.op (s.tubesChanged before).retained.ledger.k (s.tubesChanged before).retained.ledger.pp (s.tubesChanged before).purchase (s.tubesChanged before).payout := by
  unfold State.tubesChanged
  split <;> exact h

@[simp] theorem State.enterFault_money (k : FaultKind) (s : State) (h : MoneyState s.retained.op s.retained.ledger.k s.retained.ledger.pp s.purchase s.payout) :
    MoneyState (State.enterFault k s).retained.op (State.enterFault k s).retained.ledger.k (State.enterFault k s).retained.ledger.pp (State.enterFault k s).purchase (State.enterFault k s).payout := by
  simp (maxDischargeDepth := 12) -implicitDefEqProofs [State.enterFault, h]

@[simp] theorem State.coilFault_money (failed : PerCoil Bool) (s : State) (h : MoneyState s.retained.op s.retained.ledger.k s.retained.ledger.pp s.purchase s.payout) :
    MoneyState (State.coilFault failed s).retained.op (State.coilFault failed s).retained.ledger.k (State.coilFault failed s).retained.ledger.pp (State.coilFault failed s).purchase (State.coilFault failed s).payout := by
  simp (maxDischargeDepth := 12) -implicitDefEqProofs [State.coilFault, h]

@[simp] theorem State.pwmPeriod_money (sense : PerCoil Sense) (s : State) (h : MoneyState s.retained.op s.retained.ledger.k s.retained.ledger.pp s.purchase s.payout) :
    MoneyState (State.pwmPeriod sense s).retained.op (State.pwmPeriod sense s).retained.ledger.k (State.pwmPeriod sense s).retained.ledger.pp (State.pwmPeriod sense s).purchase (State.pwmPeriod sense s).payout := by
  unfold State.pwmPeriod
  dsimp only
  (repeat' split) <;> simp (maxDischargeDepth := 12) -implicitDefEqProofs [h]

@[simp] theorem State.pullInCheck_money (ends : PerCoil Bool) (sense : PerCoil Sense) (s : State) (h : MoneyState s.retained.op s.retained.ledger.k s.retained.ledger.pp s.purchase s.payout) :
    MoneyState (State.pullInCheck ends sense s).retained.op (State.pullInCheck ends sense s).retained.ledger.k (State.pullInCheck ends sense s).retained.ledger.pp (State.pullInCheck ends sense s).purchase (State.pullInCheck ends sense s).payout := by
  unfold State.pullInCheck
  dsimp only
  (repeat' split) <;> simp (maxDischargeDepth := 12) -implicitDefEqProofs [h]

@[simp] theorem State.diverterChangeover_money (s : State) (h : MoneyState s.retained.op s.retained.ledger.k s.retained.ledger.pp s.purchase s.payout) :
    MoneyState (State.diverterChangeover s).retained.op (State.diverterChangeover s).retained.ledger.k (State.diverterChangeover s).retained.ledger.pp (State.diverterChangeover s).purchase (State.diverterChangeover s).payout := by
  unfold State.diverterChangeover
  split <;> simp (maxDischargeDepth := 12) -implicitDefEqProofs [h]

@[simp] theorem State.serveLoad_money (kind : TableKind) (generation index total check count : Nat) (bytes : List Byte) (s : State) (h : MoneyState s.retained.op s.retained.ledger.k s.retained.ledger.pp s.purchase s.payout) :
    MoneyState (State.serveLoad kind generation index total check count bytes s).retained.op (State.serveLoad kind generation index total check count bytes s).retained.ledger.k (State.serveLoad kind generation index total check count bytes s).retained.ledger.pp (State.serveLoad kind generation index total check count bytes s).purchase (State.serveLoad kind generation index total check count bytes s).payout := by
  unfold State.serveLoad
  dsimp only
  (repeat' split) <;> simp (maxDischargeDepth := 12) -implicitDefEqProofs [h]

@[simp] theorem State.serveDiscard_money (kind : TableKind) (s : State) (h : MoneyState s.retained.op s.retained.ledger.k s.retained.ledger.pp s.purchase s.payout) :
    MoneyState (State.serveDiscard kind s).retained.op (State.serveDiscard kind s).retained.ledger.k (State.serveDiscard kind s).retained.ledger.pp (State.serveDiscard kind s).purchase (State.serveDiscard kind s).payout := by
  unfold State.serveDiscard
  dsimp only
  (repeat' split) <;> simp (maxDischargeDepth := 12) -implicitDefEqProofs [h]

@[simp] theorem State.afterActivation_money (kind : TableKind) (before : State) (s : State) (h : MoneyState s.retained.op s.retained.ledger.k s.retained.ledger.pp s.purchase s.payout) :
    MoneyState (State.afterActivation kind before s).retained.op (State.afterActivation kind before s).retained.ledger.k (State.afterActivation kind before s).retained.ledger.pp (State.afterActivation kind before s).purchase (State.afterActivation kind before s).payout := by
  unfold State.afterActivation
  dsimp only
  (repeat' split) <;> simp (maxDischargeDepth := 12) -implicitDefEqProofs [h]

@[simp] theorem State.takeActivation_money (kind : TableKind) (waited : Bool) (s : State) (h : MoneyState s.retained.op s.retained.ledger.k s.retained.ledger.pp s.purchase s.payout) :
    MoneyState (State.takeActivation kind waited s).retained.op (State.takeActivation kind waited s).retained.ledger.k (State.takeActivation kind waited s).retained.ledger.pp (State.takeActivation kind waited s).purchase (State.takeActivation kind waited s).payout := by
  unfold State.takeActivation
  refine State.afterActivation_money _ _ _ (State.issueReserved_money _ _ ?_)
  cases kind <;> exact h

@[simp] theorem State.fallDue_money (kind : TableKind) (s : State) (h : MoneyState s.retained.op s.retained.ledger.k s.retained.ledger.pp s.purchase s.payout) :
    MoneyState (State.fallDue kind s).retained.op (State.fallDue kind s).retained.ledger.k (State.fallDue kind s).retained.ledger.pp (State.fallDue kind s).purchase (State.fallDue kind s).payout := by
  unfold State.fallDue
  dsimp only
  (repeat' split) <;> simp (maxDischargeDepth := 12) -implicitDefEqProofs [h]

@[simp] theorem State.takeWaiting_money (kind : TableKind) (s : State) (h : MoneyState s.retained.op s.retained.ledger.k s.retained.ledger.pp s.purchase s.payout) :
    MoneyState (State.takeWaiting kind s).retained.op (State.takeWaiting kind s).retained.ledger.k (State.takeWaiting kind s).retained.ledger.pp (State.takeWaiting kind s).purchase (State.takeWaiting kind s).payout := by
  unfold State.takeWaiting
  dsimp only
  (repeat' split) <;> simp (maxDischargeDepth := 12) -implicitDefEqProofs [h]

@[simp] theorem State.testSchedules_money (s : State) (h : MoneyState s.retained.op s.retained.ledger.k s.retained.ledger.pp s.purchase s.payout) : MoneyState s.testSchedules.2.retained.op s.testSchedules.2.retained.ledger.k s.testSchedules.2.retained.ledger.pp s.testSchedules.2.purchase s.testSchedules.2.payout :=
  State.testSchedules_keeps (fun t => MoneyState t.retained.op t.retained.ledger.k t.retained.ledger.pp t.purchase t.payout) (fun k t ht => State.fallDue_money k t ht) s h

@[simp] theorem State.serveActivate_money (kind : TableKind) (generation : Word16) (due : Due) (s : State) (h : MoneyState s.retained.op s.retained.ledger.k s.retained.ledger.pp s.purchase s.payout) :
    MoneyState (State.serveActivate kind generation due s).retained.op (State.serveActivate kind generation due s).retained.ledger.k (State.serveActivate kind generation due s).retained.ledger.pp (State.serveActivate kind generation due s).purchase (State.serveActivate kind generation due s).payout := by
  unfold State.serveActivate
  dsimp only
  (repeat' split) <;> simp (maxDischargeDepth := 12) -implicitDefEqProofs [h]

@[simp] theorem State.returnCoin_money (m : Measurement) (s : State) (h : MoneyState s.retained.op s.retained.ledger.k s.retained.ledger.pp s.purchase s.payout) :
    MoneyState (State.returnCoin m s).retained.op (State.returnCoin m s).retained.ledger.k (State.returnCoin m s).retained.ledger.pp (State.returnCoin m s).purchase (State.returnCoin m s).payout := by
  unfold State.returnCoin
  split <;> simp (maxDischargeDepth := 12) -implicitDefEqProofs [h]

@[simp] theorem State.acceptCoin_money (a : AcceptedCoin) (m : Measurement) (s : State) (h : MoneyState s.retained.op s.retained.ledger.k s.retained.ledger.pp s.purchase s.payout) :
    MoneyState (State.acceptCoin a m s).retained.op (State.acceptCoin a m s).retained.ledger.k (State.acceptCoin a m s).retained.ledger.pp (State.acceptCoin a m s).purchase (State.acceptCoin a m s).payout := by
  simp (maxDischargeDepth := 12) -implicitDefEqProofs [State.acceptCoin, h]

@[simp] theorem State.decideCoin_money (s : State) (h : MoneyState s.retained.op s.retained.ledger.k s.retained.ledger.pp s.purchase s.payout) :
    MoneyState (State.decideCoin s).retained.op (State.decideCoin s).retained.ledger.k (State.decideCoin s).retained.ledger.pp (State.decideCoin s).purchase (State.decideCoin s).payout := by
  unfold State.decideCoin
  dsimp only
  (repeat' split) <;> simp (maxDischargeDepth := 12) -implicitDefEqProofs [h]

@[simp] theorem State.chuteToIdle_money (s : State) (h : MoneyState s.retained.op s.retained.ledger.k s.retained.ledger.pp s.purchase s.payout) :
    MoneyState (State.chuteToIdle s).retained.op (State.chuteToIdle s).retained.ledger.k (State.chuteToIdle s).retained.ledger.pp (State.chuteToIdle s).purchase (State.chuteToIdle s).payout := by
  simp (maxDischargeDepth := 12) -implicitDefEqProofs [State.chuteToIdle, h]

@[simp] theorem State.creditCoin_money (a : AcceptedCoin) (s : State) (h : MoneyState s.retained.op s.retained.ledger.k s.retained.ledger.pp s.purchase s.payout) : MoneyState (s.creditCoin a).retained.op (s.creditCoin a).retained.ledger.k (s.creditCoin a).retained.ledger.pp (s.creditCoin a).purchase (s.creditCoin a).payout := by
  have key : ∀ t : State, MoneyState t.retained.op t.retained.ledger.k t.retained.ledger.pp t.purchase t.payout →
      MoneyState t.retained.op t.retained.ledger.k t.retained.ledger.pp
        (if t.purchase = PurchaseState.idle then .opened else t.purchase) t.payout := by
    intro t ht
    split
    · next e => exact (ht.free (by rw [e]; decide) (by rw [e]; decide)).rest (by decide) (by decide)
    · exact ht
  unfold State.creditCoin
  dsimp only
  split
  · generalize e : State.tubesChanged _ _ = t
    exact key t (by rw [← e]; exact State.tubesChanged_money _ _ h)
  · generalize e : State.onRetained _ _ = t
    exact key t (by rw [← e]; exact h)

@[simp] theorem State.coinAtC_money (s : State) (h : MoneyState s.retained.op s.retained.ledger.k s.retained.ledger.pp s.purchase s.payout) :
    MoneyState (State.coinAtC s).retained.op (State.coinAtC s).retained.ledger.k (State.coinAtC s).retained.ledger.pp (State.coinAtC s).purchase (State.coinAtC s).payout := by
  unfold State.coinAtC
  split <;> simp (maxDischargeDepth := 12) -implicitDefEqProofs [h]

@[simp] theorem State.coinBegins_money (s : State) (h : MoneyState s.retained.op s.retained.ledger.k s.retained.ledger.pp s.purchase s.payout) :
    MoneyState (State.coinBegins s).retained.op (State.coinBegins s).retained.ledger.k (State.coinBegins s).retained.ledger.pp (State.coinBegins s).purchase (State.coinBegins s).payout := by
  simp (maxDischargeDepth := 12) -implicitDefEqProofs [State.coinBegins, h]

@[simp] theorem State.riseIn_money (s : State) (c : ChuteState) (x : Sensor) (h : MoneyState s.retained.op s.retained.ledger.k s.retained.ledger.pp s.purchase s.payout) : MoneyState (s.riseIn c x).retained.op (s.riseIn c x).retained.ledger.k (s.riseIn c x).retained.ledger.pp (s.riseIn c x).purchase (s.riseIn c x).payout := by
  unfold State.riseIn; split <;> simp (maxDischargeDepth := 12) -implicitDefEqProofs [h]

@[simp] theorem State.sensorRise_money (x : Sensor) (ticks : Nat) (s : State) (h : MoneyState s.retained.op s.retained.ledger.k s.retained.ledger.pp s.purchase s.payout) :
    MoneyState (State.sensorRise x ticks s).retained.op (State.sensorRise x ticks s).retained.ledger.k (State.sensorRise x ticks s).retained.ledger.pp (State.sensorRise x ticks s).purchase (State.sensorRise x ticks s).payout := by
  unfold State.sensorRise
  split <;> simp (maxDischargeDepth := 12) -implicitDefEqProofs [h]

@[simp] theorem State.fallIn_money (s : State) (c : ChuteState) (x : Sensor) (h : MoneyState s.retained.op s.retained.ledger.k s.retained.ledger.pp s.purchase s.payout) : MoneyState (s.fallIn c x).retained.op (s.fallIn c x).retained.ledger.k (s.fallIn c x).retained.ledger.pp (s.fallIn c x).purchase (s.fallIn c x).payout := by
  unfold State.fallIn; split <;> simp (maxDischargeDepth := 12) -implicitDefEqProofs [h]

@[simp] theorem State.sensorFall_money (x : Sensor) (ticks : Nat) (s : State) (h : MoneyState s.retained.op s.retained.ledger.k s.retained.ledger.pp s.purchase s.payout) :
    MoneyState (State.sensorFall x ticks s).retained.op (State.sensorFall x ticks s).retained.ledger.k (State.sensorFall x ticks s).retained.ledger.pp (State.sensorFall x ticks s).purchase (State.sensorFall x ticks s).payout := by
  unfold State.sensorFall
  split <;> simp (maxDischargeDepth := 12) -implicitDefEqProofs [h]

@[simp] theorem State.aLimitPasses_money (s : State) (h : MoneyState s.retained.op s.retained.ledger.k s.retained.ledger.pp s.purchase s.payout) :
    MoneyState (State.aLimitPasses s).retained.op (State.aLimitPasses s).retained.ledger.k (State.aLimitPasses s).retained.ledger.pp (State.aLimitPasses s).purchase (State.aLimitPasses s).payout := by
  unfold State.aLimitPasses
  split <;> simp (maxDischargeDepth := 12) -implicitDefEqProofs [h]

@[simp] theorem State.gapLimitPasses_money (s : State) (h : MoneyState s.retained.op s.retained.ledger.k s.retained.ledger.pp s.purchase s.payout) :
    MoneyState (State.gapLimitPasses s).retained.op (State.gapLimitPasses s).retained.ledger.k (State.gapLimitPasses s).retained.ledger.pp (State.gapLimitPasses s).purchase (State.gapLimitPasses s).payout := by
  unfold State.gapLimitPasses
  split <;> simp (maxDischargeDepth := 12) -implicitDefEqProofs [h]

@[simp] theorem State.acceptWaitPasses_money (s : State) (h : MoneyState s.retained.op s.retained.ledger.k s.retained.ledger.pp s.purchase s.payout) :
    MoneyState (State.acceptWaitPasses s).retained.op (State.acceptWaitPasses s).retained.ledger.k (State.acceptWaitPasses s).retained.ledger.pp (State.acceptWaitPasses s).purchase (State.acceptWaitPasses s).payout := by
  unfold State.acceptWaitPasses
  split <;> simp (maxDischargeDepth := 12) -implicitDefEqProofs [h]

@[simp] theorem State.returnWaitPasses_money (s : State) (h : MoneyState s.retained.op s.retained.ledger.k s.retained.ledger.pp s.purchase s.payout) :
    MoneyState (State.returnWaitPasses s).retained.op (State.returnWaitPasses s).retained.ledger.k (State.returnWaitPasses s).retained.ledger.pp (State.returnWaitPasses s).purchase (State.returnWaitPasses s).payout := by
  unfold State.returnWaitPasses
  split <;> simp (maxDischargeDepth := 12) -implicitDefEqProofs [h]

@[simp] theorem State.faultClears_money (s : State) (h : MoneyState s.retained.op s.retained.ledger.k s.retained.ledger.pp s.purchase s.payout) :
    MoneyState (State.faultClears s).retained.op (State.faultClears s).retained.ledger.k (State.faultClears s).retained.ledger.pp (State.faultClears s).purchase (State.faultClears s).payout := by
  simp (maxDischargeDepth := 12) -implicitDefEqProofs [State.faultClears, h]

@[simp] theorem State.idleWaitPasses_money (s : State) (h : MoneyState s.retained.op s.retained.ledger.k s.retained.ledger.pp s.purchase s.payout) :
    MoneyState (State.idleWaitPasses s).retained.op (State.idleWaitPasses s).retained.ledger.k (State.idleWaitPasses s).retained.ledger.pp (State.idleWaitPasses s).purchase (State.idleWaitPasses s).payout := by
  unfold State.idleWaitPasses
  split <;> simp (maxDischargeDepth := 12) -implicitDefEqProofs [h]

@[simp] theorem State.serveChuteClear_money (s : State) (h : MoneyState s.retained.op s.retained.ledger.k s.retained.ledger.pp s.purchase s.payout) :
    MoneyState (State.serveChuteClear s).retained.op (State.serveChuteClear s).retained.ledger.k (State.serveChuteClear s).retained.ledger.pp (State.serveChuteClear s).purchase (State.serveChuteClear s).payout := by
  unfold State.serveChuteClear
  (repeat' split) <;> simp (maxDischargeDepth := 12) -implicitDefEqProofs [h]

/-- A payout's end (R94, R154): at rest, without a payout record. -/
@[simp] theorem State.endPayout_money (s : State) (h : MoneyState s.retained.op s.retained.ledger.k s.retained.ledger.pp s.purchase s.payout) : MoneyState s.endPayout.retained.op s.endPayout.retained.ledger.k s.endPayout.retained.ledger.pp s.endPayout.purchase s.endPayout.payout := by
  unfold State.endPayout
  split
  · exact h
  · next p e =>
    obtain ⟨h1, h2, -⟩ := h.ofPayout e
    refine State.entryTest_money _ ?_
    have a : ∀ (r : Report) (t : State), t.retained.op = none → t.retained.ledger.k = 0 → t.retained.ledger.pp = 0 →
        MoneyState (({ t.issueReserved r with payout := none } : State).rest).retained.op (({ t.issueReserved r with payout := none } : State).rest).retained.ledger.k (({ t.issueReserved r with payout := none } : State).rest).retained.ledger.pp (({ t.issueReserved r with payout := none } : State).rest).purchase (({ t.issueReserved r with payout := none } : State).rest).payout := by
      intro r t a1 a2 a3
      have b : MoneyFree (t.issueReserved r).retained.op (t.issueReserved r).retained.ledger.k
          (t.issueReserved r).retained.ledger.pp none := by
        unfold State.issueReserved State.issueFree
        repeat' split
        all_goals exact ⟨a1, a2, a3, rfl⟩
      exact b.rest (State.rest_purchase_ne _).1 (State.rest_purchase_ne _).2
    exact a _ (s.onLedger Move.endPayout) h1 h2 rfl

@[simp] theorem State.startEntry_money (s : State) (h : MoneyState s.retained.op s.retained.ledger.k s.retained.ledger.pp s.purchase s.payout) : MoneyState s.startEntry.retained.op s.startEntry.retained.ledger.k s.startEntry.retained.ledger.pp s.startEntry.purchase s.startEntry.payout := by
  unfold State.startEntry
  repeat' split
  all_goals first
    | exact h
    | exact h.withPayout (by simp_all) id

@[simp] theorem State.runPlan_money (entries : List PlanEntry) (s : State) (h : MoneyState s.retained.op s.retained.ledger.k s.retained.ledger.pp s.purchase s.payout) :
    MoneyState (s.runPlan entries).retained.op (s.runPlan entries).retained.ledger.k (s.runPlan entries).retained.ledger.pp (s.runPlan entries).purchase (s.runPlan entries).payout := by
  unfold State.runPlan
  repeat' split
  · exact h
  · exact State.endPayout_money _ (h.withPayout (by simp_all) id)
  · exact State.startEntry_money _ (h.withPayout (by simp_all) id)

/-- A payout starts where no operation and no payout is (R94, R150). -/
theorem State.startPayout_money (cause : PayoutCause) (s : State) (h : MoneyFree s.retained.op s.retained.ledger.k s.retained.ledger.pp s.payout) : MoneyState (s.startPayout cause).retained.op (s.startPayout cause).retained.ledger.k (s.startPayout cause).retained.ledger.pp (s.startPayout cause).purchase (s.startPayout cause).payout := by
  unfold State.startPayout
  dsimp only
  refine State.entryTest_money _ (State.runPlan_money _ _ ?_)
  refine ⟨?_, by simp, fun _ => h.k, by simp⟩
  simp [h.op]

@[simp] theorem State.entryDone_money (s : State) (h : MoneyState s.retained.op s.retained.ledger.k s.retained.ledger.pp s.purchase s.payout) : MoneyState s.entryDone.retained.op s.entryDone.retained.ledger.k s.entryDone.retained.ledger.pp s.entryDone.purchase s.entryDone.payout := by
  unfold State.entryDone
  repeat' split
  · exact h
  · exact h
  · exact State.runPlan_money _ _ (h.withPayout (by simp_all) id)

@[simp] theorem State.paidCoin_money (i : Fin 4) (s : State) (h : MoneyState s.retained.op s.retained.ledger.k s.retained.ledger.pp s.purchase s.payout) : MoneyState (s.paidCoin i).retained.op (s.paidCoin i).retained.ledger.k (s.paidCoin i).retained.ledger.pp (s.paidCoin i).purchase (s.paidCoin i).payout := by
  unfold State.paidCoin
  dsimp only
  have a : ∀ v : Money, MoneyState s.retained.op (Move.paidCoin v s.retained.ledger).k (Move.paidCoin v s.retained.ledger).pp
      s.purchase (s.payout.map (Payout.count i)) := by
    intro v
    rw [Move.paidCoin_k]
    exact h.withPayout (by simp) (Move.paidCoin_pp v _)
  split
  · exact State.entryDone_money _ (State.tubesChanged_money _ _ (a _))
  · exact State.tubesChanged_money _ _ (a _)

@[simp] theorem State.extraCoin_money (i : Fin 4) (s : State) (h : MoneyState s.retained.op s.retained.ledger.k s.retained.ledger.pp s.purchase s.payout) :
    MoneyState (State.extraCoin i s).retained.op (State.extraCoin i s).retained.ledger.k (State.extraCoin i s).retained.ledger.pp (State.extraCoin i s).purchase (State.extraCoin i s).payout := by
  simp (maxDischargeDepth := 12) -implicitDefEqProofs [State.extraCoin, h]

@[simp] theorem State.exitPulse_money (i : Fin 4) (s : State) (h : MoneyState s.retained.op s.retained.ledger.k s.retained.ledger.pp s.purchase s.payout) :
    MoneyState (State.exitPulse i s).retained.op (State.exitPulse i s).retained.ledger.k (State.exitPulse i s).retained.ledger.pp (State.exitPulse i s).purchase (State.exitPulse i s).payout := by
  unfold State.exitPulse
  split <;> simp (maxDischargeDepth := 12) -implicitDefEqProofs [h]

@[simp] theorem State.jam_money (i : Fin 4) (s : State) (h : MoneyState s.retained.op s.retained.ledger.k s.retained.ledger.pp s.purchase s.payout) : MoneyState (s.jam i).retained.op (s.jam i).retained.ledger.k (s.jam i).retained.ledger.pp (s.jam i).purchase (s.jam i).payout := by
  unfold State.jam
  exact State.tubesChanged_money _ _ (h.withPayout (by simp) id)

@[simp] theorem State.afterJam_money (s : State) (h : MoneyState s.retained.op s.retained.ledger.k s.retained.ledger.pp s.purchase s.payout) : MoneyState s.afterJam.retained.op s.afterJam.retained.ledger.k s.afterJam.retained.ledger.pp s.afterJam.purchase s.afterJam.payout := by
  unfold State.afterJam
  repeat' split
  · exact h
  · exact State.endPayout_money _ h
  · exact State.runPlan_money _ _ (h.withPayout (by simp_all) id)

@[simp] theorem State.jamTimeout_money (i : Fin 4) (s : State) (h : MoneyState s.retained.op s.retained.ledger.k s.retained.ledger.pp s.purchase s.payout) :
    MoneyState (State.jamTimeout i s).retained.op (State.jamTimeout i s).retained.ledger.k (State.jamTimeout i s).retained.ledger.pp (State.jamTimeout i s).purchase (State.jamTimeout i s).payout := by
  unfold State.jamTimeout
  split <;> simp (maxDischargeDepth := 12) -implicitDefEqProofs [h]

@[simp] theorem State.trailingEnds_money (i : Fin 4) (s : State) (h : MoneyState s.retained.op s.retained.ledger.k s.retained.ledger.pp s.purchase s.payout) :
    MoneyState (State.trailingEnds i s).retained.op (State.trailingEnds i s).retained.ledger.k (State.trailingEnds i s).retained.ledger.pp (State.trailingEnds i s).purchase (State.trailingEnds i s).payout := by
  unfold State.trailingEnds
  split <;> simp (maxDischargeDepth := 12) -implicitDefEqProofs [h]

@[simp] theorem State.doorChange_money (isOpen : Bool) (s : State) (h : MoneyState s.retained.op s.retained.ledger.k s.retained.ledger.pp s.purchase s.payout) :
    MoneyState (State.doorChange isOpen s).retained.op (State.doorChange isOpen s).retained.ledger.k (State.doorChange isOpen s).retained.ledger.pp (State.doorChange isOpen s).purchase (State.doorChange isOpen s).payout := by
  unfold State.doorChange
  split <;> simp (maxDischargeDepth := 12) -implicitDefEqProofs [h]

@[simp] theorem State.leverPress_money (s : State) (h : MoneyState s.retained.op s.retained.ledger.k s.retained.ledger.pp s.purchase s.payout) : MoneyState s.leverPress.retained.op s.leverPress.retained.ledger.k s.leverPress.retained.ledger.pp s.leverPress.purchase s.leverPress.payout := by
  unfold State.leverPress
  split
  · next e =>
    simp only [State.leverTaken, Bool.and_eq_true, beq_iff_eq] at e
    refine State.startPayout_money _ _ (h.free ?_ ?_) <;> (rw [e.1.1.1.2]; decide)
  · exact h

/-- An operation is accepted where there is none and no payout (R91). -/
theorem State.acceptOp_money (o : OpRecord) (n : Nat) (s : State) (h : MoneyFree s.retained.op s.retained.ledger.k s.retained.ledger.pp s.payout) : MoneyState (s.acceptOp o n).retained.op (s.acceptOp o n).retained.ledger.k (s.acceptOp o n).retained.ledger.pp (s.acceptOp o n).purchase (s.acceptOp o n).payout :=
  ⟨⟨fun _ => rfl, fun _ => rfl⟩, by simp [State.acceptOp, h.payout], fun e => (by cases e), fun _ => h.pp⟩

/-- An operation's end (R92): K is 0 and the record is cleared. -/
theorem State.endOp_free (move : Ledger → Ledger) (report : Report) (s : State) (h1 : ∀ l, (move l).k = 0)
    (h2 : ∀ l, (move l).pp = l.pp) (h3 : s.payout = none) (h4 : s.retained.ledger.pp = 0) :
    MoneyFree (s.endOp move report).retained.op (s.endOp move report).retained.ledger.k (s.endOp move report).retained.ledger.pp (s.endOp move report).payout := by
  unfold State.endOp State.issueReserved State.issueFree
  repeat' split
  all_goals exact ⟨rfl, h1 _, (h2 _).trans h4, h3⟩

theorem State.comeToRest_money (s : State) (h : MoneyFree s.retained.op s.retained.ledger.k s.retained.ledger.pp s.payout) : MoneyState s.comeToRest.retained.op s.comeToRest.retained.ledger.k s.comeToRest.retained.ledger.pp s.comeToRest.purchase s.comeToRest.payout :=
  State.entryTest_money _ (h.rest (State.rest_purchase_ne s).1 (State.rest_purchase_ne s).2)

theorem State.afterSale_money (o : OpRecord) (void : Bool) (s : State) (h : MoneyFree s.retained.op s.retained.ledger.k s.retained.ledger.pp s.payout) : MoneyState (s.afterSale o void).retained.op (s.afterSale o void).retained.ledger.k (s.afterSale o void).retained.ledger.pp (s.afterSale o void).purchase (s.afterSale o void).payout := by
  unfold State.afterSale
  split
  · exact State.startPayout_money _ _ h
  · exact State.comeToRest_money _ h

@[simp] theorem State.ticketEnds_money (failure : Option VoidCause) (s : State) (h : MoneyState s.retained.op s.retained.ledger.k s.retained.ledger.pp s.purchase s.payout) :
    MoneyState (s.ticketEnds failure).retained.op (s.ticketEnds failure).retained.ledger.k (s.ticketEnds failure).retained.ledger.pp (s.ticketEnds failure).purchase (s.ticketEnds failure).payout := by
  unfold State.ticketEnds
  split
  · exact h
  · next o e =>
    obtain ⟨h1, h2⟩ := h.ofOp e
    split
    · exact State.afterSale_money _ _ _ (State.endOp_free _ _ _ (fun _ => rfl) (fun _ => rfl) h1 h2)
    · exact State.afterSale_money _ _ _ (State.endOp_free _ _ _ (fun _ => rfl) (fun _ => rfl) h1 h2)

@[simp] theorem State.voucherEnds_money (failure : Option VoidCause) (s : State) (h : MoneyState s.retained.op s.retained.ledger.k s.retained.ledger.pp s.purchase s.payout) :
    MoneyState (s.voucherEnds failure).retained.op (s.voucherEnds failure).retained.ledger.k (s.voucherEnds failure).retained.ledger.pp (s.voucherEnds failure).purchase (s.voucherEnds failure).payout := by
  unfold State.voucherEnds
  split
  · exact h
  · next o e =>
    obtain ⟨h1, h2⟩ := h.ofOp e
    split
    · exact State.comeToRest_money _ (State.endOp_free _ _ _ (fun _ => rfl) (fun _ => rfl) h1 h2)
    · exact State.comeToRest_money _ (State.endOp_free _ _ _ (fun _ => rfl) (fun _ => rfl) h1 h2)

@[simp] theorem State.serveCancel_money (s : State) (h : MoneyState s.retained.op s.retained.ledger.k s.retained.ledger.pp s.purchase s.payout) : MoneyState s.serveCancel.retained.op s.serveCancel.retained.ledger.k s.serveCancel.retained.ledger.pp s.serveCancel.purchase s.serveCancel.payout := by
  unfold State.serveCancel
  split
  · exact h
  · split
    · exact h
    · next e =>
      split
      · exact h
      · simp only [not_or, not_not] at e
        refine State.startPayout_money _ _ (h.free ?_ ?_) <;> (rw [e.1]; decide)

@[simp] theorem State.serveTube_money (tube count : Nat) (s : State) (h : MoneyState s.retained.op s.retained.ledger.k s.retained.ledger.pp s.purchase s.payout) :
    MoneyState (State.serveTube tube count s).retained.op (State.serveTube tube count s).retained.ledger.k (State.serveTube tube count s).retained.ledger.pp (State.serveTube tube count s).purchase (State.serveTube tube count s).payout := by
  unfold State.serveTube
  dsimp only
  (repeat' split) <;> simp (maxDischargeDepth := 12) -implicitDefEqProofs [h]

@[simp] theorem State.serveClearTotals_money (s : State) (h : MoneyState s.retained.op s.retained.ledger.k s.retained.ledger.pp s.purchase s.payout) :
    MoneyState (State.serveClearTotals s).retained.op (State.serveClearTotals s).retained.ledger.k (State.serveClearTotals s).retained.ledger.pp (State.serveClearTotals s).purchase (State.serveClearTotals s).payout := by
  unfold State.serveClearTotals
  (repeat' split) <;> simp (maxDischargeDepth := 12) -implicitDefEqProofs [h]

@[simp] theorem State.printDuty_free (s : State) (h : MoneyFree s.retained.op s.retained.ledger.k s.retained.ledger.pp s.payout) :
    MoneyFree (State.printDuty s).retained.op (State.printDuty s).retained.ledger.k (State.printDuty s).retained.ledger.pp (State.printDuty s).payout := by
  unfold State.printDuty
  try dsimp only
  repeat' first | (simp (maxDischargeDepth := 12) -implicitDefEqProofs [h]; done) | split | (simp (maxDischargeDepth := 12) -implicitDefEqProofs [h]; split)

@[simp] theorem State.printDuty_money (s : State) (h : MoneyState s.retained.op s.retained.ledger.k s.retained.ledger.pp s.purchase s.payout) : MoneyState s.printDuty.retained.op s.printDuty.retained.ledger.k s.printDuty.retained.ledger.pp s.printDuty.purchase s.printDuty.payout := by
  unfold State.printDuty
  split <;> exact h

@[simp] theorem State.startJob_free (kind : JobKind) (txn template : Nat) (v : FieldValues) (s : State) (h : MoneyFree s.retained.op s.retained.ledger.k s.retained.ledger.pp s.payout) :
    MoneyFree (State.startJob kind txn template v s).retained.op (State.startJob kind txn template v s).retained.ledger.k (State.startJob kind txn template v s).retained.ledger.pp (State.startJob kind txn template v s).payout := by
  unfold State.startJob
  try dsimp only
  repeat' first | (simp (maxDischargeDepth := 12) -implicitDefEqProofs [h]; done) | split | (simp (maxDischargeDepth := 12) -implicitDefEqProofs [h]; split)

@[simp] theorem State.startJob_money (kind : JobKind) (txn template : Nat) (v : FieldValues) (s : State) (h : MoneyState s.retained.op s.retained.ledger.k s.retained.ledger.pp s.purchase s.payout) :
    MoneyState (s.startJob kind txn template v).retained.op (s.startJob kind txn template v).retained.ledger.k (s.startJob kind txn template v).retained.ledger.pp (s.startJob kind txn template v).purchase (s.startJob kind txn template v).payout := h

@[simp] theorem State.receiptEnds_money (txn : Nat) (failure : Option VoidCause) (s : State) (h : MoneyState s.retained.op s.retained.ledger.k s.retained.ledger.pp s.purchase s.payout) :
    MoneyState (State.receiptEnds txn failure s).retained.op (State.receiptEnds txn failure s).retained.ledger.k (State.receiptEnds txn failure s).retained.ledger.pp (State.receiptEnds txn failure s).purchase (State.receiptEnds txn failure s).payout := by
  simp (maxDischargeDepth := 12) -implicitDefEqProofs [State.receiptEnds, h]

@[simp] theorem State.tellOwner_money (j : Job) (failure : Option VoidCause) (s : State) (h : MoneyState s.retained.op s.retained.ledger.k s.retained.ledger.pp s.purchase s.payout) :
    MoneyState (State.tellOwner j failure s).retained.op (State.tellOwner j failure s).retained.ledger.k (State.tellOwner j failure s).retained.ledger.pp (State.tellOwner j failure s).purchase (State.tellOwner j failure s).payout := by
  unfold State.tellOwner
  split <;> simp (maxDischargeDepth := 12) -implicitDefEqProofs [h]

@[simp] theorem State.jobEnds_money (failure : Option VoidCause) (s : State) (h : MoneyState s.retained.op s.retained.ledger.k s.retained.ledger.pp s.purchase s.payout) :
    MoneyState (State.jobEnds failure s).retained.op (State.jobEnds failure s).retained.ledger.k (State.jobEnds failure s).retained.ledger.pp (State.jobEnds failure s).purchase (State.jobEnds failure s).payout := by
  unfold State.jobEnds
  split <;> simp (maxDischargeDepth := 12) -implicitDefEqProofs [h]

@[simp] theorem State.cutTimeout_money (s : State) (h : MoneyState s.retained.op s.retained.ledger.k s.retained.ledger.pp s.purchase s.payout) :
    MoneyState (State.cutTimeout s).retained.op (State.cutTimeout s).retained.ledger.k (State.cutTimeout s).retained.ledger.pp (State.cutTimeout s).purchase (State.cutTimeout s).payout := by
  unfold State.cutTimeout
  (repeat' split) <;> simp (maxDischargeDepth := 12) -implicitDefEqProofs [h]

@[simp] theorem State.roomAskDelay_money (s : State) (h : MoneyState s.retained.op s.retained.ledger.k s.retained.ledger.pp s.purchase s.payout) :
    MoneyState (State.roomAskDelay s).retained.op (State.roomAskDelay s).retained.ledger.k (State.roomAskDelay s).retained.ledger.pp (State.roomAskDelay s).purchase (State.roomAskDelay s).payout := by
  unfold State.roomAskDelay
  split <;> simp (maxDischargeDepth := 12) -implicitDefEqProofs [h]

@[simp] theorem State.takeState_money (paper : Paper) (head : Head) (fault : PrinterFault) (s : State) (h : MoneyState s.retained.op s.retained.ledger.k s.retained.ledger.pp s.purchase s.payout) :
    MoneyState (State.takeState paper head fault s).retained.op (State.takeState paper head fault s).retained.ledger.k (State.takeState paper head fault s).retained.ledger.pp (State.takeState paper head fault s).purchase (State.takeState paper head fault s).payout := by
  unfold State.takeState
  dsimp only
  (repeat' split) <;> simp (maxDischargeDepth := 12) -implicitDefEqProofs [h]

@[simp] theorem State.takeCutDone_money (tag : Nat) (s : State) (h : MoneyState s.retained.op s.retained.ledger.k s.retained.ledger.pp s.purchase s.payout) :
    MoneyState (State.takeCutDone tag s).retained.op (State.takeCutDone tag s).retained.ledger.k (State.takeCutDone tag s).retained.ledger.pp (State.takeCutDone tag s).purchase (State.takeCutDone tag s).payout := by
  unfold State.takeCutDone
  (repeat' split) <;> simp (maxDischargeDepth := 12) -implicitDefEqProofs [h]

@[simp] theorem State.takeNotice_money (s : State) (n : Notice) (h : MoneyState s.retained.op s.retained.ledger.k s.retained.ledger.pp s.purchase s.payout) : MoneyState (s.takeNotice n).retained.op (s.takeNotice n).retained.ledger.k (s.takeNotice n).retained.ledger.pp (s.takeNotice n).purchase (s.takeNotice n).payout := by
  unfold State.takeNotice; split <;> simp (maxDischargeDepth := 12) -implicitDefEqProofs [h]

@[simp] theorem State.takeNotices_money (kind : Byte) (payload : List Byte) (s : State) (h : MoneyState s.retained.op s.retained.ledger.k s.retained.ledger.pp s.purchase s.payout) :
    MoneyState (s.takeNotices kind payload).retained.op (s.takeNotices kind payload).retained.ledger.k (s.takeNotices kind payload).retained.ledger.pp (s.takeNotices kind payload).purchase (s.takeNotices kind payload).payout :=
  State.takeNotices_keeps (fun t => MoneyState t.retained.op t.retained.ledger.k t.retained.ledger.pp t.purchase t.payout) (fun n t ht => State.takeNotice_money t n ht) kind payload s h

@[simp] theorem State.lineOutcome_money (tag : Nat) (valid : Bool) (s : State) (h : MoneyState s.retained.op s.retained.ledger.k s.retained.ledger.pp s.purchase s.payout) :
    MoneyState (State.lineOutcome tag valid s).retained.op (State.lineOutcome tag valid s).retained.ledger.k (State.lineOutcome tag valid s).retained.ledger.pp (State.lineOutcome tag valid s).purchase (State.lineOutcome tag valid s).payout := by
  simp (maxDischargeDepth := 12) -implicitDefEqProofs [State.lineOutcome, h]

@[simp] theorem State.cutOutcome_money (tag : Nat) (valid : Bool) (s : State) (h : MoneyState s.retained.op s.retained.ledger.k s.retained.ledger.pp s.purchase s.payout) :
    MoneyState (State.cutOutcome tag valid s).retained.op (State.cutOutcome tag valid s).retained.ledger.k (State.cutOutcome tag valid s).retained.ledger.pp (State.cutOutcome tag valid s).purchase (State.cutOutcome tag valid s).payout := by
  simp (maxDischargeDepth := 12) -implicitDefEqProofs [State.cutOutcome, h]

@[simp] theorem State.askOutcome_money (forRoom valid : Bool) (s : State) (h : MoneyState s.retained.op s.retained.ledger.k s.retained.ledger.pp s.purchase s.payout) :
    MoneyState (State.askOutcome forRoom valid s).retained.op (State.askOutcome forRoom valid s).retained.ledger.k (State.askOutcome forRoom valid s).retained.ledger.pp (State.askOutcome forRoom valid s).purchase (State.askOutcome forRoom valid s).payout := by
  simp (maxDischargeDepth := 12) -implicitDefEqProofs [State.askOutcome, h]

@[simp] theorem State.printerAbsent_money (s : State) (h : MoneyState s.retained.op s.retained.ledger.k s.retained.ledger.pp s.purchase s.payout) :
    MoneyState (State.printerAbsent s).retained.op (State.printerAbsent s).retained.ledger.k (State.printerAbsent s).retained.ledger.pp (State.printerAbsent s).purchase (State.printerAbsent s).payout := by
  simp (maxDischargeDepth := 12) -implicitDefEqProofs [State.printerAbsent, h]

theorem State.voucherRefusal_opened (s : State) (h : s.voucherRefusal = none) : s.purchase = .opened := by
  unfold State.voucherRefusal at h
  repeat' split at h
  all_goals first | (cases h; done) | simp_all

@[simp] theorem State.serveVoucher_money (s : State) (h : MoneyState s.retained.op s.retained.ledger.k s.retained.ledger.pp s.purchase s.payout) : MoneyState s.serveVoucher.retained.op s.serveVoucher.retained.ledger.k s.serveVoucher.retained.ledger.pp s.serveVoucher.purchase s.serveVoucher.payout := by
  unfold State.serveVoucher
  split
  · exact h
  · next e =>
    have a := s.voucherRefusal_opened e
    refine State.entryTest_money _ (State.startJob_money _ _ _ _ _ (State.acceptOp_money _ _ _ (h.free ?_ ?_))) <;>
      (rw [a]; decide)

@[simp] theorem State.serveReprint_money (s : State) (h : MoneyState s.retained.op s.retained.ledger.k s.retained.ledger.pp s.purchase s.payout) :
    MoneyState (State.serveReprint s).retained.op (State.serveReprint s).retained.ledger.k (State.serveReprint s).retained.ledger.pp (State.serveReprint s).purchase (State.serveReprint s).payout := by
  unfold State.serveReprint
  (repeat' split) <;> simp (maxDischargeDepth := 12) -implicitDefEqProofs [h]

@[simp] theorem State.carryOut_money (r : JournalRecord) (o : Resolution) (s : State) (h : MoneyState s.retained.op s.retained.ledger.k s.retained.ledger.pp s.purchase s.payout) :
    MoneyState (State.carryOut r o s).retained.op (State.carryOut r o s).retained.ledger.k (State.carryOut r o s).retained.ledger.pp (State.carryOut r o s).purchase (State.carryOut r o s).payout := by
  simp (maxDischargeDepth := 12) -implicitDefEqProofs [State.carryOut, h]

@[simp] theorem State.resolve_money (p : Presentation) (s : State) (h : MoneyState s.retained.op s.retained.ledger.k s.retained.ledger.pp s.purchase s.payout) :
    MoneyState (State.resolve p s).retained.op (State.resolve p s).retained.ledger.k (State.resolve p s).retained.ledger.pp (State.resolve p s).purchase (State.resolve p s).payout := by
  unfold State.resolve
  split <;> simp (maxDischargeDepth := 12) -implicitDefEqProofs [h]

@[simp] theorem State.bindCard_money (p : Presentation) (s : State) (h : MoneyState s.retained.op s.retained.ledger.k s.retained.ledger.pp s.purchase s.payout) : MoneyState (s.bindCard p).retained.op (s.bindCard p).retained.ledger.k (s.bindCard p).retained.ledger.pp (s.bindCard p).purchase (s.bindCard p).payout := by
  have h' := State.resolve_money p s h
  unfold State.bindCard
  dsimp only
  refine State.entryTest_money _ ?_
  have hp : (s.resolve p).purchase = s.purchase := by
    unfold State.resolve State.carryOut State.issueFree
    repeat' split
    all_goals rfl
  generalize s.resolve p = t at h' hp ⊢
  by_cases e : s.purchase = .idle
  · have e' : t.purchase = .idle := by rw [hp]; exact e
    have k := (h'.free (by rw [e']; decide) (by rw [e']; decide)).rest (p := .opened) (by decide) (by decide)
    simp only [e, beq_self_eq_true, Bool.or_true, if_true]
    exact k
  · simp only [beq_eq_false_iff_ne.2 e, Bool.or_false, Bool.false_eq_true, if_false]
    split <;> exact h'

@[simp] theorem State.unbind_money (s : State) (h : MoneyState s.retained.op s.retained.ledger.k s.retained.ledger.pp s.purchase s.payout) :
    MoneyState (State.unbind s).retained.op (State.unbind s).retained.ledger.k (State.unbind s).retained.ledger.pp (State.unbind s).purchase (State.unbind s).payout := by
  simp (maxDischargeDepth := 12) -implicitDefEqProofs [State.unbind, h]

@[simp] theorem State.afterUnbind_money (s : State) (h : MoneyState s.retained.op s.retained.ledger.k s.retained.ledger.pp s.purchase s.payout) : MoneyState s.afterUnbind.retained.op s.afterUnbind.retained.ledger.k s.afterUnbind.retained.ledger.pp s.afterUnbind.purchase s.afterUnbind.payout := by
  unfold State.afterUnbind
  split
  · next e =>
    have k : MoneyState s.rest.retained.op s.rest.retained.ledger.k s.rest.retained.ledger.pp s.rest.purchase s.rest.payout := (h.free (by rw [e]; decide) (by rw [e]; decide)).rest
      (State.rest_purchase_ne s).1 (State.rest_purchase_ne s).2
    dsimp only
    split
    · exact State.entryTest_money _ k
    · exact k
  · exact h

@[simp] theorem State.cardLeaves_money (s : State) (h : MoneyState s.retained.op s.retained.ledger.k s.retained.ledger.pp s.purchase s.payout) :
    MoneyState (State.cardLeaves s).retained.op (State.cardLeaves s).retained.ledger.k (State.cardLeaves s).retained.ledger.pp (State.cardLeaves s).purchase (State.cardLeaves s).payout := by
  unfold State.cardLeaves
  (repeat' split) <;> simp (maxDischargeDepth := 12) -implicitDefEqProofs [h]

@[simp] theorem State.takeSeen_money (p : Presentation) (s : State) (h : MoneyState s.retained.op s.retained.ledger.k s.retained.ledger.pp s.purchase s.payout) :
    MoneyState (State.takeSeen p s).retained.op (State.takeSeen p s).retained.ledger.k (State.takeSeen p s).retained.ledger.pp (State.takeSeen p s).purchase (State.takeSeen p s).payout := by
  unfold State.takeSeen
  (repeat' split) <;> simp (maxDischargeDepth := 12) -implicitDefEqProofs [h]

@[simp] theorem State.startWrite_money (o : OpRecord) (b : Binding) (w : Written) (s : State) (h : MoneyState s.retained.op s.retained.ledger.k s.retained.ledger.pp s.purchase s.payout) :
    MoneyState (s.startWrite o b w).retained.op (s.startWrite o b w).retained.ledger.k (s.startWrite o b w).retained.ledger.pp (s.startWrite o b w).purchase (s.startWrite o b w).payout := h

theorem State.handReceipt_free (o : OpRecord) (w : CardWrite) (n : Nat) (s : State) (h : MoneyFree s.retained.op s.retained.ledger.k s.retained.ledger.pp s.payout) :
    MoneyFree (s.handReceipt o w n).retained.op (s.handReceipt o w n).retained.ledger.k (s.handReceipt o w n).retained.ledger.pp (s.handReceipt o w n).payout := by
  unfold State.handReceipt
  dsimp only
  split
  · exact h
  · split
    · exact State.startJob_free _ _ _ _ _ h
    · exact State.issueReserved_free _ _ h

theorem State.writeEnds_free (s : State) (h : MoneyFree s.retained.op s.retained.ledger.k s.retained.ledger.pp s.payout) : MoneyFree s.writeEnds.retained.op s.writeEnds.retained.ledger.k s.writeEnds.retained.ledger.pp s.writeEnds.payout := by
  unfold State.writeEnds
  dsimp only
  split <;> exact h

theorem State.writeDone_money (o : OpRecord) (w : CardWrite) (n : Nat) (s : State) (h : MoneyState s.retained.op s.retained.ledger.k s.retained.ledger.pp s.purchase s.payout)
    (e : s.retained.op = some o) : MoneyState (s.writeDone o w n).retained.op (s.writeDone o w n).retained.ledger.k (s.writeDone o w n).retained.ledger.pp (s.writeDone o w n).purchase (s.writeDone o w n).payout := by
  obtain ⟨h1, h2⟩ := h.ofOp e
  unfold State.writeDone
  dsimp only
  split
  · exact State.comeToRest_money _ (State.handReceipt_free _ _ _ _ (State.writeEnds_free _
      (State.endOp_free _ _ _ (fun _ => rfl) (fun _ => rfl) h1 h2)))
  · exact State.afterSale_money _ _ _ (State.writeEnds_free _ (State.endOp_free _ _ _ (fun _ => rfl) (fun _ => rfl) h1 h2))

theorem State.writeFail_money (o : OpRecord) (w : CardWrite) (s : State) (h : MoneyState s.retained.op s.retained.ledger.k s.retained.ledger.pp s.purchase s.payout)
    (e : s.retained.op = some o) : MoneyState (s.writeFail o w).retained.op (s.writeFail o w).retained.ledger.k (s.writeFail o w).retained.ledger.pp (s.writeFail o w).purchase (s.writeFail o w).payout := by
  obtain ⟨h1, h2⟩ := h.ofOp e
  unfold State.writeFail
  dsimp only
  split
  · exact State.comeToRest_money _ (State.writeEnds_free _ (State.endOp_free _ _ _ (fun _ => rfl) (fun _ => rfl) h1 h2))
  · exact State.afterSale_money _ _ _ (State.writeEnds_free _ (State.endOp_free _ _ _ (fun _ => rfl) (fun _ => rfl) h1 h2))

theorem State.writeUncertain_money (o : OpRecord) (w : CardWrite) (cause : UncertainCause) (s : State) (h : MoneyState s.retained.op s.retained.ledger.k s.retained.ledger.pp s.purchase s.payout)
    (e : s.retained.op = some o) : MoneyState (s.writeUncertain o w cause).retained.op (s.writeUncertain o w cause).retained.ledger.k (s.writeUncertain o w cause).retained.ledger.pp (s.writeUncertain o w cause).purchase (s.writeUncertain o w cause).payout := by
  obtain ⟨h1, h2⟩ := h.ofOp e
  unfold State.writeUncertain
  dsimp only
  have k : ∀ (r : Report) (t : State), t.payout = none → t.retained.ledger.pp = 0 →
      MoneyFree (t.endOp Move.hold r).retained.op (t.endOp Move.hold r).retained.ledger.k (t.endOp Move.hold r).retained.ledger.pp (t.endOp Move.hold r).payout :=
    fun r t => State.endOp_free _ r t (fun _ => rfl) (fun _ => rfl)
  split
  · refine State.comeToRest_money _ ?_
    split <;> exact k _ (s.onJournal _) h1 h2
  · refine State.afterSale_money _ _ _ ?_
    split <;> exact k _ (s.onJournal _) h1 h2

theorem State.writeInFlight_op (s : State) (o : OpRecord) (w : CardWrite) (h : s.writeInFlight = some (o, w)) :
    s.retained.op = some o := by
  unfold State.writeInFlight at h
  split at h
  all_goals simp_all

@[simp] theorem State.takeWritten_money (txn : Nat) (r : WriteResult) (s : State) (h : MoneyState s.retained.op s.retained.ledger.k s.retained.ledger.pp s.purchase s.payout) :
    MoneyState (s.takeWritten txn r).retained.op (s.takeWritten txn r).retained.ledger.k (s.takeWritten txn r).retained.ledger.pp (s.takeWritten txn r).purchase (s.takeWritten txn r).payout := by
  unfold State.takeWritten
  split
  · exact h
  · next o w e =>
    have e' := s.writeInFlight_op o w e
    split
    · split
      · exact State.writeDone_money _ _ _ _ h e'
      · exact State.writeFail_money _ _ _ h e'
      · exact State.writeUncertain_money _ _ _ _ h e'
    · exact h

@[simp] theorem State.writeTimeout_money (s : State) (h : MoneyState s.retained.op s.retained.ledger.k s.retained.ledger.pp s.purchase s.payout) : MoneyState s.writeTimeout.retained.op s.writeTimeout.retained.ledger.k s.writeTimeout.retained.ledger.pp s.writeTimeout.purchase s.writeTimeout.payout := by
  unfold State.writeTimeout
  split
  · exact h
  · next o w e =>
    split
    · exact State.writeUncertain_money _ _ _ _ h (s.writeInFlight_op o w e)
    · exact h

@[simp] theorem State.cardAbsent_money (s : State) (h : MoneyState s.retained.op s.retained.ledger.k s.retained.ledger.pp s.purchase s.payout) : MoneyState s.cardAbsent.retained.op s.cardAbsent.retained.ledger.k s.cardAbsent.retained.ledger.pp s.cardAbsent.purchase s.cardAbsent.payout := by
  unfold State.cardAbsent
  dsimp only
  split
  · next o w e => exact State.writeUncertain_money _ _ _ _ h (State.writeInFlight_op _ o w e)
  · split
    · exact State.afterUnbind_money _ h
    · exact h

@[simp] theorem State.takeCardFrame_money (kind : Byte) (p : List Byte) (s : State) (h : MoneyState s.retained.op s.retained.ledger.k s.retained.ledger.pp s.purchase s.payout) :
    MoneyState (State.takeCardFrame kind p s).retained.op (State.takeCardFrame kind p s).retained.ledger.k (State.takeCardFrame kind p s).retained.ledger.pp (State.takeCardFrame kind p s).purchase (State.takeCardFrame kind p s).payout := by
  unfold State.takeCardFrame
  (repeat' split) <;> simp (maxDischargeDepth := 12) -implicitDefEqProofs [h]

theorem State.topupChecks_opened (n : Nat) (s : State) (t : TopupTerms) (h : s.topupChecks n = .ok t) :
    s.purchase = .opened := by
  unfold State.topupChecks at h
  dsimp only at h
  repeat' split at h
  all_goals first | (cases h; done) | simp_all

@[simp] theorem State.serveTopup_money (amount : Word16) (receipt : Bool) (s : State) (h : MoneyState s.retained.op s.retained.ledger.k s.retained.ledger.pp s.purchase s.payout) :
    MoneyState (s.serveTopup amount receipt).retained.op (s.serveTopup amount receipt).retained.ledger.k (s.serveTopup amount receipt).retained.ledger.pp (s.serveTopup amount receipt).purchase (s.serveTopup amount receipt).payout := by
  unfold State.serveTopup
  split
  · exact h
  · next t e =>
    have a := s.topupChecks_opened _ t e
    refine State.entryTest_money _ (State.startWrite_money _ _ _ _ (State.acceptOp_money _ _ _ (h.free ?_ ?_))) <;>
      (rw [a]; decide)

@[simp] theorem State.serveWriteOff_money (txn : Nat) (s : State) (h : MoneyState s.retained.op s.retained.ledger.k s.retained.ledger.pp s.purchase s.payout) :
    MoneyState (State.serveWriteOff txn s).retained.op (State.serveWriteOff txn s).retained.ledger.k (State.serveWriteOff txn s).retained.ledger.pp (State.serveWriteOff txn s).purchase (State.serveWriteOff txn s).payout := by
  unfold State.serveWriteOff
  dsimp only
  (repeat' split) <;> simp (maxDischargeDepth := 12) -implicitDefEqProofs [h]

@[simp] theorem State.startSale_money (o : OpRecord) (q : SellRequest) (t : SaleTerms) (s : State) (h : MoneyState s.retained.op s.retained.ledger.k s.retained.ledger.pp s.purchase s.payout) :
    MoneyState (s.startSale o q t).retained.op (s.startSale o q t).retained.ledger.k (s.startSale o q t).retained.ledger.pp (s.startSale o q t).purchase (s.startSale o q t).payout := by
  unfold State.startSale
  split
  · exact State.startJob_money _ _ _ _ _ h
  · exact h

theorem State.sellChecks_rest (q : SellRequest) (s : State) (t : SaleTerms) (h : s.sellChecks q = .ok t) :
    s.purchase ≠ .busy ∧ s.purchase ≠ .payout := by
  unfold State.sellChecks at h
  split at h
  · cases h
  · split at h
    · cases h
    · next e => revert e; cases s.purchase <;> decide

@[simp] theorem State.serveSell_money (q : SellRequest) (s : State) (h : MoneyState s.retained.op s.retained.ledger.k s.retained.ledger.pp s.purchase s.payout) : MoneyState (s.serveSell q).retained.op (s.serveSell q).retained.ledger.k (s.serveSell q).retained.ledger.pp (s.serveSell q).purchase (s.serveSell q).payout := by
  unfold State.serveSell
  split
  · exact h
  · next t e =>
    have a := s.sellChecks_rest q t e
    exact State.entryTest_money _ (State.startSale_money _ _ _ _ (State.acceptOp_money _ _ _ (h.free a.1 a.2)))

@[simp] theorem State.passDown_money (f : Frame) (s : State) (h : MoneyState s.retained.op s.retained.ledger.k s.retained.ledger.pp s.purchase s.payout) :
    MoneyState (State.passDown f s).retained.op (State.passDown f s).retained.ledger.k (State.passDown f s).retained.ledger.pp (State.passDown f s).purchase (State.passDown f s).payout := by
  unfold State.passDown
  split <;> simp (maxDischargeDepth := 12) -implicitDefEqProofs [h]

@[simp] theorem State.consume_money (r : Role) (f : Frame) (s : State) (h : MoneyState s.retained.op s.retained.ledger.k s.retained.ledger.pp s.purchase s.payout) :
    MoneyState (State.consume r f s).retained.op (State.consume r f s).retained.ledger.k (State.consume r f s).retained.ledger.pp (State.consume r f s).purchase (State.consume r f s).payout := by
  unfold State.consume
  split <;> simp (maxDischargeDepth := 12) -implicitDefEqProofs [h]

@[simp] theorem State.disposeAnswer_money (i : Fin 6) (f : Frame) (s : State) (h : MoneyState s.retained.op s.retained.ledger.k s.retained.ledger.pp s.purchase s.payout) :
    MoneyState (State.disposeAnswer i f s).retained.op (State.disposeAnswer i f s).retained.ledger.k (State.disposeAnswer i f s).retained.ledger.pp (State.disposeAnswer i f s).purchase (State.disposeAnswer i f s).payout := by
  unfold State.disposeAnswer
  dsimp only
  (repeat' split) <;> simp (maxDischargeDepth := 12) -implicitDefEqProofs [h]

theorem State.grantWrite_money {s t : State} (e : s.grantWrite = some t) (h : MoneyState s.retained.op s.retained.ledger.k s.retained.ledger.pp s.purchase s.payout) : MoneyState t.retained.op t.retained.ledger.k t.retained.ledger.pp t.purchase t.payout := by
  unfold State.grantWrite at e
  repeat' split at e
  all_goals first
    | (cases e; done)
    | (simp only [Option.some.injEq] at e; subst e; simp (maxDischargeDepth := 12) -implicitDefEqProofs [h]; done)
    | (simp only [Option.map_eq_some_iff] at e; obtain ⟨_, _, rfl⟩ := e; simp (maxDischargeDepth := 12) -implicitDefEqProofs [h])

theorem State.grantPrint_money {s t : State} (e : s.grantPrint = some t) (h : MoneyState s.retained.op s.retained.ledger.k s.retained.ledger.pp s.purchase s.payout) : MoneyState t.retained.op t.retained.ledger.k t.retained.ledger.pp t.purchase t.payout := by
  unfold State.grantPrint at e
  repeat' split at e
  all_goals first
    | (cases e; done)
    | (simp only [Option.some.injEq] at e; subst e; simp (maxDischargeDepth := 12) -implicitDefEqProofs [h]; done)
    | (simp only [Option.map_eq_some_iff] at e; obtain ⟨_, _, rfl⟩ := e; simp (maxDischargeDepth := 12) -implicitDefEqProofs [h])

theorem State.grantClass3_money {s t : State} (e : s.grantClass3 = some t) (h : MoneyState s.retained.op s.retained.ledger.k s.retained.ledger.pp s.purchase s.payout) : MoneyState t.retained.op t.retained.ledger.k t.retained.ledger.pp t.purchase t.payout := by
  unfold State.grantClass3 at e
  repeat' split at e
  all_goals first
    | (cases e; done)
    | (simp only [Option.some.injEq] at e; subst e; simp (maxDischargeDepth := 12) -implicitDefEqProofs [h]; done)
    | (simp only [Option.map_eq_some_iff] at e; obtain ⟨_, _, rfl⟩ := e; simp (maxDischargeDepth := 12) -implicitDefEqProofs [h])

theorem State.grantForward_money {s t : State} (e : s.grantForward = some t) (h : MoneyState s.retained.op s.retained.ledger.k s.retained.ledger.pp s.purchase s.payout) : MoneyState t.retained.op t.retained.ledger.k t.retained.ledger.pp t.purchase t.payout := by
  unfold State.grantForward at e
  repeat' split at e
  all_goals first
    | (cases e; done)
    | (simp only [Option.some.injEq] at e; subst e; simp (maxDischargeDepth := 12) -implicitDefEqProofs [h]; done)
    | (simp only [Option.map_eq_some_iff] at e; obtain ⟨_, _, rfl⟩ := e; simp (maxDischargeDepth := 12) -implicitDefEqProofs [h])

theorem State.grantPoll_money {s t : State} (e : s.grantPoll = some t) (h : MoneyState s.retained.op s.retained.ledger.k s.retained.ledger.pp s.purchase s.payout) : MoneyState t.retained.op t.retained.ledger.k t.retained.ledger.pp t.purchase t.payout := by
  unfold State.grantPoll at e
  repeat' split at e
  all_goals first
    | (cases e; done)
    | (simp only [Option.some.injEq] at e; subst e; simp (maxDischargeDepth := 12) -implicitDefEqProofs [h]; done)
    | (simp only [Option.map_eq_some_iff] at e; obtain ⟨_, _, rfl⟩ := e; simp (maxDischargeDepth := 12) -implicitDefEqProofs [h])

@[simp] theorem State.grant_money (s : State) (h : MoneyState s.retained.op s.retained.ledger.k s.retained.ledger.pp s.purchase s.payout) : MoneyState s.grant.retained.op s.grant.retained.ledger.k s.grant.retained.ledger.pp s.grant.purchase s.grant.payout :=
  State.grant_keeps (fun t => MoneyState t.retained.op t.retained.ledger.k t.retained.ledger.pp t.purchase t.payout) s h (fun _ e => State.grantWrite_money e h) (fun _ e => State.grantPrint_money e h)
    (fun _ e => State.grantClass3_money e h) (fun _ e => State.grantForward_money e h) (fun _ e => State.grantPoll_money e h)

@[simp] theorem State.issuePresence_money (r : Role) (discards : Nat) (s : State) (h : MoneyState s.retained.op s.retained.ledger.k s.retained.ledger.pp s.purchase s.payout) :
    MoneyState (State.issuePresence r discards s).retained.op (State.issuePresence r discards s).retained.ledger.k (State.issuePresence r discards s).retained.ledger.pp (State.issuePresence r discards s).purchase (State.issuePresence r discards s).payout := by
  unfold State.issuePresence
  split <;> simp (maxDischargeDepth := 12) -implicitDefEqProofs [h]

@[simp] theorem State.tellAbsent_money (r : Role) (s : State) (h : MoneyState s.retained.op s.retained.ledger.k s.retained.ledger.pp s.purchase s.payout) :
    MoneyState (State.tellAbsent r s).retained.op (State.tellAbsent r s).retained.ledger.k (State.tellAbsent r s).retained.ledger.pp (State.tellAbsent r s).purchase (State.tellAbsent r s).payout := by
  unfold State.tellAbsent
  split <;> simp (maxDischargeDepth := 12) -implicitDefEqProofs [h]

@[simp] theorem State.slotAbsent_money (i : Fin 6) (s : State) (h : MoneyState s.retained.op s.retained.ledger.k s.retained.ledger.pp s.purchase s.payout) :
    MoneyState (State.slotAbsent i s).retained.op (State.slotAbsent i s).retained.ledger.k (State.slotAbsent i s).retained.ledger.pp (State.slotAbsent i s).purchase (State.slotAbsent i s).payout := by
  simp (maxDischargeDepth := 12) -implicitDefEqProofs [State.slotAbsent, h]

@[simp] theorem State.tellPresent_money (r : Role) (s : State) (h : MoneyState s.retained.op s.retained.ledger.k s.retained.ledger.pp s.purchase s.payout) :
    MoneyState (State.tellPresent r s).retained.op (State.tellPresent r s).retained.ledger.k (State.tellPresent r s).retained.ledger.pp (State.tellPresent r s).purchase (State.tellPresent r s).payout := by
  unfold State.tellPresent
  split <;> simp (maxDischargeDepth := 12) -implicitDefEqProofs [h]

@[simp] theorem State.slotPresent_money (i : Fin 6) (s : State) (h : MoneyState s.retained.op s.retained.ledger.k s.retained.ledger.pp s.purchase s.payout) :
    MoneyState (State.slotPresent i s).retained.op (State.slotPresent i s).retained.ledger.k (State.slotPresent i s).retained.ledger.pp (State.slotPresent i s).purchase (State.slotPresent i s).payout := by
  simp (maxDischargeDepth := 12) -implicitDefEqProofs [State.slotPresent, h]

@[simp] theorem State.answered_money (i : Fin 6) (s : State) (h : MoneyState s.retained.op s.retained.ledger.k s.retained.ledger.pp s.purchase s.payout) :
    MoneyState (State.answered i s).retained.op (State.answered i s).retained.ledger.k (State.answered i s).retained.ledger.pp (State.answered i s).purchase (State.answered i s).payout := by
  unfold State.answered
  split <;> simp (maxDischargeDepth := 12) -implicitDefEqProofs [h]

@[simp] theorem State.missed_money (i : Fin 6) (s : State) (h : MoneyState s.retained.op s.retained.ledger.k s.retained.ledger.pp s.purchase s.payout) :
    MoneyState (State.missed i s).retained.op (State.missed i s).retained.ledger.k (State.missed i s).retained.ledger.pp (State.missed i s).purchase (State.missed i s).payout := by
  unfold State.missed
  dsimp only
  (repeat' split) <;> simp (maxDischargeDepth := 12) -implicitDefEqProofs [h]

@[simp] theorem State.reprobeDue_money (i : Fin 6) (s : State) (h : MoneyState s.retained.op s.retained.ledger.k s.retained.ledger.pp s.purchase s.payout) :
    MoneyState (State.reprobeDue i s).retained.op (State.reprobeDue i s).retained.ledger.k (State.reprobeDue i s).retained.ledger.pp (State.reprobeDue i s).purchase (State.reprobeDue i s).payout := by
  unfold State.reprobeDue
  split <;> simp (maxDischargeDepth := 12) -implicitDefEqProofs [h]

@[simp] theorem State.tellOutcome_money (o : Owner) (valid : Bool) (s : State) (h : MoneyState s.retained.op s.retained.ledger.k s.retained.ledger.pp s.purchase s.payout) :
    MoneyState (State.tellOutcome o valid s).retained.op (State.tellOutcome o valid s).retained.ledger.k (State.tellOutcome o valid s).retained.ledger.pp (State.tellOutcome o valid s).purchase (State.tellOutcome o valid s).payout := by
  unfold State.tellOutcome
  split <;> simp (maxDischargeDepth := 12) -implicitDefEqProofs [h]

@[simp] theorem State.endValid_money (i : Fin 6) (o : Owner) (f : Frame) (s : State) (h : MoneyState s.retained.op s.retained.ledger.k s.retained.ledger.pp s.purchase s.payout) :
    MoneyState (State.endValid i o f s).retained.op (State.endValid i o f s).retained.ledger.k (State.endValid i o f s).retained.ledger.pp (State.endValid i o f s).purchase (State.endValid i o f s).payout := by
  simp (maxDischargeDepth := 12) -implicitDefEqProofs [State.endValid, h]

@[simp] theorem State.endInvalid_money (i : Fin 6) (o : Owner) (s : State) (h : MoneyState s.retained.op s.retained.ledger.k s.retained.ledger.pp s.purchase s.payout) :
    MoneyState (State.endInvalid i o s).retained.op (State.endInvalid i o s).retained.ledger.k (State.endInvalid i o s).retained.ledger.pp (State.endInvalid i o s).purchase (State.endInvalid i o s).payout := by
  simp (maxDischargeDepth := 12) -implicitDefEqProofs [State.endInvalid, h]

@[simp] theorem State.moduleFrame_money (f : Frame) (s : State) (h : MoneyState s.retained.op s.retained.ledger.k s.retained.ledger.pp s.purchase s.payout) :
    MoneyState (State.moduleFrame f s).retained.op (State.moduleFrame f s).retained.ledger.k (State.moduleFrame f s).retained.ledger.pp (State.moduleFrame f s).purchase (State.moduleFrame f s).payout := by
  unfold State.moduleFrame
  (repeat' split) <;> simp (maxDischargeDepth := 12) -implicitDefEqProofs [h]

@[simp] theorem State.noAnswer_money (s : State) (h : MoneyState s.retained.op s.retained.ledger.k s.retained.ledger.pp s.purchase s.payout) :
    MoneyState (State.noAnswer s).retained.op (State.noAnswer s).retained.ledger.k (State.noAnswer s).retained.ledger.pp (State.noAnswer s).purchase (State.noAnswer s).payout := by
  unfold State.noAnswer
  split <;> simp (maxDischargeDepth := 12) -implicitDefEqProofs [h]

@[simp] theorem State.windowPasses_money (s : State) (h : MoneyState s.retained.op s.retained.ledger.k s.retained.ledger.pp s.purchase s.payout) :
    MoneyState (State.windowPasses s).retained.op (State.windowPasses s).retained.ledger.k (State.windowPasses s).retained.ledger.pp (State.windowPasses s).purchase (State.windowPasses s).payout := by
  unfold State.windowPasses
  split <;> simp (maxDischargeDepth := 12) -implicitDefEqProofs [h]

@[simp] theorem State.groupEnds_money (s : State) (h : MoneyState s.retained.op s.retained.ledger.k s.retained.ledger.pp s.purchase s.payout) :
    MoneyState (State.groupEnds s).retained.op (State.groupEnds s).retained.ledger.k (State.groupEnds s).retained.ledger.pp (State.groupEnds s).purchase (State.groupEnds s).payout := by
  unfold State.groupEnds
  split <;> simp (maxDischargeDepth := 12) -implicitDefEqProofs [h]

@[simp] theorem State.frameSeen_money (s : State) (h : MoneyState s.retained.op s.retained.ledger.k s.retained.ledger.pp s.purchase s.payout) :
    MoneyState (State.frameSeen s).retained.op (State.frameSeen s).retained.ledger.k (State.frameSeen s).retained.ledger.pp (State.frameSeen s).purchase (State.frameSeen s).payout := by
  unfold State.frameSeen
  split <;> simp (maxDischargeDepth := 12) -implicitDefEqProofs [h]

theorem State.gated_money (k : Byte) (f : State → State) (s : State) (hf : MoneyState s.retained.op s.retained.ledger.k s.retained.ledger.pp s.purchase s.payout → MoneyState (f s).retained.op (f s).retained.ledger.k (f s).retained.ledger.pp (f s).purchase (f s).payout)
    (h : MoneyState s.retained.op s.retained.ledger.k s.retained.ledger.pp s.purchase s.payout) : MoneyState (s.gated k f).retained.op (s.gated k f).retained.ledger.k (s.gated k f).retained.ledger.pp (s.gated k f).purchase (s.gated k f).payout := by
  unfold State.gated; split
  · simpa using h
  · exact hf h

@[simp] theorem State.setUp_money (id rate : Nat) (roles : Vector Role 6) (silence : Nat) (s : State) (h : MoneyState s.retained.op s.retained.ledger.k s.retained.ledger.pp s.purchase s.payout) :
    MoneyState (State.setUp id rate roles silence s).retained.op (State.setUp id rate roles silence s).retained.ledger.k (State.setUp id rate roles silence s).retained.ledger.pp (State.setUp id rate roles silence s).purchase (State.setUp id rate roles silence s).payout := by
  simp (maxDischargeDepth := 12) -implicitDefEqProofs [State.setUp, h]

@[simp] theorem State.serveSetup_money (id : Word16) (rate : Byte) (codes : Vector Byte 6) (silence : Byte) (s : State) (h : MoneyState s.retained.op s.retained.ledger.k s.retained.ledger.pp s.purchase s.payout) :
    MoneyState (State.serveSetup id rate codes silence s).retained.op (State.serveSetup id rate codes silence s).retained.ledger.k (State.serveSetup id rate codes silence s).retained.ledger.pp (State.serveSetup id rate codes silence s).purchase (State.serveSetup id rate codes silence s).payout := by
  unfold State.serveSetup
  (repeat' split) <;> simp (maxDischargeDepth := 12) -implicitDefEqProofs [h]

@[simp] theorem State.serveAlive_money (s : State) (h : MoneyState s.retained.op s.retained.ledger.k s.retained.ledger.pp s.purchase s.payout) :
    MoneyState (State.serveAlive s).retained.op (State.serveAlive s).retained.ledger.k (State.serveAlive s).retained.ledger.pp (State.serveAlive s).purchase (State.serveAlive s).payout := by
  simp (maxDischargeDepth := 12) -implicitDefEqProofs [State.serveAlive, h]

@[simp] theorem State.serveService_money (on : Bool) (s : State) (h : MoneyState s.retained.op s.retained.ledger.k s.retained.ledger.pp s.purchase s.payout) :
    MoneyState (State.serveService on s).retained.op (State.serveService on s).retained.ledger.k (State.serveService on s).retained.ledger.pp (State.serveService on s).purchase (State.serveService on s).payout := by
  unfold State.serveService
  (repeat' split) <;> simp (maxDischargeDepth := 12) -implicitDefEqProofs [h]

@[simp] theorem State.serveInhibit_money (on : Bool) (s : State) (h : MoneyState s.retained.op s.retained.ledger.k s.retained.ledger.pp s.purchase s.payout) :
    MoneyState (State.serveInhibit on s).retained.op (State.serveInhibit on s).retained.ledger.k (State.serveInhibit on s).retained.ledger.pp (State.serveInhibit on s).purchase (State.serveInhibit on s).payout := by
  simp (maxDischargeDepth := 12) -implicitDefEqProofs [State.serveInhibit, h]

@[simp] theorem State.serveRestart_money (s : State) (h : MoneyState s.retained.op s.retained.ledger.k s.retained.ledger.pp s.purchase s.payout) :
    MoneyState (State.serveRestart s).retained.op (State.serveRestart s).retained.ledger.k (State.serveRestart s).retained.ledger.pp (State.serveRestart s).purchase (State.serveRestart s).payout := by
  simp (maxDischargeDepth := 12) -implicitDefEqProofs [State.serveRestart, h]

@[simp] theorem State.serveClearAll_money (s : State) (h : MoneyState s.retained.op s.retained.ledger.k s.retained.ledger.pp s.purchase s.payout) :
    MoneyState (State.serveClearAll s).retained.op (State.serveClearAll s).retained.ledger.k (State.serveClearAll s).retained.ledger.pp (State.serveClearAll s).purchase (State.serveClearAll s).payout := by
  unfold State.serveClearAll
  (repeat' split) <;> simp (maxDischargeDepth := 12) -implicitDefEqProofs [h]

@[simp] theorem State.serveClock_money (day second dayOfWeek : Nat) (s : State) (h : MoneyState s.retained.op s.retained.ledger.k s.retained.ledger.pp s.purchase s.payout) :
    MoneyState (State.serveClock day second dayOfWeek s).retained.op (State.serveClock day second dayOfWeek s).retained.ledger.k (State.serveClock day second dayOfWeek s).retained.ledger.pp (State.serveClock day second dayOfWeek s).purchase (State.serveClock day second dayOfWeek s).payout := by
  unfold State.serveClock
  split <;> simp (maxDischargeDepth := 12) -implicitDefEqProofs [h]

@[simp] theorem State.serveQuery_money (topic index : Byte) (s : State) (h : MoneyState s.retained.op s.retained.ledger.k s.retained.ledger.pp s.purchase s.payout) :
    MoneyState (State.serveQuery topic index s).retained.op (State.serveQuery topic index s).retained.ledger.k (State.serveQuery topic index s).retained.ledger.pp (State.serveQuery topic index s).purchase (State.serveQuery topic index s).payout := by
  unfold State.serveQuery
  (repeat' split) <;> simp (maxDischargeDepth := 12) -implicitDefEqProofs [h]

@[simp] theorem State.takeSetup_money (id : Word16) (rate : Byte) (roles : Vector Byte 6) (silence : Byte) (s : State) (h : MoneyState s.retained.op s.retained.ledger.k s.retained.ledger.pp s.purchase s.payout) :
    MoneyState (State.takeSetup id rate roles silence s).retained.op (State.takeSetup id rate roles silence s).retained.ledger.k (State.takeSetup id rate roles silence s).retained.ledger.pp (State.takeSetup id rate roles silence s).purchase (State.takeSetup id rate roles silence s).payout := by
  simp (maxDischargeDepth := 12) -implicitDefEqProofs [State.takeSetup, h]

@[simp] theorem State.takeLoad_money (kind : TableKind) (generation : Word16) (index total : Byte) (check count : Word16) (entries : List Byte) (s : State) (h : MoneyState s.retained.op s.retained.ledger.k s.retained.ledger.pp s.purchase s.payout) :
    MoneyState (State.takeLoad kind generation index total check count entries s).retained.op (State.takeLoad kind generation index total check count entries s).retained.ledger.k (State.takeLoad kind generation index total check count entries s).retained.ledger.pp (State.takeLoad kind generation index total check count entries s).purchase (State.takeLoad kind generation index total check count entries s).payout := by
  unfold State.takeLoad
  (repeat' split) <;> simp (maxDischargeDepth := 12) -implicitDefEqProofs [h]

@[simp] theorem State.takeActivate_money (kind : TableKind) (generation : Word16) (due : Due) (s : State) (h : MoneyState s.retained.op s.retained.ledger.k s.retained.ledger.pp s.purchase s.payout) :
    MoneyState (State.takeActivate kind generation due s).retained.op (State.takeActivate kind generation due s).retained.ledger.k (State.takeActivate kind generation due s).retained.ledger.pp (State.takeActivate kind generation due s).purchase (State.takeActivate kind generation due s).payout := by
  unfold State.takeActivate; exact State.gated_money _ _ _ (fun h => by simp (maxDischargeDepth := 12) -implicitDefEqProofs [h]) h

@[simp] theorem State.takeSell_money (product zones : Byte) (concession : Fin 8) (medium : Medium) (keep : Bool) (s : State) (h : MoneyState s.retained.op s.retained.ledger.k s.retained.ledger.pp s.purchase s.payout) :
    MoneyState (State.takeSell product zones concession medium keep s).retained.op (State.takeSell product zones concession medium keep s).retained.ledger.k (State.takeSell product zones concession medium keep s).retained.ledger.pp (State.takeSell product zones concession medium keep s).purchase (State.takeSell product zones concession medium keep s).payout := by
  unfold State.takeSell; exact State.gated_money _ _ _ (fun h => by simp (maxDischargeDepth := 12) -implicitDefEqProofs [h]) h

@[simp] theorem State.takeClock_money (day : Word16) (second : Word32) (dayOfWeek : Byte) (s : State) (h : MoneyState s.retained.op s.retained.ledger.k s.retained.ledger.pp s.purchase s.payout) :
    MoneyState (State.takeClock day second dayOfWeek s).retained.op (State.takeClock day second dayOfWeek s).retained.ledger.k (State.takeClock day second dayOfWeek s).retained.ledger.pp (State.takeClock day second dayOfWeek s).purchase (State.takeClock day second dayOfWeek s).payout := by
  unfold State.takeClock; exact State.gated_money _ _ _ (fun h => by simp (maxDischargeDepth := 12) -implicitDefEqProofs [h]) h

@[simp] theorem State.takeTube_money (tube count : Byte) (s : State) (h : MoneyState s.retained.op s.retained.ledger.k s.retained.ledger.pp s.purchase s.payout) :
    MoneyState (State.takeTube tube count s).retained.op (State.takeTube tube count s).retained.ledger.k (State.takeTube tube count s).retained.ledger.pp (State.takeTube tube count s).purchase (State.takeTube tube count s).payout := by
  unfold State.takeTube; exact State.gated_money _ _ _ (fun h => by simp (maxDischargeDepth := 12) -implicitDefEqProofs [h]) h

@[simp] theorem State.takeRequest_money (i : Instr) (s : State) (h : MoneyState s.retained.op s.retained.ledger.k s.retained.ledger.pp s.purchase s.payout) : MoneyState (s.takeRequest i).retained.op (s.takeRequest i).retained.ledger.k (s.takeRequest i).retained.ledger.pp (s.takeRequest i).purchase (s.takeRequest i).payout := by
  unfold State.takeRequest
  split <;> first
    | exact h
    | (simp (maxDischargeDepth := 12) -implicitDefEqProofs [h]; done)
    | exact State.gated_money _ _ _ (fun h => by simp (maxDischargeDepth := 12) -implicitDefEqProofs [h]) h

@[simp] theorem State.refuseFormat_money (kind : Byte) (p : List Byte) (s : State) (h : MoneyState s.retained.op s.retained.ledger.k s.retained.ledger.pp s.purchase s.payout) :
    MoneyState (State.refuseFormat kind p s).retained.op (State.refuseFormat kind p s).retained.ledger.k (State.refuseFormat kind p s).retained.ledger.pp (State.refuseFormat kind p s).purchase (State.refuseFormat kind p s).payout := by
  unfold State.refuseFormat
  split <;> simp (maxDischargeDepth := 12) -implicitDefEqProofs [h]

@[simp] theorem State.disposeRequest_money (kind : Byte) (p : List Byte) (s : State) (h : MoneyState s.retained.op s.retained.ledger.k s.retained.ledger.pp s.purchase s.payout) :
    MoneyState (State.disposeRequest kind p s).retained.op (State.disposeRequest kind p s).retained.ledger.k (State.disposeRequest kind p s).retained.ledger.pp (State.disposeRequest kind p s).purchase (State.disposeRequest kind p s).payout := by
  unfold State.disposeRequest
  split <;> simp (maxDischargeDepth := 12) -implicitDefEqProofs [h]

@[simp] theorem State.disposeDownward_money (f : Frame) (s : State) (h : MoneyState s.retained.op s.retained.ledger.k s.retained.ledger.pp s.purchase s.payout) :
    MoneyState (State.disposeDownward f s).retained.op (State.disposeDownward f s).retained.ledger.k (State.disposeDownward f s).retained.ledger.pp (State.disposeDownward f s).purchase (State.disposeDownward f s).payout := by
  unfold State.disposeDownward
  split <;> simp (maxDischargeDepth := 12) -implicitDefEqProofs [h]

@[simp] theorem State.disposeFrame_money (f : Frame) (s : State) (h : MoneyState s.retained.op s.retained.ledger.k s.retained.ledger.pp s.purchase s.payout) :
    MoneyState (State.disposeFrame f s).retained.op (State.disposeFrame f s).retained.ledger.k (State.disposeFrame f s).retained.ledger.pp (State.disposeFrame f s).purchase (State.disposeFrame f s).payout := by
  unfold State.disposeFrame
  (repeat' split) <;> simp (maxDischargeDepth := 12) -implicitDefEqProofs [h]

theorem State.onCLine_money (f : Frame) (g : State → State) (s : State)
    (hg : ∀ t : State, MoneyState t.retained.op t.retained.ledger.k t.retained.ledger.pp t.purchase t.payout → MoneyState (g t).retained.op (g t).retained.ledger.k (g t).retained.ledger.pp (g t).purchase (g t).payout) (h : MoneyState s.retained.op s.retained.ledger.k s.retained.ledger.pp s.purchase s.payout) : MoneyState (s.onCLine f g).retained.op (s.onCLine f g).retained.ledger.k (s.onCLine f g).retained.ledger.pp (s.onCLine f g).purchase (s.onCLine f g).payout := by
  unfold State.onCLine
  repeat' split
  · exact h
  · simpa using h
  · exact hg _ (by simpa using State.frameSeen_money s h)

theorem State.onRequest_money (i : Instr) (g : State → State) (s : State)
    (hg : ∀ t : State, MoneyState t.retained.op t.retained.ledger.k t.retained.ledger.pp t.purchase t.payout → MoneyState (g t).retained.op (g t).retained.ledger.k (g t).retained.ledger.pp (g t).purchase (g t).payout) (h : MoneyState s.retained.op s.retained.ledger.k s.retained.ledger.pp s.purchase s.payout) : MoneyState (s.onRequest i g).retained.op (s.onRequest i g).retained.ledger.k (s.onRequest i g).retained.ledger.pp (s.onRequest i g).purchase (s.onRequest i g).payout := by
  unfold State.onRequest
  split
  · exact State.onCLine_money _ _ _ hg h
  · exact h

@[simp] theorem State.runC_money (s : State) (h : MoneyState s.retained.op s.retained.ledger.k s.retained.ledger.pp s.purchase s.payout) : MoneyState s.runC.retained.op s.runC.retained.ledger.k s.runC.retained.ledger.pp s.runC.purchase s.runC.payout :=
  State.pumpC_keeps (fun t => MoneyState t.retained.op t.retained.ledger.k t.retained.ledger.pp t.purchase t.payout) (fun _ _ ht => ht) (fun f _ ht => State.disposeFrame_money f _ (State.frameSeen_money _ ht)) _ s h

@[simp] theorem State.runM_money (s : State) (h : MoneyState s.retained.op s.retained.ledger.k s.retained.ledger.pp s.purchase s.payout) : MoneyState s.runM.retained.op s.runM.retained.ledger.k s.runM.retained.ledger.pp s.runM.purchase s.runM.payout :=
  State.pumpM_keeps (fun t => MoneyState t.retained.op t.retained.ledger.k t.retained.ledger.pp t.purchase t.payout) (fun _ _ ht => ht) (fun t ht => State.noAnswer_money t ht)
    (fun f t ht => State.moduleFrame_money f t ht) _ s h

@[simp] theorem State.onReceiver_money (l : Line) (f : Receiver → Receiver) (s : State)
    (h : MoneyState s.retained.op s.retained.ledger.k s.retained.ledger.pp s.purchase s.payout) : MoneyState (s.onReceiver l f).retained.op (s.onReceiver l f).retained.ledger.k (s.onReceiver l f).retained.ledger.pp (s.onReceiver l f).purchase (s.onReceiver l f).payout := by
  unfold State.onReceiver; repeat' split
  · exact State.runC_money _ h
  · exact State.runM_money _ h
  · exact h

@[simp] theorem State.characterArrives_money (l : Line) (value : Byte) (parity stopMark : Bool) (s : State) (h : MoneyState s.retained.op s.retained.ledger.k s.retained.ledger.pp s.purchase s.payout) :
    MoneyState (State.characterArrives l value parity stopMark s).retained.op (State.characterArrives l value parity stopMark s).retained.ledger.k (State.characterArrives l value parity stopMark s).retained.ledger.pp (State.characterArrives l value parity stopMark s).purchase (State.characterArrives l value parity stopMark s).payout := by
  simp (maxDischargeDepth := 12) -implicitDefEqProofs [State.characterArrives, h]

@[simp] theorem State.breakArrives_money (l : Line) (s : State) (h : MoneyState s.retained.op s.retained.ledger.k s.retained.ledger.pp s.purchase s.payout) :
    MoneyState (State.breakArrives l s).retained.op (State.breakArrives l s).retained.ledger.k (State.breakArrives l s).retained.ledger.pp (State.breakArrives l s).purchase (State.breakArrives l s).payout := by
  simp (maxDischargeDepth := 12) -implicitDefEqProofs [State.breakArrives, h]

@[simp] theorem State.gapExpires_money (l : Line) (s : State) (h : MoneyState s.retained.op s.retained.ledger.k s.retained.ledger.pp s.purchase s.payout) :
    MoneyState (State.gapExpires l s).retained.op (State.gapExpires l s).retained.ledger.k (State.gapExpires l s).retained.ledger.pp (State.gapExpires l s).purchase (State.gapExpires l s).payout := by
  unfold State.gapExpires
  split <;> simp (maxDischargeDepth := 12) -implicitDefEqProofs [h]

@[simp] theorem State.takeNext_money (s : State) (h : MoneyState s.retained.op s.retained.ledger.k s.retained.ledger.pp s.purchase s.payout) :
    MoneyState (State.takeNext s).retained.op (State.takeNext s).retained.ledger.k (State.takeNext s).retained.ledger.pp (State.takeNext s).purchase (State.takeNext s).payout := by
  unfold State.takeNext
  split <;> simp (maxDischargeDepth := 12) -implicitDefEqProofs [h]

@[simp] theorem State.transmitEnds_money (s : State) (h : MoneyState s.retained.op s.retained.ledger.k s.retained.ledger.pp s.purchase s.payout) :
    MoneyState (State.transmitEnds s).retained.op (State.transmitEnds s).retained.ledger.k (State.transmitEnds s).retained.ledger.pp (State.transmitEnds s).purchase (State.transmitEnds s).payout := by
  unfold State.transmitEnds
  split <;> simp (maxDischargeDepth := 12) -implicitDefEqProofs [h]

@[simp] theorem State.transmit_money (s : State) (h : MoneyState s.retained.op s.retained.ledger.k s.retained.ledger.pp s.purchase s.payout) :
    MoneyState (State.transmit s).retained.op (State.transmit s).retained.ledger.k (State.transmit s).retained.ledger.pp (State.transmit s).purchase (State.transmit s).payout := by
  unfold State.transmit
  split <;> simp (maxDischargeDepth := 12) -implicitDefEqProofs [h]

@[simp] theorem State.silenceExpires_money (s : State) (h : MoneyState s.retained.op s.retained.ledger.k s.retained.ledger.pp s.purchase s.payout) :
    MoneyState (State.silenceExpires s).retained.op (State.silenceExpires s).retained.ledger.k (State.silenceExpires s).retained.ledger.pp (State.silenceExpires s).purchase (State.silenceExpires s).payout := by
  unfold State.silenceExpires
  split <;> simp (maxDischargeDepth := 12) -implicitDefEqProofs [h]

@[simp] theorem State.secondAdvances_money (s : State) (h : MoneyState s.retained.op s.retained.ledger.k s.retained.ledger.pp s.purchase s.payout) :
    MoneyState (State.secondAdvances s).retained.op (State.secondAdvances s).retained.ledger.k (State.secondAdvances s).retained.ledger.pp (State.secondAdvances s).purchase (State.secondAdvances s).payout := by
  unfold State.secondAdvances
  dsimp only
  (repeat' split) <;> simp (maxDischargeDepth := 12) -implicitDefEqProofs [h]

@[simp] theorem State.hundredthAdvances_money (s : State) (h : MoneyState s.retained.op s.retained.ledger.k s.retained.ledger.pp s.purchase s.payout) :
    MoneyState (State.hundredthAdvances s).retained.op (State.hundredthAdvances s).retained.ledger.k (State.hundredthAdvances s).retained.ledger.pp (State.hundredthAdvances s).purchase (State.hundredthAdvances s).payout := by
  unfold State.hundredthAdvances
  (repeat' split) <;> simp (maxDischargeDepth := 12) -implicitDefEqProofs [h]

@[simp] theorem State.oscillatorStops_money (s : State) (h : MoneyState s.retained.op s.retained.ledger.k s.retained.ledger.pp s.purchase s.payout) :
    MoneyState (State.oscillatorStops s).retained.op (State.oscillatorStops s).retained.ledger.k (State.oscillatorStops s).retained.ledger.pp (State.oscillatorStops s).purchase (State.oscillatorStops s).payout := by
  unfold State.oscillatorStops
  split <;> simp (maxDischargeDepth := 12) -implicitDefEqProofs [h]

@[simp] theorem State.timeBaseRuns_money (s : State) (h : MoneyState s.retained.op s.retained.ledger.k s.retained.ledger.pp s.purchase s.payout) :
    MoneyState (State.timeBaseRuns s).retained.op (State.timeBaseRuns s).retained.ledger.k (State.timeBaseRuns s).retained.ledger.pp (State.timeBaseRuns s).purchase (State.timeBaseRuns s).payout := by
  simp (maxDischargeDepth := 12) -implicitDefEqProofs [State.timeBaseRuns, h]

theorem resolveOp_money (r : Retained) (h : r.op = none → r.ledger.k = 0) :
    (resolveOp r).1.op = none ∧ (resolveOp r).1.ledger.k = 0 := by
  unfold resolveOp
  split
  · next e => exact ⟨e, h e⟩
  · split <;> exact ⟨rfl, rfl⟩

theorem resolvePayout_money (r : Retained) :
    (resolvePayout r).1.op = r.op ∧ (resolvePayout r).1.ledger.k = r.ledger.k ∧ (resolvePayout r).1.ledger.pp = 0 := by
  unfold resolvePayout
  split
  · next e => exact ⟨rfl, rfl, e⟩
  · exact ⟨rfl, rfl, rfl⟩

/-- A start leaves no operation and no payout (R101, R173, R174). -/
theorem State.boot_money (cold : Bool) (cause : StartCause) (pins : Pins) (s : State)
    (h : s.retained.op = none → s.retained.ledger.k = 0) : MoneyState (s.boot cold cause pins).retained.op (s.boot cold cause pins).retained.ledger.k (s.boot cold cause pins).retained.ledger.pp (s.boot cold cause pins).purchase (s.boot cold cause pins).payout := by
  have a : (if cold then coldResolve else warmResolve s.retained).retained.op = none ∧
      (if cold then coldResolve else warmResolve s.retained).retained.ledger.k = 0 ∧
      (if cold then coldResolve else warmResolve s.retained).retained.ledger.pp = 0 := by
    cases cold
    · have b := resolveOp_money s.retained h
      have c := resolvePayout_money (resolveOp s.retained).1
      exact ⟨c.1.trans b.1, c.2.1.trans b.2, c.2.2⟩
    · exact ⟨rfl, rfl, rfl⟩
  unfold State.boot
  dsimp only
  generalize (if cold then coldResolve else warmResolve s.retained) = r at a ⊢
  have k : ∀ c : Clock, MoneyState (s.startValues r c pins).retained.op (s.startValues r c pins).retained.ledger.k (s.startValues r c pins).retained.ledger.pp (s.startValues r c pins).purchase (s.startValues r c pins).payout := by
    intro c
    refine MoneyFree.rest ⟨a.1, a.2.1, a.2.2, rfl⟩ ?_ ?_ <;>
      (simp only [State.startValues]; split <;> decide)
  have l : ∀ t : State, MoneyState t.retained.op t.retained.ledger.k t.retained.ledger.pp t.purchase t.payout → MoneyState t.withLows.firstPeriod.retained.op t.withLows.firstPeriod.retained.ledger.k t.withLows.firstPeriod.retained.ledger.pp t.withLows.firstPeriod.purchase t.withLows.firstPeriod.payout := by
    intro t ht
    unfold State.firstPeriod
    split <;> exact ht
  exact l _ (k _)

theorem State.checkedStart_money (cause : StartCause) (pins : Pins) (s : State)
    (h : s.retained.op = none → s.retained.ledger.k = 0) : MoneyState (s.checkedStart cause pins).retained.op (s.checkedStart cause pins).retained.ledger.k (s.checkedStart cause pins).retained.ledger.pp (s.checkedStart cause pins).purchase (s.checkedStart cause pins).payout := by
  unfold State.checkedStart
  split <;> exact State.boot_money _ _ _ _ h

@[simp] theorem State.quiet_money (s : State) (h : MoneyState s.retained.op s.retained.ledger.k s.retained.ledger.pp s.purchase s.payout) :
    MoneyState (State.quiet s).retained.op (State.quiet s).retained.ledger.k (State.quiet s).retained.ledger.pp (State.quiet s).purchase (State.quiet s).payout := by
  simp (maxDischargeDepth := 12) -implicitDefEqProofs [State.quiet, h]

@[simp] theorem State.powerReturns_money (pins : Pins) (s : State) (h : MoneyState s.retained.op s.retained.ledger.k s.retained.ledger.pp s.purchase s.payout) : MoneyState (s.powerReturns pins).retained.op (s.powerReturns pins).retained.ledger.k (s.powerReturns pins).retained.ledger.pp (s.powerReturns pins).purchase (s.powerReturns pins).payout := by
  unfold State.powerReturns
  split
  · exact h
  · dsimp only
    split
    · exact h
    · exact State.checkedStart_money _ _ _ h.committed

@[simp] theorem State.powerFails_money (s : State) (h : MoneyState s.retained.op s.retained.ledger.k s.retained.ledger.pp s.purchase s.payout) :
    MoneyState (State.powerFails s).retained.op (State.powerFails s).retained.ledger.k (State.powerFails s).retained.ledger.pp (State.powerFails s).purchase (State.powerFails s).payout := by
  unfold State.powerFails
  split <;> simp (maxDischargeDepth := 12) -implicitDefEqProofs [h]

@[simp] theorem State.resetHolds_money (s : State) (h : MoneyState s.retained.op s.retained.ledger.k s.retained.ledger.pp s.purchase s.payout) :
    MoneyState (State.resetHolds s).retained.op (State.resetHolds s).retained.ledger.k (State.resetHolds s).retained.ledger.pp (State.resetHolds s).purchase (State.resetHolds s).payout := by
  simp (maxDischargeDepth := 12) -implicitDefEqProofs [State.resetHolds, h]

@[simp] theorem State.resetReleases_money (pins : Pins) (s : State) (h : MoneyState s.retained.op s.retained.ledger.k s.retained.ledger.pp s.purchase s.payout) : MoneyState (s.resetReleases pins).retained.op (s.resetReleases pins).retained.ledger.k (s.resetReleases pins).retained.ledger.pp (s.resetReleases pins).purchase (s.resetReleases pins).payout := by
  unfold State.resetReleases
  split
  · exact h
  · dsimp only
    split
    · exact State.checkedStart_money _ _ _ h.committed
    · exact h

@[simp] theorem State.backupFails_money (s : State) (h : MoneyState s.retained.op s.retained.ledger.k s.retained.ledger.pp s.purchase s.payout) :
    MoneyState (State.backupFails s).retained.op (State.backupFails s).retained.ledger.k (State.backupFails s).retained.ledger.pp (State.backupFails s).purchase (State.backupFails s).payout := by
  unfold State.backupFails
  split <;> simp (maxDischargeDepth := 12) -implicitDefEqProofs [h]

@[simp] theorem State.startAfterReply_money (pins : Pins) (s : State) (h : MoneyState s.retained.op s.retained.ledger.k s.retained.ledger.pp s.purchase s.payout) :
    MoneyState (s.startAfterReply pins).retained.op (s.startAfterReply pins).retained.ledger.k (s.startAfterReply pins).retained.ledger.pp (s.startAfterReply pins).purchase (s.startAfterReply pins).payout := by
  unfold State.startAfterReply
  split
  · exact h
  · exact State.boot_money _ _ _ _ h.committed
  · exact State.boot_money _ _ _ _ h.committed

end Sys2Proof.Machine
end

