-- ==== Sys2Proof/Laws/ChuteRecord.lean ====
section
/-! SUPPORT. The chute record under every operation (R46, R54, R62): the fault kind, the timer and the coin in flight go with the chute
state, and a coin accepted stays within the ceiling kept at its decision. -/

namespace Sys2Proof.Machine

/-! ## The money of the customer (R62) -/

/-- Credit, committed and payout pending may fall, and change as they will where no accepted coin is in flight. -/
theorem ChuteKept.money {c : Chute} {l m : Ledger} (h : ChuteKept c l) (hm : c.state = .accepting → m.customer ≤ l.customer) :
    ChuteKept c m where
  fault := h.fault
  stopped := h.stopped
  runs := h.runs
  idleWait := h.idleWait
  flight := h.flight
  decided := h.decided
  within x a e e' := by
    have h1 := h.within x a e e'
    have h2 := hm ((h.decided x e).1 (by rw [e']; rfl))
    simp only [Ledger.customer] at h2; omega

/-- Two parts of the money put together are at most their sum. -/
theorem Money.add_toNat_le (a b : Money) : (a + b).toNat ≤ a.toNat + b.toNat := by
  rw [BitVec.toNat_add]; exact Nat.mod_le _ _

@[simp] theorem Move.settleSale_customer (l : Ledger) : (Move.settleSale l).customer ≤ l.customer := by
  simp [Move.settleSale, Ledger.customer]
@[simp] theorem Move.settleTopup_customer (b : Money) (l : Ledger) : (Move.settleTopup b l).customer ≤ l.customer := by
  simp [Move.settleTopup, Ledger.customer]
@[simp] theorem Move.settleVoucher_customer (l : Ledger) : (Move.settleVoucher l).customer ≤ l.customer := by
  simp [Move.settleVoucher, Ledger.customer]
@[simp] theorem Move.void_customer (l : Ledger) : (Move.void l).customer ≤ l.customer := by
  have := Money.add_toNat_le l.c l.k
  have z : (0 : Money).toNat = 0 := rfl
  simp only [Move.void, Ledger.customer, z]; omega
@[simp] theorem Move.hold_customer (l : Ledger) : (Move.hold l).customer ≤ l.customer := by
  simp [Move.hold, Ledger.customer]
@[simp] theorem Move.startPayout_customer (l : Ledger) : (Move.startPayout l).customer ≤ l.customer := by
  have := Money.add_toNat_le l.pp l.c
  have z : (0 : Money).toNat = 0 := rfl
  simp only [Move.startPayout, Ledger.customer, z]; omega
@[simp] theorem Move.endPayout_customer (l : Ledger) : (Move.endPayout l).customer ≤ l.customer := by
  have := Money.add_toNat_le l.c l.pp
  have z : (0 : Money).toNat = 0 := rfl
  simp only [Move.endPayout, Ledger.customer, z]; omega
@[simp] theorem Move.paidCoin_customer (v : Money) (l : Ledger) : (Move.paidCoin v l).customer ≤ l.customer := by
  unfold Move.paidCoin; split
  · next h => simp only [Ledger.customer, BitVec.toNat_sub_of_le (show v ≤ l.pp from h)]; omega
  · have z : (0 : Money).toNat = 0 := rfl
    simp only [Ledger.customer, z]; omega
/-- An acceptance of no more than the credit. -/
theorem Move.commit_customer (a : Money) (l : Ledger) (h : a.toNat ≤ l.c.toNat) : (Move.commit a l).customer ≤ l.customer := by
  have := Money.add_toNat_le l.k a
  simp only [Move.commit, Ledger.customer, BitVec.toNat_sub_of_le (show a ≤ l.c from h)]; omega

@[simp] theorem ChuteKept.startPayout {c : Chute} {l : Ledger} (h : ChuteKept c l) : ChuteKept c (Move.startPayout l) :=
  h.money fun _ => Move.startPayout_customer l
@[simp] theorem ChuteKept.endPayout {c : Chute} {l : Ledger} (h : ChuteKept c l) : ChuteKept c (Move.endPayout l) :=
  h.money fun _ => Move.endPayout_customer l
@[simp] theorem ChuteKept.paidCoin {c : Chute} {l : Ledger} (v : Money) (h : ChuteKept c l) : ChuteKept c (Move.paidCoin v l) :=
  h.money fun _ => Move.paidCoin_customer v l
@[simp] theorem ChuteKept.extraCoin {c : Chute} {l : Ledger} (v : Money) (h : ChuteKept c l) : ChuteKept c (Move.extraCoin v l) :=
  h.money fun _ => Nat.le_refl _
@[simp] theorem ChuteKept.writeOff {c : Chute} {l : Ledger} (v : Money) (h : ChuteKept c l) : ChuteKept c (Move.writeOff v l) :=
  h.money fun _ => Nat.le_refl _
@[simp] theorem ChuteKept.clearCounters {c : Chute} {l : Ledger} (h : ChuteKept c l) : ChuteKept c (Move.clearCounters l) :=
  h.money fun _ => Nat.le_refl _

/-! ## The chute record (R46) -/

/-- Without a fault kind outside FAULT. -/
theorem ChuteKept.noFault {c : Chute} {l : Ledger} (h : ChuteKept c l) (hs : c.state ≠ .fault) : c.fault = none := by
  cases e : c.fault with
  | none => rfl
  | some k => exact absurd (h.fault.1 (by rw [e]; rfl)) hs

/-- Without a coin in flight outside ACCEPTING and RETURNING. -/
theorem ChuteKept.noCoin {c : Chute} {l : Ledger} (h : ChuteKept c l) (h1 : c.state ≠ .accepting) (h2 : c.state ≠ .returning) :
    c.coin = none := by
  cases e : c.coin with
  | none => rfl
  | some k => rcases h.flight.1 (by rw [e]; rfl) with a | a
              · exact absurd a h1
              · exact absurd a h2

/-- An idle chute, whatever the money. -/
theorem Chute.idled_kept (c : Chute) (l : Ledger) : ChuteKept c.idled l :=
  ⟨⟨fun e => (by cases e), fun e => (by cases e)⟩, fun _ => rfl, fun e => absurd rfl e, fun _ e => (by cases e),
    ⟨fun e => (by cases e), fun e => (by rcases e with e | e <;> cases e)⟩, fun _ e => (by cases e), fun _ _ e => (by cases e)⟩

/-- All four sensors are idle. -/
theorem allIdle_iff (p : PerSensor Bool) : allIdle p = true ↔ ∀ x, p.get x = false := by
  constructor
  · intro h x; simp only [allIdle, Bool.and_eq_true, Bool.not_eq_true'] at h; cases x <;> simp [PerSensor.get, h]
  · intro h
    have := h .a; have := h .b; have := h .c; have := h .d
    simp_all [allIdle, PerSensor.get]

/-- A chute in FAULT, whatever the money. -/
theorem Chute.faulted_kept (c : Chute) (k : FaultKind) (l : Ledger) : ChuteKept { c with
    state := .fault, fault := some k, coin := none
    timer := if k.selfClears && allIdle c.active then some Config.idleWaitMs else none } l := by
  refine ⟨⟨fun _ => rfl, fun _ => rfl⟩, fun e => (by cases e), fun _ e => absurd rfl e, fun x e => ?_,
    ⟨fun e => (by cases e), fun e => (by rcases e with e | e <;> cases e)⟩, fun _ e => (by cases e), fun _ _ e => (by cases e)⟩
  cases e
  rw [← allIdle_iff]
  dsimp only
  cases k.selfClears <;> cases allIdle c.active <;> decide

/-- A coin passing A and B, the timer running. -/
theorem ChuteKept.passing {c d : Chute} {l : Ledger} (h : ChuteKept c l) (h1 : c.state = .idle ∨ c.state = .onA ∨ c.state = .gap)
    (h2 : d.state = .onA ∨ d.state = .gap ∨ d.state = .onB) (hf : d.fault = c.fault) (hc : d.coin = c.coin)
    (ht : d.timer.isSome = true) : ChuteKept d l := by
  have a : c.fault = none := h.noFault (by rcases h1 with e | e | e <;> rw [e] <;> decide)
  have b : c.coin = none := h.noCoin (by rcases h1 with e | e | e <;> rw [e] <;> decide) (by rcases h1 with e | e | e <;> rw [e] <;> decide)
  refine ⟨?_, ?_, fun _ _ => ht, ?_, ?_, ?_, ?_⟩
  · rw [hf, a]; rcases h2 with e | e | e <;> rw [e] <;> decide
  · rcases h2 with e | e | e <;> rw [e] <;> (intro h; cases h)
  · rw [hf, a]; intro _ e; cases e
  · rw [hc, b]; rcases h2 with e | e | e <;> rw [e] <;> decide
  · rw [hc, b]; intro _ e; cases e
  · rw [hc, b]; intro _ _ e; cases e

/-- A coin returned (R61). -/
theorem Chute.returning_kept (c : Chute) (t : Nat) (r : CoinResult) (m : Measurement) (l : Ledger) (hf : c.fault = none) :
    ChuteKept { c with state := .returning, timer := some t, coin := some ⟨r, none⟩, last := some m } l := by
  refine ⟨?_, fun e => (by cases e), fun _ _ => rfl, ?_, ⟨fun _ => .inr rfl, fun _ => rfl⟩, ?_, ?_⟩
  · dsimp only; rw [hf]; decide
  · dsimp only; rw [hf]; intro _ e; cases e
  · intro x e; cases e; exact ⟨fun e => (by cases e), fun e => (by cases e)⟩
  · intro x a e; cases e; intro e; cases e

/-- A coin accepted within the ceiling (R59, R61). -/
theorem Chute.accepting_kept (c : Chute) (t : Nat) (r : CoinResult) (a : AcceptedCoin) (m : Measurement) (l : Ledger)
    (hf : c.fault = none) (hw : l.customer + a.value ≤ a.ceiling) :
    ChuteKept { c with state := .accepting, timer := some t, coin := some ⟨r, some a⟩, last := some m } l := by
  refine ⟨?_, fun e => (by cases e), fun _ _ => rfl, ?_, ⟨fun _ => .inl rfl, fun _ => rfl⟩, ?_, ?_⟩
  · dsimp only; rw [hf]; decide
  · dsimp only; rw [hf]; intro _ e; cases e
  · intro x e; cases e; exact ⟨fun _ => rfl, fun _ => rfl⟩
  · intro x b e; cases e; intro e; cases e; exact hw

/-- The capture counts leave the rest of the record. -/
theorem Chute.advance_frame (n : Nat) (c : Chute) : c.advance n = { c with
    wA := (c.advance n).wA, fAB := (c.advance n).fAB, wB := (c.advance n).wB } := by
  unfold Chute.advance; split <;> rfl

/-- An edge outside FAULT, before what it does. -/
theorem ChuteKept.edge {c : Chute} {l : Ledger} (h : ChuteKept c l) (hs : c.state ≠ .fault) (n : Nat) (p : PerSensor Bool) :
    ChuteKept { c.advance n with active := p } l := by
  have hf := h.noFault hs
  rw [Chute.advance_frame]
  exact ⟨h.fault, h.stopped, h.runs, fun _ e => absurd (hf.symm.trans e) (by intro e; cases e), h.flight, h.decided, h.within⟩

/-- An edge in FAULT with the idle wait as it then stands (R54). -/
theorem ChuteKept.waits {c : Chute} {l : Ledger} (h : ChuteKept c l) (hs : c.state = .fault) (n : Nat) (p : PerSensor Bool)
    (t : Option Nat) (ht : ∀ k, c.fault = some k → (t.isSome = true ↔ k.selfClears = true ∧ ∀ x, p.get x = false)) :
    ChuteKept { c.advance n with active := p, timer := t } l := by
  rw [Chute.advance_frame]
  exact ⟨h.fault, fun e => absurd (hs.symm.trans e) (by decide), fun _ e => absurd hs e, ht, h.flight, h.decided, h.within⟩

/-! ## Every operation -/

@[simp] theorem State.issueFree_kept (r : Report) (s : State) (h : ChuteKept s.chute s.retained.ledger) :
    ChuteKept (State.issueFree r s).chute (State.issueFree r s).retained.ledger := by
  unfold State.issueFree
  split <;> simp (maxDischargeDepth := 12) -implicitDefEqProofs [h]

@[simp] theorem State.issueReserved_kept (r : Report) (s : State) (h : ChuteKept s.chute s.retained.ledger) :
    ChuteKept (State.issueReserved r s).chute (State.issueReserved r s).retained.ledger := by
  unfold State.issueReserved
  split <;> simp (maxDischargeDepth := 12) -implicitDefEqProofs [h]

@[simp] theorem State.entryTest_kept (s : State) (h : ChuteKept s.chute s.retained.ledger) :
    ChuteKept (State.entryTest s).chute (State.entryTest s).retained.ledger := by
  unfold State.entryTest
  split <;> simp (maxDischargeDepth := 12) -implicitDefEqProofs [h]

@[simp] theorem State.tubesChanged_kept (s : State) (before : State) (h : ChuteKept s.chute s.retained.ledger) :
    ChuteKept (State.tubesChanged s before).chute (State.tubesChanged s before).retained.ledger := by
  unfold State.tubesChanged
  split <;> simp (maxDischargeDepth := 12) -implicitDefEqProofs [h]

@[simp] theorem State.enterFault_kept (k : FaultKind) (s : State) : ChuteKept (s.enterFault k).chute (s.enterFault k).retained.ledger := by
  unfold State.enterFault
  exact State.entryTest_kept _ (Chute.faulted_kept s.chute k s.retained.ledger)

@[simp] theorem State.coilFault_kept (failed : PerCoil Bool) (s : State) : ChuteKept (s.coilFault failed).chute (s.coilFault failed).retained.ledger :=
  State.enterFault_kept _ _

@[simp] theorem State.pwmPeriod_kept (sense : PerCoil Sense) (s : State) (h : ChuteKept s.chute s.retained.ledger) :
    ChuteKept (State.pwmPeriod sense s).chute (State.pwmPeriod sense s).retained.ledger := by
  unfold State.pwmPeriod
  dsimp only
  (repeat' split) <;> simp (maxDischargeDepth := 12) -implicitDefEqProofs [h]

@[simp] theorem State.pullInCheck_kept (ends : PerCoil Bool) (sense : PerCoil Sense) (s : State) (h : ChuteKept s.chute s.retained.ledger) :
    ChuteKept (State.pullInCheck ends sense s).chute (State.pullInCheck ends sense s).retained.ledger := by
  unfold State.pullInCheck
  dsimp only
  (repeat' split) <;> simp (maxDischargeDepth := 12) -implicitDefEqProofs [h]

@[simp] theorem State.diverterChangeover_kept (s : State) (h : ChuteKept s.chute s.retained.ledger) :
    ChuteKept (State.diverterChangeover s).chute (State.diverterChangeover s).retained.ledger := by
  unfold State.diverterChangeover
  split <;> simp (maxDischargeDepth := 12) -implicitDefEqProofs [h]

@[simp] theorem State.serveLoad_kept (kind : TableKind) (generation index total check count : Nat) (bytes : List Byte) (s : State) (h : ChuteKept s.chute s.retained.ledger) :
    ChuteKept (State.serveLoad kind generation index total check count bytes s).chute (State.serveLoad kind generation index total check count bytes s).retained.ledger := by
  unfold State.serveLoad
  dsimp only
  (repeat' split) <;> simp (maxDischargeDepth := 12) -implicitDefEqProofs [h]

@[simp] theorem State.serveDiscard_kept (kind : TableKind) (s : State) (h : ChuteKept s.chute s.retained.ledger) :
    ChuteKept (State.serveDiscard kind s).chute (State.serveDiscard kind s).retained.ledger := by
  unfold State.serveDiscard
  dsimp only
  (repeat' split) <;> simp (maxDischargeDepth := 12) -implicitDefEqProofs [h]

@[simp] theorem State.afterActivation_kept (kind : TableKind) (before : State) (s : State) (h : ChuteKept s.chute s.retained.ledger) :
    ChuteKept (State.afterActivation kind before s).chute (State.afterActivation kind before s).retained.ledger := by
  unfold State.afterActivation
  dsimp only
  (repeat' split) <;> simp (maxDischargeDepth := 12) -implicitDefEqProofs [h]

@[simp] theorem State.takeActivation_kept (kind : TableKind) (waited : Bool) (s : State) (h : ChuteKept s.chute s.retained.ledger) :
    ChuteKept (State.takeActivation kind waited s).chute (State.takeActivation kind waited s).retained.ledger := by
  simp (maxDischargeDepth := 12) -implicitDefEqProofs [State.takeActivation, h]

@[simp] theorem State.fallDue_kept (kind : TableKind) (s : State) (h : ChuteKept s.chute s.retained.ledger) :
    ChuteKept (State.fallDue kind s).chute (State.fallDue kind s).retained.ledger := by
  unfold State.fallDue
  dsimp only
  (repeat' split) <;> simp (maxDischargeDepth := 12) -implicitDefEqProofs [h]

@[simp] theorem State.takeWaiting_kept (kind : TableKind) (s : State) (h : ChuteKept s.chute s.retained.ledger) :
    ChuteKept (State.takeWaiting kind s).chute (State.takeWaiting kind s).retained.ledger := by
  unfold State.takeWaiting
  dsimp only
  (repeat' split) <;> simp (maxDischargeDepth := 12) -implicitDefEqProofs [h]

@[simp] theorem State.testSchedules_kept (s : State) (h : ChuteKept s.chute s.retained.ledger) : ChuteKept s.testSchedules.2.chute s.testSchedules.2.retained.ledger :=
  State.testSchedules_keeps (fun t => ChuteKept t.chute t.retained.ledger) (fun k t ht => State.fallDue_kept k t ht) s h

@[simp] theorem State.serveActivate_kept (kind : TableKind) (generation : Word16) (due : Due) (s : State) (h : ChuteKept s.chute s.retained.ledger) :
    ChuteKept (State.serveActivate kind generation due s).chute (State.serveActivate kind generation due s).retained.ledger := by
  unfold State.serveActivate
  dsimp only
  (repeat' split) <;> simp (maxDischargeDepth := 12) -implicitDefEqProofs [h]

theorem State.returnCoin_kept (m : Measurement) (s : State) (hf : s.chute.fault = none) : ChuteKept (s.returnCoin m).chute (s.returnCoin m).retained.ledger := by
  unfold State.returnCoin
  dsimp only
  refine State.entryTest_kept _ ?_
  split <;> exact Chute.returning_kept _ _ _ _ _ hf

theorem State.acceptCoin_kept (a : AcceptedCoin) (m : Measurement) (s : State) (hf : s.chute.fault = none)
    (hw : s.retained.ledger.customer + a.value ≤ a.ceiling) : ChuteKept (s.acceptCoin a m).chute (s.acceptCoin a m).retained.ledger := by
  unfold State.acceptCoin
  exact State.entryTest_kept _ (Chute.accepting_kept _ _ _ _ _ _ hf hw)

/-- An accepted coin is within the ceiling it keeps (R59). -/
theorem State.acceptance_within {s : State} {r : CoinResult} {a : AcceptedCoin} (h : s.acceptance r = some a) :
    s.retained.ledger.customer + a.value ≤ a.ceiling := by
  unfold State.acceptance at h
  split at h
  · split at h
    · next hw => cases h; exact hw.1
    · cases h
  · cases h

theorem State.decideCoin_kept (s : State) (hf : s.chute.fault = none) : ChuteKept s.decideCoin.chute s.decideCoin.retained.ledger := by
  unfold State.decideCoin
  dsimp only
  split
  · next a e => exact State.acceptCoin_kept _ _ _ hf (State.acceptance_within e)
  · exact State.returnCoin_kept _ _ hf

/-- The chute becomes IDLE, whatever it was. -/
@[simp] theorem State.chuteToIdle_kept (s : State) : ChuteKept s.chuteToIdle.chute s.chuteToIdle.retained.ledger := by
  unfold State.chuteToIdle
  exact State.entryTest_kept _ (State.takeWaiting_kept _ _ (Chute.idled_kept s.chute s.retained.ledger))

@[simp] theorem State.coinAtC_kept (s : State) : ChuteKept s.coinAtC.chute s.coinAtC.retained.ledger := State.chuteToIdle_kept _

theorem State.coinBegins_kept (s : State) (h : ChuteKept s.chute s.retained.ledger) (hs : s.chute.state = .idle) : ChuteKept s.coinBegins.chute s.coinBegins.retained.ledger := by
  unfold State.coinBegins
  exact State.entryTest_kept _ (h.passing (.inl hs) (.inl rfl) rfl rfl rfl)

theorem State.riseIn_kept (s : State) (c : ChuteState) (x : Sensor) (h : ChuteKept s.chute s.retained.ledger) (hc : s.chute.state = c) (hs : c ≠ .fault) :
    ChuteKept (s.riseIn c x).chute (s.riseIn c x).retained.ledger := by
  unfold State.riseIn
  split
  all_goals first
    | with_reducible exact h
    | with_reducible exact State.enterFault_kept _ _
    | with_reducible exact State.coinAtC_kept _
    | with_reducible exact State.chuteToIdle_kept _
    | (with_reducible exact State.coinBegins_kept _ h hc)
    | exact absurd rfl hs
    | exact h.passing (.inr (.inr hc)) (.inr (.inr rfl)) rfl rfl rfl

@[simp] theorem State.sensorRise_kept (x : Sensor) (ticks : Nat) (s : State) (h : ChuteKept s.chute s.retained.ledger) : ChuteKept (s.sensorRise x ticks).chute (s.sensorRise x ticks).retained.ledger := by
  unfold State.sensorRise
  split
  · exact h
  · by_cases hs : s.chute.state = .fault
    · have e : ∀ t : State, t.riseIn .fault x = t.onChute fun c => { c with timer := none } := by intro t; cases x <;> rfl
      rw [hs, e]
      refine h.waits hs ticks _ none fun k _ => ⟨fun e => (by cases e), fun e => ?_⟩
      have := e.2 x; cases x <;> cases this
    · exact State.riseIn_kept _ _ _ (h.edge hs ticks _) (by simp) hs

theorem State.fallIn_kept (s : State) (c : ChuteState) (x : Sensor) (h : ChuteKept s.chute s.retained.ledger) (hc : s.chute.state = c) (hs : c ≠ .fault) :
    ChuteKept (s.fallIn c x).chute (s.fallIn c x).retained.ledger := by
  unfold State.fallIn
  split
  all_goals first
    | exact h
    | exact State.decideCoin_kept _ (h.noFault (by rw [hc]; decide))
    | exact absurd rfl hs
    | exact h.passing (.inr (.inl hc)) (.inr (.inl rfl)) rfl rfl rfl

@[simp] theorem State.sensorFall_kept (x : Sensor) (ticks : Nat) (s : State) (h : ChuteKept s.chute s.retained.ledger) : ChuteKept (s.sensorFall x ticks).chute (s.sensorFall x ticks).retained.ledger := by
  unfold State.sensorFall
  split
  · next hx =>
    by_cases hs : s.chute.state = .fault
    · have e : ∀ t : State, t.fallIn .fault x = t.onChute Chute.startWait := by intro t; cases x <;> rfl
      rw [hs, e]
      have key : ∀ c : Chute, c.startWait = { c with timer := c.startWait.timer } := by
        intro c; unfold Chute.startWait; (repeat' split) <;> rfl
      have w := fun t ht => h.waits hs ticks (s.chute.active.set false x) t ht
      show ChuteKept (Chute.startWait { s.chute.advance ticks with active := s.chute.active.set false x }) s.retained.ledger
      rw [key]
      refine w _ fun k hk => ?_
      have hk' : (s.chute.advance ticks).fault = some k := by rw [Chute.advance_frame]; exact hk
      have ht : s.chute.timer = none := by
        cases et : s.chute.timer with
        | none => rfl
        | some n => exact absurd (((h.idleWait k hk).1 (by rw [et]; rfl)).2 x) (by rw [hx]; decide)
      have ht' : (s.chute.advance ticks).timer = none := by rw [Chute.advance_frame]; exact ht
      rw [← allIdle_iff]
      unfold Chute.startWait
      dsimp only
      rw [hk']
      dsimp only
      split
      · next e => simp only [Bool.and_eq_true] at e; simp [e]
      · next e => simp only [Bool.and_eq_true] at e; simp [ht', e]
    · exact State.fallIn_kept _ _ _ (h.edge hs ticks _) (by simp) hs
  · exact h

@[simp] theorem State.aLimitPasses_kept (s : State) (h : ChuteKept s.chute s.retained.ledger) :
    ChuteKept (State.aLimitPasses s).chute (State.aLimitPasses s).retained.ledger := by
  unfold State.aLimitPasses
  split <;> simp (maxDischargeDepth := 12) -implicitDefEqProofs [h]

@[simp] theorem State.gapLimitPasses_kept (s : State) (h : ChuteKept s.chute s.retained.ledger) : ChuteKept s.gapLimitPasses.chute s.gapLimitPasses.retained.ledger := by
  unfold State.gapLimitPasses
  split
  · next e => exact State.returnCoin_kept _ _ (h.noFault (by rw [e]; decide))
  all_goals exact h

@[simp] theorem State.acceptWaitPasses_kept (s : State) (h : ChuteKept s.chute s.retained.ledger) :
    ChuteKept (State.acceptWaitPasses s).chute (State.acceptWaitPasses s).retained.ledger := by
  unfold State.acceptWaitPasses
  split <;> simp (maxDischargeDepth := 12) -implicitDefEqProofs [h]

@[simp] theorem State.returnWaitPasses_kept (s : State) (h : ChuteKept s.chute s.retained.ledger) :
    ChuteKept (State.returnWaitPasses s).chute (State.returnWaitPasses s).retained.ledger := by
  unfold State.returnWaitPasses
  split <;> simp (maxDischargeDepth := 12) -implicitDefEqProofs [h]

@[simp] theorem State.faultClears_kept (s : State) : ChuteKept s.faultClears.chute s.faultClears.retained.ledger := State.chuteToIdle_kept s

@[simp] theorem State.idleWaitPasses_kept (s : State) (h : ChuteKept s.chute s.retained.ledger) : ChuteKept s.idleWaitPasses.chute s.idleWaitPasses.retained.ledger := by
  unfold State.idleWaitPasses
  split
  · exact State.faultClears_kept _
  · exact h

@[simp] theorem State.serveChuteClear_kept (s : State) (h : ChuteKept s.chute s.retained.ledger) : ChuteKept s.serveChuteClear.chute s.serveChuteClear.retained.ledger := by
  unfold State.serveChuteClear
  split
  · split
    · exact State.faultClears_kept _
    · exact h
  · exact h

@[simp] theorem State.endPayout_kept (s : State) (h : ChuteKept s.chute s.retained.ledger) :
    ChuteKept (State.endPayout s).chute (State.endPayout s).retained.ledger := by
  unfold State.endPayout
  split <;> simp (maxDischargeDepth := 12) -implicitDefEqProofs [h]

@[simp] theorem State.startEntry_kept (s : State) (h : ChuteKept s.chute s.retained.ledger) :
    ChuteKept (State.startEntry s).chute (State.startEntry s).retained.ledger := by
  unfold State.startEntry
  (repeat' split) <;> simp (maxDischargeDepth := 12) -implicitDefEqProofs [h]

@[simp] theorem State.runPlan_kept (entries : List PlanEntry) (s : State) (h : ChuteKept s.chute s.retained.ledger) :
    ChuteKept (State.runPlan entries s).chute (State.runPlan entries s).retained.ledger := by
  unfold State.runPlan
  (repeat' split) <;> simp (maxDischargeDepth := 12) -implicitDefEqProofs [h]

@[simp] theorem State.startPayout_kept (cause : PayoutCause) (s : State) (h : ChuteKept s.chute s.retained.ledger) :
    ChuteKept (State.startPayout cause s).chute (State.startPayout cause s).retained.ledger := by
  simp (maxDischargeDepth := 12) -implicitDefEqProofs [State.startPayout, h]

@[simp] theorem State.entryDone_kept (s : State) (h : ChuteKept s.chute s.retained.ledger) :
    ChuteKept (State.entryDone s).chute (State.entryDone s).retained.ledger := by
  unfold State.entryDone
  (repeat' split) <;> simp (maxDischargeDepth := 12) -implicitDefEqProofs [h]

@[simp] theorem State.paidCoin_kept (i : Fin 4) (s : State) (h : ChuteKept s.chute s.retained.ledger) :
    ChuteKept (State.paidCoin i s).chute (State.paidCoin i s).retained.ledger := by
  unfold State.paidCoin
  dsimp only
  (repeat' split) <;> simp (maxDischargeDepth := 12) -implicitDefEqProofs [h]

@[simp] theorem State.extraCoin_kept (i : Fin 4) (s : State) (h : ChuteKept s.chute s.retained.ledger) :
    ChuteKept (State.extraCoin i s).chute (State.extraCoin i s).retained.ledger := by
  simp (maxDischargeDepth := 12) -implicitDefEqProofs [State.extraCoin, h]

@[simp] theorem State.exitPulse_kept (i : Fin 4) (s : State) (h : ChuteKept s.chute s.retained.ledger) :
    ChuteKept (State.exitPulse i s).chute (State.exitPulse i s).retained.ledger := by
  unfold State.exitPulse
  split <;> simp (maxDischargeDepth := 12) -implicitDefEqProofs [h]

@[simp] theorem State.jam_kept (i : Fin 4) (s : State) (h : ChuteKept s.chute s.retained.ledger) :
    ChuteKept (State.jam i s).chute (State.jam i s).retained.ledger := by
  simp (maxDischargeDepth := 12) -implicitDefEqProofs [State.jam, h]

@[simp] theorem State.afterJam_kept (s : State) (h : ChuteKept s.chute s.retained.ledger) :
    ChuteKept (State.afterJam s).chute (State.afterJam s).retained.ledger := by
  unfold State.afterJam
  (repeat' split) <;> simp (maxDischargeDepth := 12) -implicitDefEqProofs [h]

@[simp] theorem State.jamTimeout_kept (i : Fin 4) (s : State) (h : ChuteKept s.chute s.retained.ledger) :
    ChuteKept (State.jamTimeout i s).chute (State.jamTimeout i s).retained.ledger := by
  unfold State.jamTimeout
  split <;> simp (maxDischargeDepth := 12) -implicitDefEqProofs [h]

@[simp] theorem State.trailingEnds_kept (i : Fin 4) (s : State) (h : ChuteKept s.chute s.retained.ledger) :
    ChuteKept (State.trailingEnds i s).chute (State.trailingEnds i s).retained.ledger := by
  unfold State.trailingEnds
  split <;> simp (maxDischargeDepth := 12) -implicitDefEqProofs [h]

@[simp] theorem State.doorChange_kept (isOpen : Bool) (s : State) (h : ChuteKept s.chute s.retained.ledger) :
    ChuteKept (State.doorChange isOpen s).chute (State.doorChange isOpen s).retained.ledger := by
  unfold State.doorChange
  split <;> simp (maxDischargeDepth := 12) -implicitDefEqProofs [h]

@[simp] theorem State.leverPress_kept (s : State) (h : ChuteKept s.chute s.retained.ledger) :
    ChuteKept (State.leverPress s).chute (State.leverPress s).retained.ledger := by
  unfold State.leverPress
  split <;> simp (maxDischargeDepth := 12) -implicitDefEqProofs [h]

theorem State.acceptOp_kept (o : OpRecord) (n : Nat) (s : State) (ho : o.amount.toNat ≤ s.retained.ledger.c.toNat)
    (h : ChuteKept s.chute s.retained.ledger) : ChuteKept (s.acceptOp o n).chute (s.acceptOp o n).retained.ledger := h.money fun _ => Move.commit_customer _ _ ho

@[simp] theorem State.endOp_kept (move : Ledger → Ledger) (report : Report) (s : State) (hm : ∀ l, (move l).customer ≤ l.customer)
    (h : ChuteKept s.chute s.retained.ledger) : ChuteKept (s.endOp move report).chute (s.endOp move report).retained.ledger := by
  have a : ChuteKept ((s.onLedger move).issueReserved report).chute ((s.onLedger move).issueReserved report).retained.ledger := State.issueReserved_kept _ _ (h.money fun _ => hm _)
  exact a

@[simp] theorem State.comeToRest_kept (s : State) (h : ChuteKept s.chute s.retained.ledger) :
    ChuteKept (State.comeToRest s).chute (State.comeToRest s).retained.ledger := by
  simp (maxDischargeDepth := 12) -implicitDefEqProofs [State.comeToRest, h]

@[simp] theorem State.afterSale_kept (o : OpRecord) (void : Bool) (s : State) (h : ChuteKept s.chute s.retained.ledger) :
    ChuteKept (State.afterSale o void s).chute (State.afterSale o void s).retained.ledger := by
  unfold State.afterSale
  split <;> simp (maxDischargeDepth := 12) -implicitDefEqProofs [h]

@[simp] theorem State.ticketEnds_kept (failure : Option VoidCause) (s : State) (h : ChuteKept s.chute s.retained.ledger) :
    ChuteKept (State.ticketEnds failure s).chute (State.ticketEnds failure s).retained.ledger := by
  unfold State.ticketEnds
  (repeat' split) <;> simp (maxDischargeDepth := 12) -implicitDefEqProofs [h]

@[simp] theorem State.voucherEnds_kept (failure : Option VoidCause) (s : State) (h : ChuteKept s.chute s.retained.ledger) :
    ChuteKept (State.voucherEnds failure s).chute (State.voucherEnds failure s).retained.ledger := by
  unfold State.voucherEnds
  (repeat' split) <;> simp (maxDischargeDepth := 12) -implicitDefEqProofs [h]

@[simp] theorem State.serveCancel_kept (s : State) (h : ChuteKept s.chute s.retained.ledger) :
    ChuteKept (State.serveCancel s).chute (State.serveCancel s).retained.ledger := by
  unfold State.serveCancel
  (repeat' split) <;> simp (maxDischargeDepth := 12) -implicitDefEqProofs [h]

@[simp] theorem State.serveTube_kept (tube count : Nat) (s : State) (h : ChuteKept s.chute s.retained.ledger) :
    ChuteKept (State.serveTube tube count s).chute (State.serveTube tube count s).retained.ledger := by
  unfold State.serveTube
  dsimp only
  (repeat' split) <;> simp (maxDischargeDepth := 12) -implicitDefEqProofs [h]

@[simp] theorem State.serveClearTotals_kept (s : State) (h : ChuteKept s.chute s.retained.ledger) :
    ChuteKept (State.serveClearTotals s).chute (State.serveClearTotals s).retained.ledger := by
  unfold State.serveClearTotals
  (repeat' split) <;> simp (maxDischargeDepth := 12) -implicitDefEqProofs [h]

@[simp] theorem State.printDuty_kept (s : State) (h : ChuteKept s.chute s.retained.ledger) :
    ChuteKept (State.printDuty s).chute (State.printDuty s).retained.ledger := by
  unfold State.printDuty
  split <;> simp (maxDischargeDepth := 12) -implicitDefEqProofs [h]

@[simp] theorem State.startJob_kept (kind : JobKind) (txn template : Nat) (v : FieldValues) (s : State) (h : ChuteKept s.chute s.retained.ledger) :
    ChuteKept (State.startJob kind txn template v s).chute (State.startJob kind txn template v s).retained.ledger := by
  simp (maxDischargeDepth := 12) -implicitDefEqProofs [State.startJob, h]

@[simp] theorem State.receiptEnds_kept (txn : Nat) (failure : Option VoidCause) (s : State) (h : ChuteKept s.chute s.retained.ledger) :
    ChuteKept (State.receiptEnds txn failure s).chute (State.receiptEnds txn failure s).retained.ledger := by
  simp (maxDischargeDepth := 12) -implicitDefEqProofs [State.receiptEnds, h]

@[simp] theorem State.tellOwner_kept (j : Job) (failure : Option VoidCause) (s : State) (h : ChuteKept s.chute s.retained.ledger) :
    ChuteKept (State.tellOwner j failure s).chute (State.tellOwner j failure s).retained.ledger := by
  unfold State.tellOwner
  split <;> simp (maxDischargeDepth := 12) -implicitDefEqProofs [h]

@[simp] theorem State.jobEnds_kept (failure : Option VoidCause) (s : State) (h : ChuteKept s.chute s.retained.ledger) :
    ChuteKept (State.jobEnds failure s).chute (State.jobEnds failure s).retained.ledger := by
  unfold State.jobEnds
  split <;> simp (maxDischargeDepth := 12) -implicitDefEqProofs [h]

@[simp] theorem State.cutTimeout_kept (s : State) (h : ChuteKept s.chute s.retained.ledger) :
    ChuteKept (State.cutTimeout s).chute (State.cutTimeout s).retained.ledger := by
  unfold State.cutTimeout
  (repeat' split) <;> simp (maxDischargeDepth := 12) -implicitDefEqProofs [h]

@[simp] theorem State.roomAskDelay_kept (s : State) (h : ChuteKept s.chute s.retained.ledger) :
    ChuteKept (State.roomAskDelay s).chute (State.roomAskDelay s).retained.ledger := by
  unfold State.roomAskDelay
  split <;> simp (maxDischargeDepth := 12) -implicitDefEqProofs [h]

@[simp] theorem State.takeState_kept (paper : Paper) (head : Head) (fault : PrinterFault) (s : State) (h : ChuteKept s.chute s.retained.ledger) :
    ChuteKept (State.takeState paper head fault s).chute (State.takeState paper head fault s).retained.ledger := by
  unfold State.takeState
  dsimp only
  (repeat' split) <;> simp (maxDischargeDepth := 12) -implicitDefEqProofs [h]

@[simp] theorem State.takeCutDone_kept (tag : Nat) (s : State) (h : ChuteKept s.chute s.retained.ledger) :
    ChuteKept (State.takeCutDone tag s).chute (State.takeCutDone tag s).retained.ledger := by
  unfold State.takeCutDone
  (repeat' split) <;> simp (maxDischargeDepth := 12) -implicitDefEqProofs [h]

@[simp] theorem State.takeNotice_kept (s : State) (n : Notice) (h : ChuteKept s.chute s.retained.ledger) : ChuteKept (s.takeNotice n).chute (s.takeNotice n).retained.ledger := by
  unfold State.takeNotice; split <;> simp (maxDischargeDepth := 12) -implicitDefEqProofs [h]

@[simp] theorem State.takeNotices_kept (kind : Byte) (payload : List Byte) (s : State) (h : ChuteKept s.chute s.retained.ledger) :
    ChuteKept (s.takeNotices kind payload).chute (s.takeNotices kind payload).retained.ledger :=
  State.takeNotices_keeps (fun t => ChuteKept t.chute t.retained.ledger) (fun n t ht => State.takeNotice_kept t n ht) kind payload s h

@[simp] theorem State.lineOutcome_kept (tag : Nat) (valid : Bool) (s : State) (h : ChuteKept s.chute s.retained.ledger) :
    ChuteKept (State.lineOutcome tag valid s).chute (State.lineOutcome tag valid s).retained.ledger := by
  simp (maxDischargeDepth := 12) -implicitDefEqProofs [State.lineOutcome, h]

@[simp] theorem State.cutOutcome_kept (tag : Nat) (valid : Bool) (s : State) (h : ChuteKept s.chute s.retained.ledger) :
    ChuteKept (State.cutOutcome tag valid s).chute (State.cutOutcome tag valid s).retained.ledger := by
  simp (maxDischargeDepth := 12) -implicitDefEqProofs [State.cutOutcome, h]

@[simp] theorem State.askOutcome_kept (forRoom valid : Bool) (s : State) (h : ChuteKept s.chute s.retained.ledger) :
    ChuteKept (State.askOutcome forRoom valid s).chute (State.askOutcome forRoom valid s).retained.ledger := by
  simp (maxDischargeDepth := 12) -implicitDefEqProofs [State.askOutcome, h]

@[simp] theorem State.printerAbsent_kept (s : State) (h : ChuteKept s.chute s.retained.ledger) :
    ChuteKept (State.printerAbsent s).chute (State.printerAbsent s).retained.ledger := by
  simp (maxDischargeDepth := 12) -implicitDefEqProofs [State.printerAbsent, h]

@[simp] theorem State.serveVoucher_kept (s : State) (h : ChuteKept s.chute s.retained.ledger) : ChuteKept s.serveVoucher.chute s.serveVoucher.retained.ledger := by
  unfold State.serveVoucher
  split
  · exact h
  · exact State.entryTest_kept _ (State.startJob_kept _ _ _ _ _ (State.acceptOp_kept _ _ _ (Nat.le_refl _) h))

@[simp] theorem State.serveReprint_kept (s : State) (h : ChuteKept s.chute s.retained.ledger) :
    ChuteKept (State.serveReprint s).chute (State.serveReprint s).retained.ledger := by
  unfold State.serveReprint
  (repeat' split) <;> simp (maxDischargeDepth := 12) -implicitDefEqProofs [h]

theorem State.carryOut_kept (r : JournalRecord) (o : Resolution) (s : State) (hs : s.chute.state ≠ .accepting) (h : ChuteKept s.chute s.retained.ledger) :
    ChuteKept (s.carryOut r o).chute (s.carryOut r o).retained.ledger :=
  State.issueFree_kept _ _ (h.money fun e => absurd e hs)

theorem State.resolve_kept (p : Presentation) (s : State) (hs : s.chute.state ≠ .accepting) (h : ChuteKept s.chute s.retained.ledger) :
    ChuteKept (s.resolve p).chute (s.resolve p).retained.ledger := by
  unfold State.resolve; split
  · exact h
  · exact State.carryOut_kept _ _ _ hs h

theorem State.bindCard_kept (p : Presentation) (s : State) (hs : s.chute.state ≠ .accepting) (h : ChuteKept s.chute s.retained.ledger) :
    ChuteKept (s.bindCard p).chute (s.bindCard p).retained.ledger := by
  have h' := State.resolve_kept p s hs h
  unfold State.bindCard
  dsimp only
  refine State.entryTest_kept _ ?_
  generalize s.resolve p = t at h' ⊢
  split
  · split <;> exact h'
  · split <;> exact h'

@[simp] theorem State.unbind_kept (s : State) (h : ChuteKept s.chute s.retained.ledger) :
    ChuteKept (State.unbind s).chute (State.unbind s).retained.ledger := by
  simp (maxDischargeDepth := 12) -implicitDefEqProofs [State.unbind, h]

@[simp] theorem State.afterUnbind_kept (s : State) (h : ChuteKept s.chute s.retained.ledger) :
    ChuteKept (State.afterUnbind s).chute (State.afterUnbind s).retained.ledger := by
  unfold State.afterUnbind
  dsimp only
  (repeat' split) <;> simp (maxDischargeDepth := 12) -implicitDefEqProofs [h]

@[simp] theorem State.cardLeaves_kept (s : State) (h : ChuteKept s.chute s.retained.ledger) :
    ChuteKept (State.cardLeaves s).chute (State.cardLeaves s).retained.ledger := by
  unfold State.cardLeaves
  (repeat' split) <;> simp (maxDischargeDepth := 12) -implicitDefEqProofs [h]

@[simp] theorem State.takeSeen_kept (p : Presentation) (s : State) (h : ChuteKept s.chute s.retained.ledger) : ChuteKept (s.takeSeen p).chute (s.takeSeen p).retained.ledger := by
  unfold State.takeSeen
  split
  · split
    · exact h
    · exact State.cardLeaves_kept _ h
  · split
    · next e =>
      refine State.bindCard_kept _ _ ?_ h
      simp only [State.actsOn, Bool.and_eq_true, bne_iff_ne] at e
      exact e.1.2
    · exact h

@[simp] theorem State.startWrite_kept (o : OpRecord) (b : Binding) (w : Written) (s : State) (h : ChuteKept s.chute s.retained.ledger) :
    ChuteKept (State.startWrite o b w s).chute (State.startWrite o b w s).retained.ledger := by
  simp (maxDischargeDepth := 12) -implicitDefEqProofs [State.startWrite, h]

@[simp] theorem State.handReceipt_kept (o : OpRecord) (w : CardWrite) (newBalance : Nat) (s : State) (h : ChuteKept s.chute s.retained.ledger) :
    ChuteKept (State.handReceipt o w newBalance s).chute (State.handReceipt o w newBalance s).retained.ledger := by
  unfold State.handReceipt
  dsimp only
  (repeat' split) <;> simp (maxDischargeDepth := 12) -implicitDefEqProofs [h]

@[simp] theorem State.writeEnds_kept (s : State) (h : ChuteKept s.chute s.retained.ledger) :
    ChuteKept (State.writeEnds s).chute (State.writeEnds s).retained.ledger := by
  unfold State.writeEnds
  dsimp only
  (repeat' split) <;> simp (maxDischargeDepth := 12) -implicitDefEqProofs [h]

@[simp] theorem State.writeDone_kept (o : OpRecord) (w : CardWrite) (newSequence : Nat) (s : State) (h : ChuteKept s.chute s.retained.ledger) :
    ChuteKept (State.writeDone o w newSequence s).chute (State.writeDone o w newSequence s).retained.ledger := by
  unfold State.writeDone
  split <;> simp (maxDischargeDepth := 12) -implicitDefEqProofs [h]

@[simp] theorem State.writeFail_kept (o : OpRecord) (w : CardWrite) (s : State) (h : ChuteKept s.chute s.retained.ledger) :
    ChuteKept (State.writeFail o w s).chute (State.writeFail o w s).retained.ledger := by
  unfold State.writeFail
  split <;> simp (maxDischargeDepth := 12) -implicitDefEqProofs [h]

@[simp] theorem State.writeUncertain_kept (o : OpRecord) (w : CardWrite) (cause : UncertainCause) (s : State) (h : ChuteKept s.chute s.retained.ledger) :
    ChuteKept (State.writeUncertain o w cause s).chute (State.writeUncertain o w cause s).retained.ledger := by
  unfold State.writeUncertain
  dsimp only
  (repeat' split) <;> simp (maxDischargeDepth := 12) -implicitDefEqProofs [h]

@[simp] theorem State.takeWritten_kept (txn : Nat) (r : WriteResult) (s : State) (h : ChuteKept s.chute s.retained.ledger) :
    ChuteKept (State.takeWritten txn r s).chute (State.takeWritten txn r s).retained.ledger := by
  unfold State.takeWritten
  (repeat' split) <;> simp (maxDischargeDepth := 12) -implicitDefEqProofs [h]

@[simp] theorem State.writeTimeout_kept (s : State) (h : ChuteKept s.chute s.retained.ledger) :
    ChuteKept (State.writeTimeout s).chute (State.writeTimeout s).retained.ledger := by
  unfold State.writeTimeout
  (repeat' split) <;> simp (maxDischargeDepth := 12) -implicitDefEqProofs [h]

@[simp] theorem State.cardAbsent_kept (s : State) (h : ChuteKept s.chute s.retained.ledger) :
    ChuteKept (State.cardAbsent s).chute (State.cardAbsent s).retained.ledger := by
  unfold State.cardAbsent
  dsimp only
  (repeat' split) <;> simp (maxDischargeDepth := 12) -implicitDefEqProofs [h]

@[simp] theorem State.takeCardFrame_kept (kind : Byte) (p : List Byte) (s : State) (h : ChuteKept s.chute s.retained.ledger) :
    ChuteKept (State.takeCardFrame kind p s).chute (State.takeCardFrame kind p s).retained.ledger := by
  unfold State.takeCardFrame
  (repeat' split) <;> simp (maxDischargeDepth := 12) -implicitDefEqProofs [h]

/-- A TOPUP that passes its checks is of no more than the credit (R134). -/
theorem State.topupChecks_credit {n : Nat} {s : State} {t : TopupTerms} (h : s.topupChecks n = .ok t) : n ≤ s.credit := by
  unfold State.topupChecks at h
  dsimp only at h
  repeat' split at h
  all_goals first
    | (cases h; done)
    | omega

@[simp] theorem State.serveTopup_kept (amount : Word16) (receipt : Bool) (s : State) (h : ChuteKept s.chute s.retained.ledger) : ChuteKept (s.serveTopup amount receipt).chute (s.serveTopup amount receipt).retained.ledger := by
  unfold State.serveTopup
  split
  · exact h
  · next e =>
    have a := State.topupChecks_credit e
    refine State.entryTest_kept _ (State.startWrite_kept _ _ _ _ (State.acceptOp_kept _ _ _ ?_ h))
    have b := amount.isLt
    simpa [State.credit, BitVec.toNat_setWidth, Nat.mod_eq_of_lt (show amount.toNat < 4294967296 by omega)] using a

@[simp] theorem State.serveWriteOff_kept (txn : Nat) (s : State) (h : ChuteKept s.chute s.retained.ledger) :
    ChuteKept (State.serveWriteOff txn s).chute (State.serveWriteOff txn s).retained.ledger := by
  unfold State.serveWriteOff
  dsimp only
  (repeat' split) <;> simp (maxDischargeDepth := 12) -implicitDefEqProofs [h]

/-- A SELL that passes its checks has a price of no more than the credit (R108). -/
theorem State.moneyChecks_credit {keep : Bool} {s : State} {t u : SaleTerms} (h : s.moneyChecks keep t = .ok u) :
    u.price ≤ s.credit := by
  unfold State.moneyChecks at h
  dsimp only at h
  repeat' split at h
  all_goals first
    | (cases h; done)
    | (cases h; show t.price ≤ _; omega)

theorem State.sellChecks_credit {q : SellRequest} {s : State} {t : SaleTerms} (h : s.sellChecks q = .ok t) : t.price ≤ s.credit := by
  unfold State.sellChecks at h
  dsimp only at h
  repeat' split at h
  all_goals first
    | (cases h; done)
    | exact State.moneyChecks_credit h

theorem State.startSale_kept (o : OpRecord) (q : SellRequest) (t : SaleTerms) (s : State) (h : ChuteKept s.chute s.retained.ledger) :
    ChuteKept (s.startSale o q t).chute (s.startSale o q t).retained.ledger := by
  unfold State.startSale
  split
  · exact State.startJob_kept _ _ _ _ _ h
  · exact State.startWrite_kept _ _ _ _ h

@[simp] theorem State.serveSell_kept (q : SellRequest) (s : State) (h : ChuteKept s.chute s.retained.ledger) : ChuteKept (s.serveSell q).chute (s.serveSell q).retained.ledger := by
  unfold State.serveSell
  split
  · exact h
  · next t e =>
    have a := State.sellChecks_credit e
    refine State.entryTest_kept _ (State.startSale_kept _ _ _ _ (State.acceptOp_kept _ _ _ ?_ h))
    have b := s.retained.ledger.c.isLt
    simp only [State.credit] at a
    show (BitVec.ofNat 32 t.price).toNat ≤ _
    rw [BitVec.toNat_ofNat]
    exact (Nat.mod_le _ _).trans a

@[simp] theorem State.passDown_kept (f : Frame) (s : State) (h : ChuteKept s.chute s.retained.ledger) :
    ChuteKept (State.passDown f s).chute (State.passDown f s).retained.ledger := by
  unfold State.passDown
  split <;> simp (maxDischargeDepth := 12) -implicitDefEqProofs [h]

@[simp] theorem State.consume_kept (r : Role) (f : Frame) (s : State) (h : ChuteKept s.chute s.retained.ledger) :
    ChuteKept (State.consume r f s).chute (State.consume r f s).retained.ledger := by
  unfold State.consume
  split <;> simp (maxDischargeDepth := 12) -implicitDefEqProofs [h]

@[simp] theorem State.disposeAnswer_kept (i : Fin 6) (f : Frame) (s : State) (h : ChuteKept s.chute s.retained.ledger) :
    ChuteKept (State.disposeAnswer i f s).chute (State.disposeAnswer i f s).retained.ledger := by
  unfold State.disposeAnswer
  dsimp only
  (repeat' split) <;> simp (maxDischargeDepth := 12) -implicitDefEqProofs [h]

theorem State.grantWrite_kept {s t : State} (e : s.grantWrite = some t) (h : ChuteKept s.chute s.retained.ledger) : ChuteKept t.chute t.retained.ledger := by
  unfold State.grantWrite at e
  repeat' split at e
  all_goals first
    | (cases e; done)
    | (simp only [Option.some.injEq] at e; subst e; simp (maxDischargeDepth := 12) -implicitDefEqProofs [h]; done)
    | (simp only [Option.map_eq_some_iff] at e; obtain ⟨_, _, rfl⟩ := e; simp (maxDischargeDepth := 12) -implicitDefEqProofs [h])

theorem State.grantPrint_kept {s t : State} (e : s.grantPrint = some t) (h : ChuteKept s.chute s.retained.ledger) : ChuteKept t.chute t.retained.ledger := by
  unfold State.grantPrint at e
  repeat' split at e
  all_goals first
    | (cases e; done)
    | (simp only [Option.some.injEq] at e; subst e; simp (maxDischargeDepth := 12) -implicitDefEqProofs [h]; done)
    | (simp only [Option.map_eq_some_iff] at e; obtain ⟨_, _, rfl⟩ := e; simp (maxDischargeDepth := 12) -implicitDefEqProofs [h])

theorem State.grantClass3_kept {s t : State} (e : s.grantClass3 = some t) (h : ChuteKept s.chute s.retained.ledger) : ChuteKept t.chute t.retained.ledger := by
  unfold State.grantClass3 at e
  repeat' split at e
  all_goals first
    | (cases e; done)
    | (simp only [Option.some.injEq] at e; subst e; simp (maxDischargeDepth := 12) -implicitDefEqProofs [h]; done)
    | (simp only [Option.map_eq_some_iff] at e; obtain ⟨_, _, rfl⟩ := e; simp (maxDischargeDepth := 12) -implicitDefEqProofs [h])

theorem State.grantForward_kept {s t : State} (e : s.grantForward = some t) (h : ChuteKept s.chute s.retained.ledger) : ChuteKept t.chute t.retained.ledger := by
  unfold State.grantForward at e
  repeat' split at e
  all_goals first
    | (cases e; done)
    | (simp only [Option.some.injEq] at e; subst e; simp (maxDischargeDepth := 12) -implicitDefEqProofs [h]; done)
    | (simp only [Option.map_eq_some_iff] at e; obtain ⟨_, _, rfl⟩ := e; simp (maxDischargeDepth := 12) -implicitDefEqProofs [h])

theorem State.grantPoll_kept {s t : State} (e : s.grantPoll = some t) (h : ChuteKept s.chute s.retained.ledger) : ChuteKept t.chute t.retained.ledger := by
  unfold State.grantPoll at e
  repeat' split at e
  all_goals first
    | (cases e; done)
    | (simp only [Option.some.injEq] at e; subst e; simp (maxDischargeDepth := 12) -implicitDefEqProofs [h]; done)
    | (simp only [Option.map_eq_some_iff] at e; obtain ⟨_, _, rfl⟩ := e; simp (maxDischargeDepth := 12) -implicitDefEqProofs [h])

@[simp] theorem State.grant_kept (s : State) (h : ChuteKept s.chute s.retained.ledger) : ChuteKept s.grant.chute s.grant.retained.ledger :=
  State.grant_keeps (fun t => ChuteKept t.chute t.retained.ledger) s h (fun _ e => State.grantWrite_kept e h) (fun _ e => State.grantPrint_kept e h)
    (fun _ e => State.grantClass3_kept e h) (fun _ e => State.grantForward_kept e h) (fun _ e => State.grantPoll_kept e h)

@[simp] theorem State.issuePresence_kept (r : Role) (discards : Nat) (s : State) (h : ChuteKept s.chute s.retained.ledger) :
    ChuteKept (State.issuePresence r discards s).chute (State.issuePresence r discards s).retained.ledger := by
  unfold State.issuePresence
  split <;> simp (maxDischargeDepth := 12) -implicitDefEqProofs [h]

@[simp] theorem State.tellAbsent_kept (r : Role) (s : State) (h : ChuteKept s.chute s.retained.ledger) :
    ChuteKept (State.tellAbsent r s).chute (State.tellAbsent r s).retained.ledger := by
  unfold State.tellAbsent
  split <;> simp (maxDischargeDepth := 12) -implicitDefEqProofs [h]

@[simp] theorem State.slotAbsent_kept (i : Fin 6) (s : State) (h : ChuteKept s.chute s.retained.ledger) :
    ChuteKept (State.slotAbsent i s).chute (State.slotAbsent i s).retained.ledger := by
  simp (maxDischargeDepth := 12) -implicitDefEqProofs [State.slotAbsent, h]

@[simp] theorem State.tellPresent_kept (r : Role) (s : State) (h : ChuteKept s.chute s.retained.ledger) :
    ChuteKept (State.tellPresent r s).chute (State.tellPresent r s).retained.ledger := by
  unfold State.tellPresent
  split <;> simp (maxDischargeDepth := 12) -implicitDefEqProofs [h]

@[simp] theorem State.slotPresent_kept (i : Fin 6) (s : State) (h : ChuteKept s.chute s.retained.ledger) :
    ChuteKept (State.slotPresent i s).chute (State.slotPresent i s).retained.ledger := by
  simp (maxDischargeDepth := 12) -implicitDefEqProofs [State.slotPresent, h]

@[simp] theorem State.answered_kept (i : Fin 6) (s : State) (h : ChuteKept s.chute s.retained.ledger) :
    ChuteKept (State.answered i s).chute (State.answered i s).retained.ledger := by
  unfold State.answered
  split <;> simp (maxDischargeDepth := 12) -implicitDefEqProofs [h]

@[simp] theorem State.missed_kept (i : Fin 6) (s : State) (h : ChuteKept s.chute s.retained.ledger) :
    ChuteKept (State.missed i s).chute (State.missed i s).retained.ledger := by
  unfold State.missed
  dsimp only
  (repeat' split) <;> simp (maxDischargeDepth := 12) -implicitDefEqProofs [h]

@[simp] theorem State.reprobeDue_kept (i : Fin 6) (s : State) (h : ChuteKept s.chute s.retained.ledger) :
    ChuteKept (State.reprobeDue i s).chute (State.reprobeDue i s).retained.ledger := by
  unfold State.reprobeDue
  split <;> simp (maxDischargeDepth := 12) -implicitDefEqProofs [h]

@[simp] theorem State.tellOutcome_kept (o : Owner) (valid : Bool) (s : State) (h : ChuteKept s.chute s.retained.ledger) :
    ChuteKept (State.tellOutcome o valid s).chute (State.tellOutcome o valid s).retained.ledger := by
  unfold State.tellOutcome
  split <;> simp (maxDischargeDepth := 12) -implicitDefEqProofs [h]

@[simp] theorem State.endValid_kept (i : Fin 6) (o : Owner) (f : Frame) (s : State) (h : ChuteKept s.chute s.retained.ledger) :
    ChuteKept (State.endValid i o f s).chute (State.endValid i o f s).retained.ledger := by
  simp (maxDischargeDepth := 12) -implicitDefEqProofs [State.endValid, h]

@[simp] theorem State.endInvalid_kept (i : Fin 6) (o : Owner) (s : State) (h : ChuteKept s.chute s.retained.ledger) :
    ChuteKept (State.endInvalid i o s).chute (State.endInvalid i o s).retained.ledger := by
  simp (maxDischargeDepth := 12) -implicitDefEqProofs [State.endInvalid, h]

@[simp] theorem State.moduleFrame_kept (f : Frame) (s : State) (h : ChuteKept s.chute s.retained.ledger) :
    ChuteKept (State.moduleFrame f s).chute (State.moduleFrame f s).retained.ledger := by
  unfold State.moduleFrame
  (repeat' split) <;> simp (maxDischargeDepth := 12) -implicitDefEqProofs [h]

@[simp] theorem State.noAnswer_kept (s : State) (h : ChuteKept s.chute s.retained.ledger) :
    ChuteKept (State.noAnswer s).chute (State.noAnswer s).retained.ledger := by
  unfold State.noAnswer
  split <;> simp (maxDischargeDepth := 12) -implicitDefEqProofs [h]

@[simp] theorem State.windowPasses_kept (s : State) (h : ChuteKept s.chute s.retained.ledger) :
    ChuteKept (State.windowPasses s).chute (State.windowPasses s).retained.ledger := by
  unfold State.windowPasses
  split <;> simp (maxDischargeDepth := 12) -implicitDefEqProofs [h]

@[simp] theorem State.groupEnds_kept (s : State) (h : ChuteKept s.chute s.retained.ledger) :
    ChuteKept (State.groupEnds s).chute (State.groupEnds s).retained.ledger := by
  unfold State.groupEnds
  split <;> simp (maxDischargeDepth := 12) -implicitDefEqProofs [h]

@[simp] theorem State.frameSeen_kept (s : State) (h : ChuteKept s.chute s.retained.ledger) :
    ChuteKept (State.frameSeen s).chute (State.frameSeen s).retained.ledger := by
  unfold State.frameSeen
  split <;> simp (maxDischargeDepth := 12) -implicitDefEqProofs [h]

theorem State.gated_kept (k : Byte) (f : State → State) (s : State) (hf : ChuteKept s.chute s.retained.ledger → ChuteKept (f s).chute (f s).retained.ledger)
    (h : ChuteKept s.chute s.retained.ledger) : ChuteKept (s.gated k f).chute (s.gated k f).retained.ledger := by
  unfold State.gated; split
  · simpa using h
  · exact hf h

@[simp] theorem State.setUp_kept (id rate : Nat) (roles : Vector Role 6) (silence : Nat) (s : State) (h : ChuteKept s.chute s.retained.ledger) :
    ChuteKept (State.setUp id rate roles silence s).chute (State.setUp id rate roles silence s).retained.ledger := by
  simp (maxDischargeDepth := 12) -implicitDefEqProofs [State.setUp, h]

@[simp] theorem State.serveSetup_kept (id : Word16) (rate : Byte) (codes : Vector Byte 6) (silence : Byte) (s : State) (h : ChuteKept s.chute s.retained.ledger) :
    ChuteKept (State.serveSetup id rate codes silence s).chute (State.serveSetup id rate codes silence s).retained.ledger := by
  unfold State.serveSetup
  (repeat' split) <;> simp (maxDischargeDepth := 12) -implicitDefEqProofs [h]

@[simp] theorem State.serveAlive_kept (s : State) (h : ChuteKept s.chute s.retained.ledger) :
    ChuteKept (State.serveAlive s).chute (State.serveAlive s).retained.ledger := by
  simp (maxDischargeDepth := 12) -implicitDefEqProofs [State.serveAlive, h]

@[simp] theorem State.serveService_kept (on : Bool) (s : State) (h : ChuteKept s.chute s.retained.ledger) :
    ChuteKept (State.serveService on s).chute (State.serveService on s).retained.ledger := by
  unfold State.serveService
  (repeat' split) <;> simp (maxDischargeDepth := 12) -implicitDefEqProofs [h]

@[simp] theorem State.serveInhibit_kept (on : Bool) (s : State) (h : ChuteKept s.chute s.retained.ledger) :
    ChuteKept (State.serveInhibit on s).chute (State.serveInhibit on s).retained.ledger := by
  simp (maxDischargeDepth := 12) -implicitDefEqProofs [State.serveInhibit, h]

@[simp] theorem State.serveRestart_kept (s : State) (h : ChuteKept s.chute s.retained.ledger) :
    ChuteKept (State.serveRestart s).chute (State.serveRestart s).retained.ledger := by
  simp (maxDischargeDepth := 12) -implicitDefEqProofs [State.serveRestart, h]

@[simp] theorem State.serveClearAll_kept (s : State) (h : ChuteKept s.chute s.retained.ledger) :
    ChuteKept (State.serveClearAll s).chute (State.serveClearAll s).retained.ledger := by
  unfold State.serveClearAll
  (repeat' split) <;> simp (maxDischargeDepth := 12) -implicitDefEqProofs [h]

@[simp] theorem State.serveClock_kept (day second dayOfWeek : Nat) (s : State) (h : ChuteKept s.chute s.retained.ledger) :
    ChuteKept (State.serveClock day second dayOfWeek s).chute (State.serveClock day second dayOfWeek s).retained.ledger := by
  unfold State.serveClock
  split <;> simp (maxDischargeDepth := 12) -implicitDefEqProofs [h]

@[simp] theorem State.serveQuery_kept (topic index : Byte) (s : State) (h : ChuteKept s.chute s.retained.ledger) :
    ChuteKept (State.serveQuery topic index s).chute (State.serveQuery topic index s).retained.ledger := by
  unfold State.serveQuery
  (repeat' split) <;> simp (maxDischargeDepth := 12) -implicitDefEqProofs [h]

@[simp] theorem State.takeSetup_kept (id : Word16) (rate : Byte) (roles : Vector Byte 6) (silence : Byte) (s : State) (h : ChuteKept s.chute s.retained.ledger) :
    ChuteKept (State.takeSetup id rate roles silence s).chute (State.takeSetup id rate roles silence s).retained.ledger := by
  simp (maxDischargeDepth := 12) -implicitDefEqProofs [State.takeSetup, h]

@[simp] theorem State.takeLoad_kept (kind : TableKind) (generation : Word16) (index total : Byte) (check count : Word16) (entries : List Byte) (s : State) (h : ChuteKept s.chute s.retained.ledger) :
    ChuteKept (State.takeLoad kind generation index total check count entries s).chute (State.takeLoad kind generation index total check count entries s).retained.ledger := by
  unfold State.takeLoad
  (repeat' split) <;> simp (maxDischargeDepth := 12) -implicitDefEqProofs [h]

@[simp] theorem State.takeActivate_kept (kind : TableKind) (generation : Word16) (due : Due) (s : State) (h : ChuteKept s.chute s.retained.ledger) :
    ChuteKept (State.takeActivate kind generation due s).chute (State.takeActivate kind generation due s).retained.ledger := by
  unfold State.takeActivate; exact State.gated_kept _ _ _ (fun h => by simp (maxDischargeDepth := 12) -implicitDefEqProofs [h]) h

@[simp] theorem State.takeSell_kept (product zones : Byte) (concession : Fin 8) (medium : Medium) (keep : Bool) (s : State) (h : ChuteKept s.chute s.retained.ledger) :
    ChuteKept (State.takeSell product zones concession medium keep s).chute (State.takeSell product zones concession medium keep s).retained.ledger := by
  unfold State.takeSell; exact State.gated_kept _ _ _ (fun h => by simp (maxDischargeDepth := 12) -implicitDefEqProofs [h]) h

@[simp] theorem State.takeClock_kept (day : Word16) (second : Word32) (dayOfWeek : Byte) (s : State) (h : ChuteKept s.chute s.retained.ledger) :
    ChuteKept (State.takeClock day second dayOfWeek s).chute (State.takeClock day second dayOfWeek s).retained.ledger := by
  unfold State.takeClock; exact State.gated_kept _ _ _ (fun h => by simp (maxDischargeDepth := 12) -implicitDefEqProofs [h]) h

@[simp] theorem State.takeTube_kept (tube count : Byte) (s : State) (h : ChuteKept s.chute s.retained.ledger) :
    ChuteKept (State.takeTube tube count s).chute (State.takeTube tube count s).retained.ledger := by
  unfold State.takeTube; exact State.gated_kept _ _ _ (fun h => by simp (maxDischargeDepth := 12) -implicitDefEqProofs [h]) h

@[simp] theorem State.takeRequest_kept (i : Instr) (s : State) (h : ChuteKept s.chute s.retained.ledger) : ChuteKept (s.takeRequest i).chute (s.takeRequest i).retained.ledger := by
  unfold State.takeRequest
  split <;> first
    | exact h
    | (simp (maxDischargeDepth := 12) -implicitDefEqProofs [h]; done)
    | exact State.gated_kept _ _ _ (fun h => by simp (maxDischargeDepth := 12) -implicitDefEqProofs [h]) h

@[simp] theorem State.refuseFormat_kept (kind : Byte) (p : List Byte) (s : State) (h : ChuteKept s.chute s.retained.ledger) :
    ChuteKept (State.refuseFormat kind p s).chute (State.refuseFormat kind p s).retained.ledger := by
  unfold State.refuseFormat
  split <;> simp (maxDischargeDepth := 12) -implicitDefEqProofs [h]

@[simp] theorem State.disposeRequest_kept (kind : Byte) (p : List Byte) (s : State) (h : ChuteKept s.chute s.retained.ledger) :
    ChuteKept (State.disposeRequest kind p s).chute (State.disposeRequest kind p s).retained.ledger := by
  unfold State.disposeRequest
  split <;> simp (maxDischargeDepth := 12) -implicitDefEqProofs [h]

@[simp] theorem State.disposeDownward_kept (f : Frame) (s : State) (h : ChuteKept s.chute s.retained.ledger) :
    ChuteKept (State.disposeDownward f s).chute (State.disposeDownward f s).retained.ledger := by
  unfold State.disposeDownward
  split <;> simp (maxDischargeDepth := 12) -implicitDefEqProofs [h]

@[simp] theorem State.disposeFrame_kept (f : Frame) (s : State) (h : ChuteKept s.chute s.retained.ledger) :
    ChuteKept (State.disposeFrame f s).chute (State.disposeFrame f s).retained.ledger := by
  unfold State.disposeFrame
  (repeat' split) <;> simp (maxDischargeDepth := 12) -implicitDefEqProofs [h]

theorem State.onCLine_kept (f : Frame) (g : State → State) (s : State)
    (hg : ∀ t : State, ChuteKept t.chute t.retained.ledger → ChuteKept (g t).chute (g t).retained.ledger) (h : ChuteKept s.chute s.retained.ledger) : ChuteKept (s.onCLine f g).chute (s.onCLine f g).retained.ledger := by
  unfold State.onCLine
  repeat' split
  · exact h
  · simpa using h
  · exact hg _ (by simpa using State.frameSeen_kept s h)

theorem State.onRequest_kept (i : Instr) (g : State → State) (s : State)
    (hg : ∀ t : State, ChuteKept t.chute t.retained.ledger → ChuteKept (g t).chute (g t).retained.ledger) (h : ChuteKept s.chute s.retained.ledger) : ChuteKept (s.onRequest i g).chute (s.onRequest i g).retained.ledger := by
  unfold State.onRequest
  split
  · exact State.onCLine_kept _ _ _ hg h
  · exact h

@[simp] theorem State.runC_kept (s : State) (h : ChuteKept s.chute s.retained.ledger) : ChuteKept s.runC.chute s.runC.retained.ledger :=
  State.pumpC_keeps (fun t => ChuteKept t.chute t.retained.ledger) (fun _ _ ht => ht) (fun f _ ht => State.disposeFrame_kept f _ (State.frameSeen_kept _ ht)) _ s h

@[simp] theorem State.runM_kept (s : State) (h : ChuteKept s.chute s.retained.ledger) : ChuteKept s.runM.chute s.runM.retained.ledger :=
  State.pumpM_keeps (fun t => ChuteKept t.chute t.retained.ledger) (fun _ _ ht => ht) (fun t ht => State.noAnswer_kept t ht)
    (fun f t ht => State.moduleFrame_kept f t ht) _ s h

@[simp] theorem State.onReceiver_kept (l : Line) (f : Receiver → Receiver) (s : State)
    (h : ChuteKept s.chute s.retained.ledger) : ChuteKept (s.onReceiver l f).chute (s.onReceiver l f).retained.ledger := by
  unfold State.onReceiver; repeat' split
  · exact State.runC_kept _ h
  · exact State.runM_kept _ h
  · exact h

@[simp] theorem State.characterArrives_kept (l : Line) (value : Byte) (parity stopMark : Bool) (s : State) (h : ChuteKept s.chute s.retained.ledger) :
    ChuteKept (State.characterArrives l value parity stopMark s).chute (State.characterArrives l value parity stopMark s).retained.ledger := by
  simp (maxDischargeDepth := 12) -implicitDefEqProofs [State.characterArrives, h]

@[simp] theorem State.breakArrives_kept (l : Line) (s : State) (h : ChuteKept s.chute s.retained.ledger) :
    ChuteKept (State.breakArrives l s).chute (State.breakArrives l s).retained.ledger := by
  simp (maxDischargeDepth := 12) -implicitDefEqProofs [State.breakArrives, h]

@[simp] theorem State.gapExpires_kept (l : Line) (s : State) (h : ChuteKept s.chute s.retained.ledger) :
    ChuteKept (State.gapExpires l s).chute (State.gapExpires l s).retained.ledger := by
  unfold State.gapExpires
  split <;> simp (maxDischargeDepth := 12) -implicitDefEqProofs [h]

@[simp] theorem State.takeNext_kept (s : State) (h : ChuteKept s.chute s.retained.ledger) :
    ChuteKept (State.takeNext s).chute (State.takeNext s).retained.ledger := by
  unfold State.takeNext
  split <;> simp (maxDischargeDepth := 12) -implicitDefEqProofs [h]

@[simp] theorem State.transmit_kept (s : State) (h : ChuteKept s.chute s.retained.ledger) :
    ChuteKept (State.transmit s).chute (State.transmit s).retained.ledger := by
  unfold State.transmit
  split <;> simp (maxDischargeDepth := 12) -implicitDefEqProofs [h]

@[simp] theorem State.transmitEnds_kept (s : State) (h : ChuteKept s.chute s.retained.ledger) :
    ChuteKept (State.transmitEnds s).chute (State.transmitEnds s).retained.ledger := by
  unfold State.transmitEnds
  split <;> simp (maxDischargeDepth := 12) -implicitDefEqProofs [h]

@[simp] theorem State.silenceExpires_kept (s : State) (h : ChuteKept s.chute s.retained.ledger) :
    ChuteKept (State.silenceExpires s).chute (State.silenceExpires s).retained.ledger := by
  unfold State.silenceExpires
  split <;> simp (maxDischargeDepth := 12) -implicitDefEqProofs [h]

@[simp] theorem State.secondAdvances_kept (s : State) (h : ChuteKept s.chute s.retained.ledger) :
    ChuteKept (State.secondAdvances s).chute (State.secondAdvances s).retained.ledger := by
  unfold State.secondAdvances
  dsimp only
  (repeat' split) <;> simp (maxDischargeDepth := 12) -implicitDefEqProofs [h]

@[simp] theorem State.hundredthAdvances_kept (s : State) (h : ChuteKept s.chute s.retained.ledger) :
    ChuteKept (State.hundredthAdvances s).chute (State.hundredthAdvances s).retained.ledger := by
  unfold State.hundredthAdvances
  (repeat' split) <;> simp (maxDischargeDepth := 12) -implicitDefEqProofs [h]

@[simp] theorem State.oscillatorStops_kept (s : State) (h : ChuteKept s.chute s.retained.ledger) :
    ChuteKept (State.oscillatorStops s).chute (State.oscillatorStops s).retained.ledger := by
  unfold State.oscillatorStops
  split <;> simp (maxDischargeDepth := 12) -implicitDefEqProofs [h]

@[simp] theorem State.timeBaseRuns_kept (s : State) (h : ChuteKept s.chute s.retained.ledger) :
    ChuteKept (State.timeBaseRuns s).chute (State.timeBaseRuns s).retained.ledger := by
  simp (maxDischargeDepth := 12) -implicitDefEqProofs [State.timeBaseRuns, h]

theorem State.startValues_kept (r : Resolved) (c : Clock) (pins : Pins) (s : State) : ChuteKept (s.startValues r c pins).chute (s.startValues r c pins).retained.ledger :=
  Chute.idled_kept ({ State.reset.chute with active := pins.sensors } : Chute) r.retained.ledger

@[simp] theorem State.firstPeriod_kept (s : State) (h : ChuteKept s.chute s.retained.ledger) : ChuteKept s.firstPeriod.chute s.firstPeriod.retained.ledger := by
  unfold State.firstPeriod
  split <;> exact h

@[simp] theorem State.boot_kept (cold : Bool) (cause : StartCause) (pins : Pins) (s : State) : ChuteKept (s.boot cold cause pins).chute (s.boot cold cause pins).retained.ledger := by
  have a : ∀ (r : Resolved) (c : Clock) (t : State), ChuteKept (t.startValues r c pins).withLows.firstPeriod.chute
      (t.startValues r c pins).withLows.firstPeriod.retained.ledger :=
    fun r c t => State.firstPeriod_kept _ (State.startValues_kept r c pins t)
  exact a _ _ s

@[simp] theorem State.checkedStart_kept (cause : StartCause) (pins : Pins) (s : State) (h : ChuteKept s.chute s.retained.ledger) :
    ChuteKept (State.checkedStart cause pins s).chute (State.checkedStart cause pins s).retained.ledger := by
  unfold State.checkedStart
  split <;> simp (maxDischargeDepth := 12) -implicitDefEqProofs [h]

@[simp] theorem State.quiet_kept (s : State) (h : ChuteKept s.chute s.retained.ledger) :
    ChuteKept (State.quiet s).chute (State.quiet s).retained.ledger := by
  simp (maxDischargeDepth := 12) -implicitDefEqProofs [State.quiet, h]

@[simp] theorem State.powerReturns_kept (pins : Pins) (s : State) (h : ChuteKept s.chute s.retained.ledger) :
    ChuteKept (State.powerReturns pins s).chute (State.powerReturns pins s).retained.ledger := by
  unfold State.powerReturns
  dsimp only
  (repeat' split) <;> simp (maxDischargeDepth := 12) -implicitDefEqProofs [h]

@[simp] theorem State.powerFails_kept (s : State) (h : ChuteKept s.chute s.retained.ledger) :
    ChuteKept (State.powerFails s).chute (State.powerFails s).retained.ledger := by
  unfold State.powerFails
  split <;> simp (maxDischargeDepth := 12) -implicitDefEqProofs [h]

@[simp] theorem State.resetHolds_kept (s : State) (h : ChuteKept s.chute s.retained.ledger) :
    ChuteKept (State.resetHolds s).chute (State.resetHolds s).retained.ledger := by
  simp (maxDischargeDepth := 12) -implicitDefEqProofs [State.resetHolds, h]

@[simp] theorem State.resetReleases_kept (pins : Pins) (s : State) (h : ChuteKept s.chute s.retained.ledger) :
    ChuteKept (State.resetReleases pins s).chute (State.resetReleases pins s).retained.ledger := by
  unfold State.resetReleases
  dsimp only
  (repeat' split) <;> simp (maxDischargeDepth := 12) -implicitDefEqProofs [h]

@[simp] theorem State.backupFails_kept (s : State) (h : ChuteKept s.chute s.retained.ledger) :
    ChuteKept (State.backupFails s).chute (State.backupFails s).retained.ledger := by
  unfold State.backupFails
  split <;> simp (maxDischargeDepth := 12) -implicitDefEqProofs [h]

@[simp] theorem State.startAfterReply_kept (pins : Pins) (s : State) (h : ChuteKept s.chute s.retained.ledger) :
    ChuteKept (State.startAfterReply pins s).chute (State.startAfterReply pins s).retained.ledger := by
  unfold State.startAfterReply
  split <;> simp (maxDischargeDepth := 12) -implicitDefEqProofs [h]

end Sys2Proof.Machine
end

