-- ==== Sys2Proof/Laws/Commands.lean ====
section
/-! SUPPORT. What a command comes to, said once: an event, a request and a whole frame by their operation, the entry test by the
structure Tested, and a property that every operation keeps. -/

namespace Sys2Proof.Machine

/-- A taken event runs its operation, and an idle transmitter then takes what waits (R6). -/
theorem State.event_running (f : State → State) {s : State} (h : s.running = true) : s.event f = .next (f s).transmit := by
  simp [State.event, State.done, h]

/-- An event that the part does not take changes nothing. -/
theorem State.event_stopped (f : State → State) {s : State} (h : s.running = false) : s.event f = .next s := by
  simp [State.event, h]

/-- A whole frame that is taken at once ends DETACHED and is served. -/
theorem State.onCLine_taken (f : Frame) (serve : State → State) {s : State} (h : TakesFrames s) :
    s.onCLine f serve = serve s.frameSeen := by
  simp [State.onCLine, h.1, h.2]

/-- A request that is taken at once goes to the block that owns it. -/
theorem exec_request {i : Instr} {f : Frame} {s : State} (hf : frameOfRequest i = some f) (h : TakesFrames s) :
    exec i s = .next (s.frameSeen.takeRequest i).transmit := by
  cases i <;> first
    | (simp [frameOfRequest] at hf; done)
    | (show Host.Outcome.next (State.onRequest _ _ s).transmit = _
       unfold State.onRequest
       rw [hf]
       show Host.Outcome.next (s.onCLine f _).transmit = _
       rw [State.onCLine_taken _ _ h]
       rfl)

/-- The entry test does what Tested says. -/
theorem State.entryTest_tested (s : State) : Tested s s.entryTest := by
  unfold State.entryTest
  split
  · next h => exact ⟨rfl, h.symm, fun _ => rfl, fun n => absurd h n, fun n => absurd h n, fun n => absurd h n⟩
  · next h =>
    refine ⟨rfl, rfl, fun e => absurd e h, fun _ c => ?_, fun _ c => ?_, fun _ => rfl⟩
    · simp [State.onCoils, CoilDriver.drive, State.issueChute, State.issueFixed, PerCoil.set, PerCoil.get, c]
    · simp [State.onCoils, CoilDriver.drive, State.issueChute, State.issueFixed, PerCoil.set, PerCoil.get, c]

/-- An operation's acceptance leaves what State.accepted says. -/
theorem State.acceptOp_accepted (o : OpRecord) (n : Nat) (s : State) : s.acceptOp o n = s.accepted o n := rfl

/-- Settling what is owed changes neither the printer's state nor the job. -/
theorem Printer.duty_keeps (p : Printer) : p.duty.job = p.job ∧ p.duty.tag = p.tag ∧ p.duty.paper = p.paper ∧
    p.duty.head = p.head ∧ p.duty.fault = p.fault ∧ p.duty.room = p.room := by
  unfold Printer.duty
  split
  · exact ⟨rfl, rfl, rfl, rfl, rfl, rfl⟩
  · (repeat' split) <;> exact ⟨rfl, rfl, rfl, rfl, rfl, rfl⟩

/-- The start of a print job does what JobStarted says. -/
theorem State.startJob_started (k : JobKind) (txn t : Nat) (v : FieldValues) (s : State) :
    JobStarted k txn t v s (s.startJob k txn t v) := by
  unfold State.startJob
  dsimp only
  generalize hp : ({ s.printer with
    job := some ⟨k, (s.printer.tag + 1) % 256, txn, t, v, (s.templateLines t).map fun l => composeText v l.text, 0, false⟩
    tag := (s.printer.tag + 1) % 256, askWait := false } : Printer) = w
  have hd := Printer.duty_keeps w
  have hl : s.templateLines t ≠ [] → 0 < (s.templateLines t).length := List.length_pos_iff.2
  refine ⟨?_, ?_, s.templateLines_composed t v, ?_, ?_, fun h1 h2 h3 => ?_, fun h1 h2 h3 => ?_, fun h1 => ?_⟩
  · subst hp; rfl
  · subst hp; exact hd.1
  · subst hp; exact hd.2.1
  · subst hp; exact ⟨hd.2.2.1, hd.2.2.2.1, hd.2.2.2.2.1, hd.2.2.2.2.2⟩
  · subst hp; simp [State.onPrinter, Printer.duty, h1, Job.linesLeft, hl h2, h3]
  · subst hp; simp [State.onPrinter, Printer.duty, h1, Job.linesLeft, hl h2, h3]
  · subst hp; simp [State.onPrinter, Printer.duty, h1]

/-! ## What the entry test and a valid frame leave as it is -/

@[simp] theorem State.entryTest_power (s : State) : s.entryTest.power = s.power := by unfold State.entryTest; split <;> rfl
@[simp] theorem State.entryTest_resetHeld (s : State) : s.entryTest.resetHeld = s.resetHeld := by unfold State.entryTest; split <;> rfl
@[simp] theorem State.entryTest_retainedGood (s : State) : s.entryTest.retainedGood = s.retainedGood := by unfold State.entryTest; split <;> rfl
@[simp] theorem State.entryTest_retained (s : State) : s.entryTest.retained = s.retained := by unfold State.entryTest; split <;> rfl
@[simp] theorem State.entryTest_part (s : State) : s.entryTest.part = s.part := by unfold State.entryTest; split <;> rfl
@[simp] theorem State.entryTest_detached (s : State) : s.entryTest.detached = s.detached := by unfold State.entryTest; split <;> rfl
@[simp] theorem State.entryTest_inhibit (s : State) : s.entryTest.inhibit = s.inhibit := by unfold State.entryTest; split <;> rfl
@[simp] theorem State.entryTest_machineId (s : State) : s.entryTest.machineId = s.machineId := by unfold State.entryTest; split <;> rfl
@[simp] theorem State.entryTest_silenceLimit (s : State) : s.entryTest.silenceLimit = s.silenceLimit := by unfold State.entryTest; split <;> rfl
@[simp] theorem State.entryTest_silenceRunning (s : State) : s.entryTest.silenceRunning = s.silenceRunning := by unfold State.entryTest; split <;> rfl
@[simp] theorem State.entryTest_cRate (s : State) : s.entryTest.cRate = s.cRate := by unfold State.entryTest; split <;> rfl
@[simp] theorem State.entryTest_mRate (s : State) : s.entryTest.mRate = s.mRate := by unfold State.entryTest; split <;> rfl
@[simp] theorem State.entryTest_cRx (s : State) : s.entryTest.cRx = s.cRx := by unfold State.entryTest; split <;> rfl
@[simp] theorem State.entryTest_mRx (s : State) : s.entryTest.mRx = s.mRx := by unfold State.entryTest; split <;> rfl
@[simp] theorem State.entryTest_replies (s : State) : s.entryTest.replies = s.replies := by unfold State.entryTest; split <;> rfl
@[simp] theorem State.entryTest_sending (s : State) : s.entryTest.sending = s.sending := by unfold State.entryTest; split <;> rfl
@[simp] theorem State.entryTest_stopping (s : State) : s.entryTest.stopping = s.stopping := by unfold State.entryTest; split <;> rfl
@[simp] theorem State.entryTest_forwardQ (s : State) : s.entryTest.forwardQ = s.forwardQ := by unfold State.entryTest; split <;> rfl
@[simp] theorem State.entryTest_upwardQ (s : State) : s.entryTest.upwardQ = s.upwardQ := by unfold State.entryTest; split <;> rfl
@[simp] theorem State.entryTest_slots (s : State) : s.entryTest.slots = s.slots := by unfold State.entryTest; split <;> rfl
@[simp] theorem State.entryTest_lastPolled (s : State) : s.entryTest.lastPolled = s.lastPolled := by unfold State.entryTest; split <;> rfl
@[simp] theorem State.entryTest_exchange (s : State) : s.entryTest.exchange = s.exchange := by unfold State.entryTest; split <;> rfl
@[simp] theorem State.entryTest_loads (s : State) : s.entryTest.loads = s.loads := by unfold State.entryTest; split <;> rfl
@[simp] theorem State.entryTest_reserved (s : State) : s.entryTest.reserved = s.reserved := by unfold State.entryTest; split <;> rfl
@[simp] theorem State.entryTest_clock (s : State) : s.entryTest.clock = s.clock := by unfold State.entryTest; split <;> rfl
@[simp] theorem State.entryTest_chute (s : State) : s.entryTest.chute = s.chute := by unfold State.entryTest; split <;> rfl
@[simp] theorem State.entryTest_doorOpen (s : State) : s.entryTest.doorOpen = s.doorOpen := by unfold State.entryTest; split <;> rfl
@[simp] theorem State.entryTest_purchase (s : State) : s.entryTest.purchase = s.purchase := by unfold State.entryTest; split <;> rfl
@[simp] theorem State.entryTest_card (s : State) : s.entryTest.card = s.card := by unfold State.entryTest; split <;> rfl
@[simp] theorem State.entryTest_tubes (s : State) : s.entryTest.tubes = s.tubes := by unfold State.entryTest; split <;> rfl
@[simp] theorem State.entryTest_payout (s : State) : s.entryTest.payout = s.payout := by unfold State.entryTest; split <;> rfl
@[simp] theorem State.entryTest_printer (s : State) : s.entryTest.printer = s.printer := by unfold State.entryTest; split <;> rfl

@[simp] theorem State.frameSeen_power (s : State) : s.frameSeen.power = s.power := by unfold State.frameSeen; split <;> simp
@[simp] theorem State.frameSeen_resetHeld (s : State) : s.frameSeen.resetHeld = s.resetHeld := by unfold State.frameSeen; split <;> simp
@[simp] theorem State.frameSeen_retainedGood (s : State) : s.frameSeen.retainedGood = s.retainedGood := by unfold State.frameSeen; split <;> simp
@[simp] theorem State.frameSeen_retained (s : State) : s.frameSeen.retained = s.retained := by unfold State.frameSeen; split <;> simp
@[simp] theorem State.frameSeen_part (s : State) : s.frameSeen.part = s.part := by unfold State.frameSeen; split <;> simp
@[simp] theorem State.frameSeen_inhibit (s : State) : s.frameSeen.inhibit = s.inhibit := by unfold State.frameSeen; split <;> simp
@[simp] theorem State.frameSeen_machineId (s : State) : s.frameSeen.machineId = s.machineId := by unfold State.frameSeen; split <;> simp
@[simp] theorem State.frameSeen_silenceLimit (s : State) : s.frameSeen.silenceLimit = s.silenceLimit := by unfold State.frameSeen; split <;> simp
@[simp] theorem State.frameSeen_cRate (s : State) : s.frameSeen.cRate = s.cRate := by unfold State.frameSeen; split <;> simp
@[simp] theorem State.frameSeen_mRate (s : State) : s.frameSeen.mRate = s.mRate := by unfold State.frameSeen; split <;> simp
@[simp] theorem State.frameSeen_cRx (s : State) : s.frameSeen.cRx = s.cRx := by unfold State.frameSeen; split <;> simp
@[simp] theorem State.frameSeen_mRx (s : State) : s.frameSeen.mRx = s.mRx := by unfold State.frameSeen; split <;> simp
@[simp] theorem State.frameSeen_replies (s : State) : s.frameSeen.replies = s.replies := by unfold State.frameSeen; split <;> simp
@[simp] theorem State.frameSeen_sending (s : State) : s.frameSeen.sending = s.sending := by unfold State.frameSeen; split <;> simp
@[simp] theorem State.frameSeen_stopping (s : State) : s.frameSeen.stopping = s.stopping := by unfold State.frameSeen; split <;> simp
@[simp] theorem State.frameSeen_forwardQ (s : State) : s.frameSeen.forwardQ = s.forwardQ := by unfold State.frameSeen; split <;> simp
@[simp] theorem State.frameSeen_upwardQ (s : State) : s.frameSeen.upwardQ = s.upwardQ := by unfold State.frameSeen; split <;> simp
@[simp] theorem State.frameSeen_slots (s : State) : s.frameSeen.slots = s.slots := by unfold State.frameSeen; split <;> simp
@[simp] theorem State.frameSeen_lastPolled (s : State) : s.frameSeen.lastPolled = s.lastPolled := by unfold State.frameSeen; split <;> simp
@[simp] theorem State.frameSeen_exchange (s : State) : s.frameSeen.exchange = s.exchange := by unfold State.frameSeen; split <;> simp
@[simp] theorem State.frameSeen_loads (s : State) : s.frameSeen.loads = s.loads := by unfold State.frameSeen; split <;> simp
@[simp] theorem State.frameSeen_reserved (s : State) : s.frameSeen.reserved = s.reserved := by unfold State.frameSeen; split <;> simp
@[simp] theorem State.frameSeen_clock (s : State) : s.frameSeen.clock = s.clock := by unfold State.frameSeen; split <;> simp
@[simp] theorem State.frameSeen_chute (s : State) : s.frameSeen.chute = s.chute := by unfold State.frameSeen; split <;> simp
@[simp] theorem State.frameSeen_doorOpen (s : State) : s.frameSeen.doorOpen = s.doorOpen := by unfold State.frameSeen; split <;> simp
@[simp] theorem State.frameSeen_purchase (s : State) : s.frameSeen.purchase = s.purchase := by unfold State.frameSeen; split <;> simp
@[simp] theorem State.frameSeen_card (s : State) : s.frameSeen.card = s.card := by unfold State.frameSeen; split <;> simp
@[simp] theorem State.frameSeen_tubes (s : State) : s.frameSeen.tubes = s.tubes := by unfold State.frameSeen; split <;> simp
@[simp] theorem State.frameSeen_payout (s : State) : s.frameSeen.payout = s.payout := by unfold State.frameSeen; split <;> simp
@[simp] theorem State.frameSeen_printer (s : State) : s.frameSeen.printer = s.printer := by unfold State.frameSeen; split <;> simp
@[simp] theorem State.frameSeen_detached (s : State) : s.frameSeen.detached = false := by
  unfold State.frameSeen; split <;> simp
@[simp] theorem State.frameSeen_silenceRunning (s : State) : s.frameSeen.silenceRunning = (s.silenceLimit != 0) := by
  unfold State.frameSeen; split <;> simp

/-- A property that every operation of the blocks keeps is kept by every command. -/
theorem exec_keeps (P : State → Prop)
  (hcl : ∀ f s, P s → P (s.onCLine f (State.disposeFrame f)))
  (hrq : ∀ i s, P s → P (s.onRequest i (State.takeRequest i)))
  (h1 : ∀ l v p m s, P s → P (State.characterArrives l v p m s))
  (h2 : ∀ l s, P s → P (State.breakArrives l s))
  (h3 : ∀ l s, P s → P (State.gapExpires l s))
  (h4 : ∀ s, P s → P (State.silenceExpires s))
  (h5 : ∀ s, P s → P (State.transmitEnds s))
  (ht : ∀ s, P s → P (State.transmit s))
  (h6 : ∀ p s, s.running = true → P s → P (State.startAfterReply p s))
  (h7 : ∀ s, P s → P (State.grant s))
  (h8 : ∀ f s, P s → P (State.moduleFrame f s))
  (h9 : ∀ s, P s → P (State.windowPasses s))
  (h10 : ∀ s, P s → P (State.groupEnds s))
  (h11 : ∀ i s, P s → P (State.reprobeDue i s))
  (h12 : ∀ s, P s → P (State.secondAdvances s))
  (h13 : ∀ s, P s → P (State.oscillatorStops s))
  (h14 : ∀ x n s, P s → P (State.sensorRise x n s))
  (h15 : ∀ x n s, P s → P (State.sensorFall x n s))
  (h16 : ∀ s, P s → P (State.aLimitPasses s))
  (h17 : ∀ s, P s → P (State.gapLimitPasses s))
  (h18 : ∀ s, P s → P (State.acceptWaitPasses s))
  (h19 : ∀ s, P s → P (State.returnWaitPasses s))
  (h20 : ∀ s, P s → P (State.idleWaitPasses s))
  (h21 : ∀ b s, P s → P (State.doorChange b s))
  (h22 : ∀ s, P s → P (State.leverPress s))
  (h23 : ∀ x s, P s → P (State.pwmPeriod x s))
  (h24 : ∀ x y s, P s → P (State.pullInCheck x y s))
  (h25 : ∀ s, P s → P (State.diverterChangeover s))
  (h26 : ∀ i s, P s → P (State.exitPulse i s))
  (h27 : ∀ i s, P s → P (State.jamTimeout i s))
  (h28 : ∀ i s, P s → P (State.trailingEnds i s))
  (h29 : ∀ s, P s → P (State.writeTimeout s))
  (h30 : ∀ s, P s → P (State.cutTimeout s))
  (h31 : ∀ s, P s → P (State.roomAskDelay s))
  (h32 : ∀ p s, P s → P (State.powerReturns p s))
  (h33 : ∀ s, P s → P (State.powerFails s))
  (h34 : ∀ s, P s → P (State.resetHolds s))
  (h35 : ∀ p s, P s → P (State.resetReleases p s))
  (h36 : ∀ s, P s → P (State.hundredthAdvances s))
  (h37 : ∀ s, P s → P (State.timeBaseRuns s))
  (h38 : ∀ s, P s → P (State.backupFails s))
  (c : Instr) (s t : State) (h : P s) (e : exec c s = .next t) : P t := by
  have ev : ∀ f : State → State, (s.running = true → P (f s)) → s.event f = .next t → P t := by
    intro f hf he
    by_cases hr : s.running = true
    · rw [State.event_running f hr] at he; cases he; exact ht _ (hf hr)
    · rw [State.event_stopped f (by simpa using hr)] at he; cases he; exact h
  have dn : ∀ u : State, P u → u.done = .next t → P t := fun u hu he => by cases he; exact ht _ hu
  cases c
  case characterArrival => exact ev _ (fun _ => h1 _ _ _ _ _ h) e
  case lineBreak => exact ev _ (fun _ => h2 _ _ h) e
  case gapExpiry => exact ev _ (fun _ => h3 _ _ h) e
  case cLineFrame => exact dn _ (hcl _ _ h) e
  case silenceTimeout => exact ev _ (fun _ => h4 _ h) e
  case transmitFrameEnd => exact ev _ (fun _ => h5 _ h) e
  case downwardFrame => exact dn _ (hcl _ _ h) e
  case startAfterReply => exact ev _ (fun hr => h6 _ _ hr h) e
  case exchangeGrant => exact ev _ (fun _ => h7 _ h) e
  case moduleAnswer => exact ev _ (fun _ => h8 _ _ h) e
  case answerWindowExpiry => exact ev _ (fun _ => h9 _ h) e
  case groupExchangeEnd => exact ev _ (fun _ => h10 _ h) e
  case reprobeDue => exact ev _ (fun _ => h11 _ _ h) e
  case secondAdvance => exact dn _ (h12 _ h) e
  case oscillatorStop => cases e; exact h13 _ h
  case sensorRise => exact ev _ (fun _ => h14 _ _ _ h) e
  case sensorFall => exact ev _ (fun _ => h15 _ _ _ h) e
  case aLimitExpiry => exact ev _ (fun _ => h16 _ h) e
  case gapLimitExpiry => exact ev _ (fun _ => h17 _ h) e
  case acceptWaitExpiry => exact ev _ (fun _ => h18 _ h) e
  case returnWaitExpiry => exact ev _ (fun _ => h19 _ h) e
  case idleWaitExpiry => exact ev _ (fun _ => h20 _ h) e
  case doorChange => exact ev _ (fun _ => h21 _ _ h) e
  case leverPress => exact ev _ (fun _ => h22 _ h) e
  case pwmPeriod => exact ev _ (fun _ => h23 _ _ h) e
  case pullInCheck => exact ev _ (fun _ => h24 _ _ _ h) e
  case diverterChangeover => exact ev _ (fun _ => h25 _ h) e
  case exitPulse => exact ev _ (fun _ => h26 _ _ h) e
  case jamTimeout => exact ev _ (fun _ => h27 _ _ h) e
  case trailingWindowEnd => exact ev _ (fun _ => h28 _ _ h) e
  case writeTimeout => exact ev _ (fun _ => h29 _ h) e
  case cutTimeout => exact ev _ (fun _ => h30 _ h) e
  case roomAskDelay => exact ev _ (fun _ => h31 _ h) e
  case powerReturn => exact dn _ (h32 _ _ h) e
  case mainPowerLoss => cases e; exact h33 _ h
  case resetHeld => cases e; exact h34 _ h
  case resetRelease => exact dn _ (h35 _ _ h) e
  case hundredthAdvance => exact dn _ (h36 _ h) e
  case timeBaseRunsAgain => cases e; exact h37 _ h
  case backupSupplyFailure => cases e; exact h38 _ h
  all_goals exact dn _ (hrq _ _ h) e

end Sys2Proof.Machine
end

