-- ==== Sys2Proof/Laws/Encoding.lean ====
section
/-! SUPPORT. The fields of the frames: numbers of two and four bytes as their bytes, and read back (R177). -/

namespace Sys2Proof.Machine

/-- A 16-bit number's two bytes, low byte first. -/
theorem leBytes_two (v : Word16) : leBytes 2 v.toNat = [v.extractLsb' 0 8, v.extractLsb' 8 8] := by
  simp only [leBytes]
  refine List.cons_eq_cons.2 ⟨?_, List.cons_eq_cons.2 ⟨?_, rfl⟩⟩
  · apply BitVec.eq_of_toNat_eq; simp [BitVec.extractLsb'_toNat]
  · apply BitVec.eq_of_toNat_eq; simp [BitVec.extractLsb'_toNat, Nat.shiftRight_eq_div_pow]

/-- A 32-bit number's four bytes, low byte first. -/
theorem leBytes_four (v : Word32) :
    leBytes 4 v.toNat = [v.extractLsb' 0 8, v.extractLsb' 8 8, v.extractLsb' 16 8, v.extractLsb' 24 8] := by
  simp only [leBytes]
  refine List.cons_eq_cons.2 ⟨?_, List.cons_eq_cons.2 ⟨?_, List.cons_eq_cons.2 ⟨?_, List.cons_eq_cons.2 ⟨?_, rfl⟩⟩⟩⟩
  all_goals (apply BitVec.eq_of_toNat_eq; simp [BitVec.extractLsb'_toNat, Nat.shiftRight_eq_div_pow, Nat.div_div_eq_div_mul])

/-- The two bytes of a 16-bit number read back. -/
theorem word16_bytes (v : Word16) : word16 (v.extractLsb' 0 8) (v.extractLsb' 8 8) = v := by
  unfold word16
  apply BitVec.eq_of_getLsbD_eq
  intro i hi
  simp only [BitVec.getLsbD_append, BitVec.getLsbD_extractLsb']
  rcases Nat.lt_or_ge i 8 with h | h
  · simp [h]
  · have h2 : 8 + (i - 8) = i := by omega
    simp [show ¬ i < 8 by omega, show i - 8 < 8 by omega, h2]

/-- The four bytes of a 32-bit number read back. -/
theorem word32_bytes (v : Word32) :
    word32 (v.extractLsb' 0 8) (v.extractLsb' 8 8) (v.extractLsb' 16 8) (v.extractLsb' 24 8) = v := by
  unfold word32
  apply BitVec.eq_of_getLsbD_eq
  intro i hi
  simp only [BitVec.getLsbD_append, BitVec.getLsbD_extractLsb']
  rcases Nat.lt_or_ge i 8 with h | h
  · simp [h, show i < 16 by omega, show i < 24 by omega]
  rcases Nat.lt_or_ge i 16 with h2 | h2
  · simp [show ¬ i < 8 by omega, show i - 8 < 8 by omega, h2, show i < 24 by omega, show 8 + (i - 8) = i by omega]
  rcases Nat.lt_or_ge i 24 with h3 | h3
  · simp [show ¬ i < 8 by omega, show ¬ i < 16 by omega, h3, show i - 16 < 8 by omega, show 16 + (i - 16) = i by omega]
  · simp [show ¬ i < 8 by omega, show ¬ i < 16 by omega, show ¬ i < 24 by omega, show i - 24 < 8 by omega, show 24 + (i - 24) = i by omega]

/-- The bytes of a number by their place. -/
theorem leBytes_range (k n : Nat) : leBytes k n = (List.range k).map fun i => BitVec.ofNat 8 (n / 256 ^ i) := by
  induction k generalizing n with
  | zero => rfl
  | succ k ih =>
    rw [leBytes, ih, List.range_succ_eq_map, List.map_cons, List.map_map]
    simp [Function.comp_def, Nat.div_div_eq_div_mul, Nat.pow_succ, Nat.mul_comm]

/-- The first field and then the others. -/
theorem fieldBytes_cons (k n : Nat) (fs) : fieldBytes ((k, n) :: fs) = leBytes k n ++ fieldBytes fs := by
  simp [fieldBytes, leBytes_range]

/-- Fields after fields. -/
theorem fieldBytes_append (a b) : fieldBytes (a ++ b) = fieldBytes a ++ fieldBytes b := by simp [fieldBytes]

/-- The bytes of 0. -/
theorem leBytes_zero (k : Nat) : leBytes k 0 = List.replicate k 0 := by
  induction k with
  | zero => rfl
  | succ k ih => rw [leBytes, Nat.zero_div, ih]; rfl

/-- A number of so many bytes has so many. -/
theorem leBytes_length (k n : Nat) : (leBytes k n).length = k := by simp [leBytes_range]

/-- The length of fields is the sum of their sizes. -/
theorem fieldBytes_length (fs) : (fieldBytes fs).length = (fs.map Prod.fst).sum := by
  induction fs with
  | nil => rfl
  | cons a t ih => obtain ⟨k,n⟩ := a; simp [fieldBytes_cons, leBytes_length, ih]

/-- A flag is a one-byte number. -/
theorem flagByte_eq (b : Bool) : [flagByte b] = leBytes 1 b.toNat := by cases b <;> rfl

/-- An optional field is a presence byte and its fields. -/
theorem optional_eq {α} (size) (f : α → List Byte) (sizes) (g : α → List Nat) (hs : sizes.sum = size)
    (hl : ∀ a, f a = fieldBytes (sizes.zip (g a))) (o : Option α) :
   Machine.optional size f o = fieldBytes (optionalFields sizes (o.map g)) := by
  cases o with
  | none =>
    have : ∀ ss : List Nat, fieldBytes (ss.map fun n => (n,0)) = List.replicate ss.sum 0 := by
      intro ss; induction ss with
      | nil => rfl
      | cons a t ih => simp only [List.map_cons, fieldBytes_cons, ih, leBytes_zero, List.sum_cons, List.replicate_append_replicate]
    simp only [Machine.optional, optionalFields, Option.map_none, fieldBytes_cons, this, hs, leBytes_zero,
      List.replicate_append_replicate, Nat.add_comm]
  | some a => simp only [Machine.optional, optionalFields, Option.map_some, fieldBytes_cons, hl, leBytes]; rfl

end Sys2Proof.Machine
end

