-- ==== Sys2Proof/Laws/Operations.lean ====
section
/-! SUPPORT. What each shared operation of the receivers, the chute, the tubes, the payout and the purchase can do, said once in the
terms of Safety.lean; the provers cite these in place of unfolding the operations. -/

namespace Sys2Proof.Machine

/-! ## The receivers (R2) -/

/-- A sender's parity bit gives even parity (R1). -/
theorem evenParity_bit (b : Byte) : evenParity b (evenParityBit b) = true := by
  revert b
  decide +kernel

/-- An arriving character without an error is stored as Stored says. -/
theorem Receiver.store_stored (b : Byte) (q : Receiver) : Stored b (evenParityBit b) true q (q.store b false false) := by
  have h := evenParity_bit b
  by_cases hc : charCount q.fifo < 64
  · have hn : ¬Config.fifoDepth ≤ charCount q.fifo := Nat.not_le.2 hc
    unfold Receiver.store
    constructor <;> simp [h, hc, hn, Tallies.ofChar]
  · have hn : Config.fifoDepth ≤ charCount q.fifo := Nat.not_lt.1 hc
    unfold Receiver.store
    constructor <;> simp [h, hc, hn, Tallies.ofChar, bump, satAdd, Config.saturation]

/-- The characters of some bytes, stored one by one, make of a receiver what StoredAll says. -/
theorem Receiver.store_storedAll (bs : List Byte) (q : Receiver) :
    StoredAll bs q (bs.foldl (fun r b => r.store b false false) q) := by
  induction bs generalizing q with
  | nil => rfl
  | cons b bs ih => exact ⟨_, Receiver.store_stored b q, ih _⟩

/-! ## The entry test -/

/-- A second entry test changes nothing. -/
theorem State.entryTest_entryTest (s : State) : s.entryTest.entryTest = s.entryTest := by
  have := State.entryTest_tested s
  generalize s.entryTest = t at *
  unfold State.entryTest
  rw [if_pos this.causes.symm]

/-- Of the coils, the entry test moves EB alone. -/
theorem State.entryTest_coils (s : State) :
    s.entryTest.coils = { s.coils with coils := { s.coils.coils with eb := s.entryTest.coils.coils.eb } } :=
  congrArg State.coils (State.entryTest_tested s).frame

/-- Of the coils, what a valid frame does moves EB alone. -/
theorem State.frameSeen_coils (s : State) :
    s.frameSeen.coils = { s.coils with coils := { s.coils.coils with eb := s.frameSeen.coils.coils.eb } } := by
  unfold State.frameSeen
  split
  · exact State.entryTest_coils _
  · rfl

/-- A valid frame leaves the print path as it is. -/
theorem State.frameSeen_printPath (s : State) (t : Nat) : s.frameSeen.printPath t = s.printPath t := by
  simp [State.printPath, State.presentOfRole, State.slotOfRole, State.templateLines]

/-- A valid frame leaves the hotlist search as it is. -/
theorem State.frameSeen_hotlisted (s : State) (n : Nat) : s.frameSeen.hotlisted n = s.hotlisted n := by
  simp [State.hotlisted]

/-- A valid frame leaves the journal test as it is. -/
theorem State.frameSeen_journalTakes (s : State) (n : Nat) : s.frameSeen.journalTakes n = s.journalTakes n := by
  simp [State.journalTakes]

/-! ## The chute -/

/-- The chute's entry into FAULT of a kind other than COIL does what Faulted says. -/
theorem State.enterFault_faulted (k : FaultKind) (hk : k ≠ .coil) (s : State) : Faulted k s.coils.atRest s (s.enterFault k) := by
  refine ⟨_, ?_, rfl⟩
  convert State.entryTest_tested _ using 1
  simp [State.onChute, State.onCoils, hk, CoilDriver.atRest, CoilDriver.divert, CoilDriver.drive, PerCoil.set, PerCoil.get,
    Coil.on, Config.idleWaitMs, Coil.release]

/-- One more of a kind in the per-kind counts. -/
theorem countKind_eq (k : Nat) (v : Vector Nat 12) :
    countKind k v = Vector.ofFn fun i : Fin 12 => if k = i.val + 1 then min (v.get i + 1) 65535 else v.get i := by
  unfold countKind
  split
  · next h =>
    ext i hi
    simp [Vector.getElem_set, satAdd, Config.saturation, Vector.get_eq_getElem]
    split
    · next h1 => subst h1; rw [if_pos (by omega)]
    · rw [if_neg (by omega)]
  · next h =>
    ext i hi
    simp [Vector.get_eq_getElem]
    intro; omega

/-- A ratio with the greater of flight and 1 as the divisor. -/
theorem ratio_eq (w f : Nat) : ratio w f = min (w * 256 / max f 1) 1023 := by
  unfold ratio; congr 2; split <;> omega

/-- A measurement is saturated where one of its counts is at 65535. -/
theorem saturated_iff (a b c : Nat) : saturated a b c = true ↔ 65535 ≤ a ∨ 65535 ≤ b ∨ 65535 ≤ c := by
  show ((decide (65535 ≤ a) || decide (65535 ≤ b)) || decide (65535 ≤ c)) = true ↔ _
  simp only [Bool.or_eq_true, decide_eq_true_eq, or_assoc]

/-- The kinds that match are those of the entries that fit. -/
theorem mem_matchingKinds (t : CoinTable) (rA rB f k : Nat) :
    k ∈ matchingKinds t rA rB f ↔ 1 ≤ k ∧ ∃ e, t.coins[k - 1]? = some e ∧ e.fits rA rB f = true := by
  unfold matchingKinds
  simp only [List.mem_map, List.mem_filter, List.mem_zipIdx_iff_getElem?]
  constructor
  · rintro ⟨⟨e, i⟩, ⟨h1, h2⟩, rfl⟩
    exact ⟨by simp, e, by simpa using h1, h2⟩
  · rintro ⟨hk, e, h1, h2⟩
    exact ⟨(e, k - 1), ⟨h1, h2⟩, by simp; omega⟩

/-- No kind matches twice. -/
theorem matchingKinds_nodup (t : CoinTable) (rA rB f : Nat) : (matchingKinds t rA rB f).Nodup := by
  unfold matchingKinds
  have h1 : ((t.coins.zipIdx).map Prod.snd).Nodup := by
    rw [List.zipIdx_map_snd]; exact List.nodup_range'
  have h2 := h1.sublist (List.Sublist.map Prod.snd (List.filter_sublist (l := t.coins.zipIdx) (p := fun p => p.1.fits rA rB f)))
  have h3 := h2.map (f := (· + 1)) (by intro a b; simp)
  simpa [List.map_map, Function.comp_def] using h3

/-! ## Tubes -/

/-- The flags after a change of a tube do what FlagsTested says. -/
theorem State.tubesChanged_tested (v before : State) : FlagsTested before v (v.tubesChanged before) := by
  have hg : ∀ i : Fin 4, v.withLows.tubes.get i = { v.tubes.get i with low := v.isLow i } := by
    intro i; simp [State.withLows, Vector.get_eq_getElem]
  have hm : flagsMoved before v.withLows = true ↔
      ¬∀ i : Fin 4, (v.withLows.tubes.get i).low = (before.tubes.get i).low ∧
        (v.withLows.tubes.get i).faulted = (before.tubes.get i).faulted := by
    generalize v.withLows = w
    unfold flagsMoved
    rw [List.any_eq_true]
    push Not
    constructor
    · rintro ⟨i, _, hi⟩
      refine ⟨i, fun a b => ?_⟩
      simp [a, b] at hi
    · rintro ⟨i, hi⟩
      refine ⟨i, List.mem_finRange i, ?_⟩
      by_cases c : (w.tubes.get i).low = (before.tubes.get i).low
      · have := hi c
        simp [c]; exact Ne.symm this
      · simp; right; exact Ne.symm c
  unfold State.tubesChanged
  by_cases c : flagsMoved before v.withLows = true
  · rw [if_pos c]
    exact ⟨rfl, hg, fun h => absurd h (hm.1 c), fun _ => rfl⟩
  · rw [if_neg c]
    exact ⟨rfl, hg, fun _ => rfl, fun h => absurd (hm.2 h) c⟩

/-! ## Activations -/

/-- An installed copy, TABLE where there is room for it. -/
theorem State.install_installed (k : TableKind) (waited : Bool) (s : State) :
    ((s.onRetained (Retained.install k (s.loads.get k))).setLoad k .empty).issueReserved (.table ⟨k, (s.loads.get k).generation,
      s.retained.generation k, s.clock.day, s.clock.second, s.clock.valid, waited⟩) = s.installed k waited := by
  unfold State.issueReserved State.issueFree State.freeSlots State.installed
  by_cases h : 0 < s.reserved
  · simp [State.onRetained, State.setLoad, h, Load.empty]
  · have h0 : s.reserved = 0 := by omega
    by_cases hg : generalCount s.reports < 11
    · simp [State.onRetained, State.setLoad, h0, Load.empty, Config.generalSlots, hg]
    · have : ¬ 0 < 11 - generalCount s.reports := by omega
      simp [State.onRetained, State.setLoad, h0, Load.empty, Config.generalSlots, hg]

/-- A coil in drive begins a fresh PULL-IN once. -/
theorem Coil.fresh (h : CoinHeader) (n : CoilName) (c : Coil) :
    (if (if c.on then c.begin h n else c).phase = .pullIn ∧ (!(if c.on then c.begin h n else c).begun) = true then
      (if c.on then c.begin h n else c).begin h n else if c.on then c.begin h n else c) =
      if c.phase = .off then c else ⟨.pullIn, true, pullInCount h n, c.sensed⟩ := by
  by_cases hc : c.phase = .off <;> simp [Coil.on, hc, Coil.begin]

/-- The coils under a new profile. -/
theorem CoilDriver.newProfile_reprofiled (h : CoinHeader) (d : CoilDriver) : Reprofiled h d (d.newProfile h) := by
  have e : d.newProfile h =
      let m : CoilDriver := { d with
        coils := ⟨if d.coils.eb.phase = .off then d.coils.eb else ⟨.pullIn, true, pullInCount h .eb, d.coils.eb.sensed⟩,
          if d.coils.ag.phase = .off then d.coils.ag else ⟨.pullIn, true, pullInCount h .ag, d.coils.ag.sensed⟩,
          ⟨.off, false, 0, d.coils.dvt.sensed⟩,
          if d.coils.dvk.phase = .off then d.coils.dvk else ⟨.pullIn, true, pullInCount h .dvk, d.coils.dvk.sensed⟩⟩
        command := .cashBox, target := if d.coils.dvk.phase = .off then some false else none }
      { m.changeover h with driven := (m.changeover h).sideOn } := by
    simp only [CoilDriver.newProfile, CoilDriver.divert, CoilDriver.drive, CoilDriver.periodStart, PerCoil.get, PerCoil.set,
      PerCoil.mapNamed, Coil.fresh, Bool.false_eq_true, if_false]
    simp [Coil.release, Coil.on]
  rw [e]
  dsimp only
  by_cases h4 : d.coils.dvk.phase = .off
  · cases hf : (d.faulted || decide (d.quiet < h.nonOverlap))
    · simp only [CoilDriver.changeover, hf, h4, if_true, if_false, Bool.false_eq_true]
      simp only [Bool.or_eq_false_iff, decide_eq_false_iff_not] at hf
      constructor <;> simp [CoilDriver.sideOn, Coil.on, Coil.begin, h4, hf]
    · simp only [CoilDriver.changeover, hf, h4, if_true]
      simp only [Bool.or_eq_true, decide_eq_true_eq] at hf
      constructor <;> simp [CoilDriver.sideOn, Coil.on, h4]
      intro a
      rcases hf with c | c
      · rw [a] at c; cases c
      · exact c
  · have c : ∀ m : CoilDriver, m.target = none → m.changeover h = m := by
      intro m hm; unfold CoilDriver.changeover; rw [hm]; split <;> rfl
    rw [c _ (by simp [h4])]
    constructor <;> simp [CoilDriver.sideOn, Coil.on, h4]

/-- An activation that takes place does what Activated says. -/
theorem State.takeActivation_activated (k : TableKind) (waited : Bool) (s : State) :
    Activated k waited s (s.takeActivation k waited) := by
  unfold State.takeActivation
  dsimp only
  rw [State.install_installed]
  cases k
  · have hc : (s.installed .coin waited).retained.coin =
        some ⟨(s.loads.get .coin).generation, parseCoin (s.loads.get .coin).entries⟩ := rfl
    refine ⟨_, _, ((s.installed .coin waited).tubesChanged s).entryTest.coils.newProfile
      (parseCoinHeader ((s.loads.get .coin).entries.headD [])), State.tubesChanged_tested _ _, State.entryTest_tested _,
      CoilDriver.newProfile_reprofiled _ _, fun h => ?_, fun h => ?_⟩
    all_goals
      have ht : (((s.installed .coin waited).tubesChanged s).entryTest).coinTable =
          some (parseCoin (s.loads.get .coin).entries) := by
        unfold State.coinTable
        rw [State.entryTest_retained, (State.tubesChanged_tested _ _).frame]
        rfl
      simp only [State.afterActivation, ht]
    · rw [if_pos (by exact h)]; rfl
    · rw [if_neg (by exact h)]; rfl
  · exact State.entryTest_tested _
  · rfl
  · rfl
  · rfl

/-- A schedule that falls due does what FellDue says. -/
theorem State.fallDue_fellDue (k : TableKind) (s : State) : FellDue k s (s.fallDue k) := by
  unfold State.fallDue
  have hd : ∀ u : State, u.allows k = !u.defers k := by
    intro u; cases k <;> simp [State.allows, State.defers, bne]
    · cases u.printer.job <;> rfl
  refine ⟨fun h => ?_, fun h => ?_⟩
  · rw [if_neg]
    · rfl
    · rw [hd]; show ¬(!s.defers k) = true; simp [h]
  · rw [if_pos]
    · exact State.takeActivation_activated _ _ _
    · rw [hd]; show (!s.defers k) = true; simp [h]

/-- The test of one schedule asks what State.dueNow says. -/
theorem State.fallsDue_dueNow (k : TableKind) (s : State) : s.fallsDue k = s.dueNow k := by
  unfold State.fallsDue State.dueNow
  dsimp only
  generalize s.loads.get k = l
  obtain ⟨a, b, c, d, e, f, due, fallen⟩ := l
  cases due
  · simp
  · rw [Bool.eq_iff_iff]; cases fallen <;> simp [Clock.reached]

/-- The test of the schedules does what SchedulesTested says. -/
theorem State.testSchedules_tested (s : State) : SchedulesTested s.testSchedules.1 s s.testSchedules.2 := by
  have key : ∀ (ks : List TableKind) (n : Nat) (u : State),
      let p := ks.foldl (fun (p : Nat × State) k => if p.2.fallsDue k then (p.1 + 1, p.2.fallDue k) else p) (n, u)
      ∃ m, p.1 = n + m ∧ KindsTested ks m u p.2 := by
    intro ks
    induction ks with
    | nil => intro n u; exact ⟨0, rfl, rfl, rfl⟩
    | cons k ks ih =>
      intro n u
      simp only [List.foldl_cons]
      cases h : u.fallsDue k
      · obtain ⟨m, a, b⟩ := ih n u
        refine ⟨m, by simpa using a, fun c => ?_, fun _ => by simpa using b⟩
        rw [← State.fallsDue_dueNow, h] at c; cases c
      · obtain ⟨m, a, b⟩ := ih (n + 1) (u.fallDue k)
        refine ⟨m + 1, ?_, fun _ => ⟨m, _, rfl, State.fallDue_fellDue k u, by simpa using b⟩, fun c => ?_⟩
        · simp only [if_true]; rw [a]; omega
        · rw [← State.fallsDue_dueNow, h] at c; cases c
  obtain ⟨m, a, b⟩ := key allKinds 0 s
  have : s.testSchedules.1 = m := by unfold State.testSchedules; rw [a]; omega
  rw [this]
  exact b

/-- A waiting activation that its block allows takes place. -/
theorem State.takeWaiting_taken {k : TableKind} {s : State} (h : s.allows k = true) : WaitingTaken k s (s.takeWaiting k) := by
  unfold State.takeWaiting
  refine ⟨fun w => ?_, fun w => ?_⟩
  · rw [if_pos]
    · exact State.takeActivation_activated _ _ _
    · simpa [State.waits, h] using w
  · rw [if_neg]
    simpa [State.waits, h] using w

/-- The chute comes to IDLE as ToIdle says. -/
theorem State.chuteToIdle_toIdle (s : State) : ToIdle s s.chuteToIdle :=
  ⟨_, State.takeWaiting_taken (by rfl), State.entryTest_tested _⟩

/-! ## Plans and payouts -/

/-- A pass with no entry leaves the whole amount. -/
theorem walk_nil (c : Nat) (cs : List Candidate) : (walk c cs).1 = [] → (walk c cs).2 = c := by
  induction cs generalizing c with
  | nil => intro _; rfl
  | cons x xs ih =>
    simp only [walk]
    split
    · next h => intro h2; have := ih _ h2; rw [this, h]; simp
    · simp

/-- An empty plan has the whole amount as shortfall. -/
theorem planOver_nil (c : Nat) (cs : List Candidate) (h : (planOver c cs).1 = []) : (planOver c cs).2 = c := by
  unfold planOver at h ⊢
  generalize List.find? _ _ = o at h ⊢
  cases o <;> exact walk_nil _ _ h

/-- A plan rests on the COIN table, the tube counts and the tubes alone. -/
theorem State.plan_congr (u w : State) (h1 : w.retained.coin = u.retained.coin)
    (h2 : w.retained.tubeCounts = u.retained.tubeCounts) (h3 : w.tubes = u.tubes) (t : Nat) : w.plan t = u.plan t := by
  simp only [State.plan]
  congr 1
  unfold State.candidates
  congr 1
  congr 1
  funext i
  simp [State.candidate, State.tubeValue, State.coinTable, State.tubeEntry, State.tubeCount, h1, h2, h3]

/-- A report with a reservation takes it. -/
theorem State.issueReserved_eq (r : Report) (s : State) (h : 0 < s.reserved) :
    s.issueReserved r = { s with reports := s.reports ++ [r], reserved := s.reserved - 1 } := by
  simp [State.issueReserved, h]

/-- A payout's end does what State.payoutEnded says, and the entry is tested. -/
theorem State.endPayout_tested (p : Payout) (s : State) (h : s.payout = some p) (hr : 0 < s.reserved) :
    Tested (s.payoutEnded p) s.endPayout := by
  unfold State.endPayout
  simp only [h]
  convert State.entryTest_tested _ using 1
  rw [State.issueReserved_eq _ _ (by exact hr)]
  simp [State.payoutEnded, State.rest, State.issueCredit, State.issueFixed, State.onLedger, Move.endPayout]

/-- A payout of the whole credit does what PaidOut says. -/
theorem State.startPayout_paidOut (cause : PayoutCause) (u : State) (hr : 0 < u.reserved) :
    PaidOut cause u (u.startPayout cause) := by
  have ht : u.startPayout cause = (State.runPlan (u.plan u.retained.ledger.c.toNat).1
      ({ u with
        retained := { u.retained with ledger := Move.startPayout u.retained.ledger }, purchase := .payout
        payout := some (Payout.fresh cause u.retained.ledger.c)
        reports := putFixed (.credit ⟨0, .payout, 0, 0, 0⟩) u.reports })).entryTest := by
    unfold State.startPayout
    dsimp only
    rw [State.plan_congr u] <;> rfl
  rw [ht]
  refine ⟨fun e es hp => ?_, fun hp => ?_⟩
  · rw [hp]
    convert State.entryTest_tested _ using 1
    simp only [State.runPlan, State.startEntry, State.payoutBegun]
    by_cases hd : u.doorOpen = true
    · simp [hd, Payout.fresh, Move.startPayout]
    · simp [hd, Payout.fresh, Move.startPayout, State.onTube]
  · rw [hp]
    simp only [State.runPlan, State.endPayout]
    rw [State.entryTest_entryTest]
    convert State.entryTest_tested _ using 1
    simp only [State.payoutEnded, State.payoutEmpty]
    simp [State.issueReserved, State.onLedger, State.rest, State.issueCredit, State.issueFixed, Move.startPayout,
      Move.endPayout, Payout.fresh, hr]

/-! ## Ends of an operation -/

/-- The purchase comes to rest as State.rested says, and the entry is tested. -/
theorem State.comeToRest_tested (s : State) : Tested s.rested s.comeToRest := by
  convert State.entryTest_tested _ using 1
  simp [State.comeToRest, State.rested, State.rest, State.issueCredit, State.issueFixed]

/-- What follows a sale's end does what AfterSale says. -/
theorem State.afterSale_after (o : OpRecord) (v : Bool) (s : State) (h : 0 < s.reserved) : AfterSale o v s (s.afterSale o v) := by
  unfold State.afterSale
  refine ⟨fun a ⟨x, b, c⟩ d => ?_, fun a => ?_⟩
  · rw [if_pos (by simp [a, b, c]; exact d)]
    exact State.startPayout_paidOut _ _ h
  · rw [if_neg]
    · exact State.comeToRest_tested _
    · rintro ⟨b, c, d⟩
      rcases a with a | ⟨x, a, e⟩ | a
      · simp [a] at b
      · simp [a, e] at c
      · exact d a

/-- An operation's end does what State.opEnded says. -/
theorem State.endOp_ended (m : Ledger → Ledger) (r : Report) (s : State) (h : 0 < s.reserved) :
    s.endOp m r = s.opEnded (m s.retained.ledger) r := by
  unfold State.endOp
  rw [State.issueReserved_eq _ _ (by exact h)]
  rfl

end Sys2Proof.Machine
end

