-- ==== Sys2Proof/Laws/Exchanges.lean ====
section
/-! SUPPORT. What each shared operation of the cards, the print unit and the M-line exchanges can do, said once in the terms of
Safety.lean; the provers cite these in place of unfolding the operations. -/

namespace Sys2Proof.Machine

/-! ## The end of a binding and of a card write -/

/-- The end of a binding. -/
theorem State.unbind_unbound (s : State) : s.unbind = s.unbound := rfl

/-- What follows an unbinding. -/
theorem State.afterUnbind_departed (s : State) : Departed s s.unbind.afterUnbind := by
  have hb : s.unbind.card.binding = none := rfl
  unfold State.afterUnbind
  refine ⟨fun h1 h2 => ?_, fun h => ?_⟩
  · rw [if_pos (by exact h1)]
    have hr : s.unbind.rest = { s.unbind with purchase := .idle } := by
      unfold State.rest
      rw [if_neg]
      simp only [hb, Option.isSome_none, Bool.false_or, bne_iff_ne, ne_eq, Decidable.not_not]
      exact h2
    dsimp only
    rw [hr, if_pos rfl]
    exact State.entryTest_tested _
  · split
    · next h1 =>
      have h2 : s.retained.ledger.c ≠ 0 := h.resolve_left fun n => n (by exact h1)
      have hr : s.unbind.rest = s.unbind := by
        have : s.unbind.rest = { s.unbind with purchase := .opened } := by
          unfold State.rest
          rw [if_pos]
          simp [hb]
          exact h2
        rw [this, ← h1]
      dsimp only
      rw [hr, if_neg (by rw [h1]; decide)]
      rfl
    · rfl

/-- A card leaves as CardLeft says. -/
theorem State.cardLeaves_left (s : State) : CardLeft s s.cardLeaves := by
  unfold State.cardLeaves
  refine ⟨fun h => ?_, fun b h hw => ?_, fun b h hw => ?_⟩
  · rw [h]
  · rw [h]
    dsimp only
    rw [hw]
    exact State.afterUnbind_departed s
  · rw [h]
    dsimp only
    cases e : s.card.write with
    | none => exact absurd e hw
    | owed w => simp [State.onCard, e]
    | sent w => simp [State.onCard, e]

/-- A card write is closed. -/
theorem State.writeEnds_closed (s : State) : s.writeEnds = s.writeClosed := rfl

/-- What follows a card operation's end. -/
theorem State.afterCard_after (o : OpRecord) (v : Bool) (s : State) (h : 0 < s.reserved) :
    AfterCard o v s (if o.kind = .topup then s.release.comeToRest else s.afterSale o v) := by
  refine ⟨fun k => ?_, fun k => ?_⟩
  · rw [if_pos k]; exact State.comeToRest_tested _
  · rw [if_neg k]; exact State.afterSale_after o v s h

/-- A write ends uncertain as WriteUncertain says. -/
theorem State.writeUncertain_uncertain (o : OpRecord) (w : CardWrite) (c : UncertainCause) (s : State) (h : 2 ≤ s.reserved) :
    WriteUncertain o w c s (s.writeUncertain o w c) := by
  unfold State.writeUncertain WriteUncertain
  dsimp only
  rw [State.endOp_ended _ _ _ (by show 0 < s.reserved; omega)]
  refine State.afterCard_after o false _ ?_
  split <;> (show 0 < s.reserved - 1; omega)

/-! ## The print unit -/

/-- What the print unit owes. -/
theorem Printer.duty_owes (p : Printer) : PrintOwes p p.duty := by
  unfold Printer.duty
  cases hj : p.job with
  | none => constructor <;> intros <;> first | rfl | simp_all
  | some j =>
    dsimp only
    by_cases h1 : j.awaitCut = true ∨ p.owed = .ask false
    · rw [if_pos h1]
      constructor <;> intros <;> first | rfl | simp_all
    · rw [if_neg h1]
      push Not at h1
      by_cases h2 : j.next < j.lines.length
      · by_cases h3 : 0 < p.room
        · constructor <;> intros <;> simp_all [Job.linesLeft] <;> omega
        · by_cases h4 : p.askWait = true
          · constructor <;> intros <;> simp_all [Job.linesLeft] <;> omega
          · constructor <;> intros <;> simp_all [Job.linesLeft] <;> omega
      · constructor <;> intros <;> simp_all [Job.linesLeft]

/-- The owner of a job is told as OwnerTold says. -/
theorem State.tellOwner_told (j : Job) (failure : Option VoidCause) (s : State)
    (h : (j.kind = .ticket → 2 ≤ s.reserved) ∧ (j.kind ≠ .reprint → 1 ≤ s.reserved)) :
    OwnerTold j failure s (s.tellOwner j failure) := by
  unfold State.tellOwner OwnerTold
  cases hk : j.kind <;> dsimp only
  · intro o ho
    have h2 := h.1 hk
    refine ⟨fun hf => ?_, fun c hf => ?_⟩
    all_goals
      subst hf
      unfold State.ticketEnds
      rw [ho]
      dsimp only
      rw [State.endOp_ended _ _ _ (by omega)]
      exact State.afterSale_after _ _ _ (by show 0 < s.reserved - 1; omega)
  · intro o ho
    have h2 := h.2 (by rw [hk]; decide)
    refine ⟨fun hf => ?_, fun c hf => ?_⟩
    all_goals
      subst hf
      unfold State.voucherEnds
      rw [ho]
      dsimp only
      rw [State.endOp_ended _ _ _ (by omega)]
      exact State.comeToRest_tested _
  · have h2 := h.2 (by rw [hk]; decide)
    unfold State.receiptEnds
    rw [State.issueReserved_eq _ _ (by exact h2)]
    rfl

theorem State.issueReserved_printer (r : Report) (s : State) : (s.issueReserved r).printer = s.printer := by
  unfold State.issueReserved State.issueFree; split
  · rfl
  · split <;> rfl

theorem State.comeToRest_printer (s : State) : s.comeToRest.printer = s.printer := by
  unfold State.comeToRest; rw [State.entryTest_printer]; rfl

theorem State.endPayout_printer (s : State) : s.endPayout.printer = s.printer := by
  unfold State.endPayout
  split
  · rfl
  · dsimp only; rw [State.entryTest_printer]; exact State.issueReserved_printer _ _

theorem State.startPayout_printer (c : PayoutCause) (s : State) : (s.startPayout c).printer = s.printer := by
  unfold State.startPayout
  dsimp only
  rw [State.entryTest_printer]
  unfold State.runPlan
  split
  · rfl
  · split
    · rw [State.endPayout_printer]; rfl
    · unfold State.startEntry
      dsimp only
      split <;> rfl

theorem State.afterSale_printer (o : OpRecord) (v : Bool) (s : State) : (s.afterSale o v).printer = s.printer := by
  unfold State.afterSale
  split
  · exact State.startPayout_printer _ _
  · exact State.comeToRest_printer _

theorem State.endOp_printer (m : Ledger → Ledger) (r : Report) (s : State) : (s.endOp m r).printer = s.printer := by
  unfold State.endOp
  exact State.issueReserved_printer _ _

/-- The owner of a job leaves the print unit as it is. -/
theorem State.tellOwner_printer (j : Job) (failure : Option VoidCause) (s : State) :
    (s.tellOwner j failure).printer = s.printer := by
  unfold State.tellOwner
  split
  · unfold State.ticketEnds
    split
    · rfl
    · split <;> rw [State.afterSale_printer, State.endOp_printer]
  · unfold State.voucherEnds
    split
    · rfl
    · split <;> rw [State.comeToRest_printer, State.endOp_printer]
  · unfold State.receiptEnds
    exact State.issueReserved_printer _ _
  · rfl

/-- Without a job nothing ends. -/
theorem State.jobEnds_none (failure : Option VoidCause) (s : State) (h : s.printer.job = none) : s.jobEnds failure = s := by
  unfold State.jobEnds
  rw [h]

/-- A job ends as JobEnded says. -/
theorem State.jobEnds_ended (j : Job) (failure : Option VoidCause) (s : State) (hj : s.printer.job = some j) (h : s.jobReserved) :
    JobEnded j failure s (s.jobEnds failure) := by
  unfold State.jobEnds
  rw [hj]
  dsimp only
  refine ⟨_, State.tellOwner_told j failure _ (h j hj), State.takeWaiting_taken ?_⟩
  show (State.printer _).job.isNone = true
  rw [State.tellOwner_printer]
  rfl

/-- The unit that owed a frame is told as Told says. -/
theorem State.tellOutcome_told (o : Owner) (valid : Bool) (s : State) (h : s.exchange = none) :
    Told o valid s (s.tellOutcome o valid) := by
  have hd : ∀ p : Printer, ({ s with printer := p } : State).printDuty = { s with printer := p.duty } := by
    intro p
    unfold State.printDuty State.printInFlight
    simp [h, State.onPrinter]
  cases o with
  | cardWrite => rfl
  | forward => rfl
  | poll => rfl
  | hold => cases valid <;> cases hb : s.card.binding <;> simp [State.tellOutcome, Told, State.onCard, CardUnit.class3Ends, hb]
  | release => cases valid <;> simp [State.tellOutcome, Told, State.onCard, CardUnit.class3Ends]
  | printLine tag => exact ⟨_, hd _, Printer.duty_owes _⟩
  | printCut tag =>
    refine ⟨_, hd _, ?_⟩
    convert Printer.duty_owes _ using 1
    cases valid
    · simp only [Bool.not_false, true_and]
      split <;> simp_all [beq_eq_decide]
    · simp
  | printAsk b =>
    refine ⟨_, hd _, ?_⟩
    convert Printer.duty_owes _ using 1
    cases valid
    · simp
    · cases b
      · simp
      · generalize s.printer = p
        obtain ⟨paper, head, fault, room, job, tag, owed, wait⟩ := p
        cases job with
        | none => simp [Printer.sendsLines]
        | some j =>
          by_cases ha : j.awaitCut = true <;> by_cases hr : room = 0 <;> by_cases ho : owed = .ask true <;>
            by_cases hn : j.next < j.lines.length <;> simp [Printer.sendsLines, Job.linesLeft, ha, hr, ho, hn]

/-- ROOM in a print frame's exchange does what RoomInExchange says. -/
theorem Printer.roomInExchange_taken (c : Nat) (p : Printer) : RoomInExchange c p (p.roomInExchange c) := by
  refine ⟨fun h => if_pos h, fun h hr ho j hj ha hn => ?_, fun h hk => ?_⟩
  · subst h
    simp [Printer.roomInExchange, Printer.sendsLines, Job.linesLeft, hr, ho, hj, ha, hn]
  · subst h
    unfold Printer.roomInExchange
    rw [if_neg (Nat.lt_irrefl 0), if_neg]
    rintro ⟨hr, ho, hl⟩
    rcases hk with hk | hk | hk
    · exact absurd hk (Nat.pos_iff_ne_zero.1 hr)
    · exact ho hk
    · unfold Printer.sendsLines at hl
      cases hj : p.job with
      | none => simp [hj] at hl
      | some j => rcases hk j hj with k | k <;> simp [hj, Job.linesLeft, k] at hl <;> omega

/-- One notice is taken as NoticeTaken says. -/
theorem State.takeNotice_taken (o : Owner) (n : Notice) (s : State) (h : ∃ x, s.exchange = some x ∧ x.owner = o) (hr : s.jobReserved) :
    NoticeTaken o n s (s.takeNotice n) := by
  obtain ⟨x, hx, ho⟩ := h
  have hf : ∀ p : Printer, ({ s with printer := p } : State).printInFlight = o.isPrint := by
    intro p
    unfold State.printInFlight
    rw [show ({ s with printer := p } : State).exchange = some x from hx, ← ho]
    obtain ⟨_, w, _⟩ := x
    cases w <;> rfl
  cases n with
  | room c =>
    have hs : s.printInFlight = o.isPrint := hf s.printer
    refine ⟨fun k => ⟨_, ?_, Printer.roomInExchange_taken c s.printer⟩, fun k => ⟨_, ?_, Printer.duty_owes _⟩⟩ <;>
      simp [State.takeNotice, State.onPrinter, Printer.takeRoom, hs, k]
  | cutDone tag =>
    refine ⟨fun j hj ha ht => ?_, fun hn => ?_⟩
    · show JobEnded _ _ _ (s.takeCutDone tag)
      unfold State.takeCutDone
      rw [hj]
      dsimp only
      rw [if_pos ⟨ha, ht⟩]
      exact State.jobEnds_ended j none s hj hr
    · show s.takeCutDone tag = s
      unfold State.takeCutDone
      split
      · rfl
      · next j hj =>
        rw [if_neg]
        rintro ⟨a, b⟩
        rcases hn j hj with c | c
        · rw [a] at c; cases c
        · exact c b
  | state paper head fault =>
    have hs : ∀ c, stateFailure paper head fault = some c ↔ FailsJob paper head fault c := by
      intro c
      unfold stateFailure FailsJob
      by_cases h1 : fault = .set <;> by_cases h2 : head = .opened <;> by_cases h3 : paper = .out <;> simp [h1, h2, h3, eq_comm]
    unfold NoticeTaken
    dsimp only
    have hv : (if (s.printer.paper != paper || s.printer.head != head || s.printer.fault != fault) = true then
        (s.onPrinter fun p => { p with paper := paper, head := head, fault := fault }).issuePrinter (s.printer.paper != paper)
          (s.printer.head != head) (s.printer.fault != fault) 0
        else s.onPrinter fun p => { p with paper := paper, head := head, fault := fault }) =
      { s with
        printer := { s.printer with paper := paper, head := head, fault := fault }
        reports := if decide (s.printer.paper ≠ paper ∨ s.printer.head ≠ head ∨ s.printer.fault ≠ fault) then
          putFixed (.printer ⟨paper, head, fault, decide (s.printer.paper ≠ paper), decide (s.printer.head ≠ head),
            decide (s.printer.fault ≠ fault), s.slots.map Slot.present, 0⟩) s.reports else s.reports } := by
      have e1 : (s.printer.paper != paper) = decide (s.printer.paper ≠ paper) := by cases s.printer.paper <;> cases paper <;> rfl
      have e2 : (s.printer.head != head) = decide (s.printer.head ≠ head) := by cases s.printer.head <;> cases head <;> rfl
      have e3 : (s.printer.fault != fault) = decide (s.printer.fault ≠ fault) := by
        cases s.printer.fault <;> cases fault <;> rfl
      rw [e1, e2, e3]
      by_cases m : s.printer.paper ≠ paper ∨ s.printer.head ≠ head ∨ s.printer.fault ≠ fault
      · rw [if_pos (by simpa [or_assoc] using m), decide_eq_true m]
        rfl
      · rw [if_neg (by simpa [or_assoc] using m), decide_eq_false m]
        rfl
    refine ⟨fun j c hj hc => ?_, fun hn => ?_⟩
    · show JobEnded _ _ _ (s.takeState paper head fault)
      unfold State.takeState
      dsimp only
      rw [hv, (hs c).2 hc]
      exact State.jobEnds_ended j (some c) _ hj hr
    · show s.takeState paper head fault = _
      unfold State.takeState
      dsimp only
      rw [hv]
      split
      · rfl
      · next c hc =>
        rcases hn with hn | hn
        · exact State.jobEnds_none (some c) _ hn
        · exact absurd ((hs c).1 hc) (hn c)

end Sys2Proof.Machine
end

