-- ==== Sys2Proof/Laws/Lines.lean ====
section
/-! SUPPORT. The lines' assemblers over the items of their FIFOs (R3, R5, R12). -/

namespace Sys2Proof.Machine

/-- A discarded frame leaves the assembler in HUNTING (R3). -/
theorem asmTake_discarded (x : RxItem) (a : Assembler) (t : Tallies) (h : (asmTake x a t).event = .discarded) :
    (asmTake x a t).asm = .hunting := by
  cases a <;> cases x <;> simp only [asmTake, assemble, frameComplete] at * <;> split_ifs at * <;> simp_all

/-- A stalled C-line assembler takes nothing (R5). -/
theorem State.runC_stalled (s : State) (hs : s.cStalled = true) : s.runC = s := by
  unfold State.runC
  cases s.cRx.fifo.length with
  | zero => rfl
  | succ n => unfold State.pumpC; rw [if_pos hs]

/-- What the C-line assembler does with the one item its FIFO holds. -/
theorem State.runC_one (x : RxItem) (r : Receiver) (s : State) (hr : s.running = true) (hs : s.cStalled = false) (hf : r.fifo = [x]) :
    TakenOnC x { r with fifo := [] } s (.next ({ s with cRx := r }).runC.transmit) := by
  have e : ({ s with cRx := r }).runC = State.pumpC 1 { s with cRx := r } := by simp [State.runC, hf]
  have hs' : ({ s with cRx := r }).cStalled = false := hs
  rw [e]; unfold State.pumpC
  rw [if_neg (by rw [hs']; decide)]
  dsimp only
  rw [hf]; dsimp only
  unfold TakenOnC; dsimp only
  unfold Receiver.took
  generalize asmTake x r.asm r.tallies = o
  obtain ⟨a, ev, t⟩ := o
  refine ⟨fun h => ?_, fun f h => ?_⟩
  · cases ev with
    | frame f => exact absurd rfl (h f)
    | _ => rfl
  · cases h
    simp only [State.pumpC]
    symm
    have hr2 : ({ s with cRx := { r with fifo := [], asm := a, tallies := t } } : State).running = true := hr
    have hs2 : ({ s with cRx := { r with fifo := [], asm := a, tallies := t } } : State).cStalled = false := hs
    simp [exec, execCLineFrame, State.done, State.onCLine, hr2, hs2]

/-- What the M-line assembler does with the one item its FIFO holds. -/
theorem State.runM_one (x : RxItem) (r : Receiver) (s : State) (hr : s.running = true) (hs : s.mAccepts = true) (hf : r.fifo = [x]) :
    TakenOnM x { r with fifo := [] } s (.next ({ s with mRx := r }).runM.transmit) := by
  have e : ({ s with mRx := r }).runM = State.pumpM 1 { s with mRx := r } := by simp [State.runM, hf]
  have hs' : ({ s with mRx := r }).mAccepts = true := hs
  rw [e]; unfold State.pumpM
  rw [if_neg (by rw [hs']; decide)]
  dsimp only
  rw [hf]; dsimp only
  unfold TakenOnM; dsimp only
  unfold Receiver.took
  have hd := asmTake_discarded x r.asm r.tallies
  revert hd
  generalize asmTake x r.asm r.tallies = o
  intro hd
  obtain ⟨a, ev, t⟩ := o
  refine ⟨fun h => ?_, fun h => ?_, fun f h => ?_⟩
  · cases h; rfl
  · cases h; have := hd rfl; simp at this; subst this
    simp only [State.pumpM]
    rw [exec, execAnswerWindowExpiry, State.event_running _ (by exact hr)]
    rfl
  · cases h
    simp only [State.pumpM]
    rw [exec, execModuleAnswer, State.event_running _ (by exact hr)]

/-- The assembler takes the first character and then the others. -/
theorem assembleBytes_cons (b : Byte) (bs : List Byte) (m) (t) (h : bs ≠ []) : assembleBytes (b :: bs) m t =
   assembleBytes bs (asmTake (.char b false false false) m t).asm (asmTake (.char b false false false) m t).tallies := by
  cases bs with
  | nil => exact absurd rfl h
  | cons c bs => rfl

/-- The C-line assembler takes the characters of a frame that its FIFO holds and disposes of the frame. -/
theorem State.pumpC_frame (bs : List Byte) (s : State) (f : Frame) (t : Tallies) (hs : s.cStalled = false)
   (hf : s.cRx.fifo = bs.map fun b => .char b false false false) (hb : bs ≠ [])
   (h1 : assembleBytes bs s.cRx.asm s.cRx.tallies = ⟨.hunting, .frame f, t⟩)
   (h2 : ∀ n, n < bs.length → (assembleBytes (bs.take n) s.cRx.asm s.cRx.tallies).event = .none) :
   s.pumpC bs.length = ({ s with cRx := { s.cRx with fifo := [], asm := .hunting, tallies := t } }).frameSeen.disposeFrame f := by
  induction bs generalizing s with
  | nil => exact absurd rfl hb
  | cons b bs ih =>
    simp only [List.length_cons]
    unfold State.pumpC
    rw [if_neg (by rw [hs]; decide), hf]
    simp only [List.map_cons]
    by_cases he : bs = []
    · subst he
      have e : asmTake (.char b false false false) s.cRx.asm s.cRx.tallies = ⟨.hunting, .frame f, t⟩ := h1
      simp only [e, Receiver.took, List.map_nil, List.length_nil, State.pumpC]
    · have hn : (asmTake (.char b false false false) s.cRx.asm s.cRx.tallies).event = .none := by
        have := h2 1 (by have := List.length_pos_of_ne_nil he; simp; omega)
        simpa [assembleBytes] using this
      rw [hn]; dsimp only
      rw [ih _ (by exact hs) rfl he]
      · rfl
      · rw [← h1, assembleBytes_cons _ _ _ _ he]; rfl
      · intro n hl
        by_cases h0 : n = 0
        · subst h0; rfl
        · have := h2 (n + 1) (by simp; omega)
          rw [List.take_succ_cons, assembleBytes_cons] at this
          · exact this
          · intro h; simp at h; exact h.elim h0 he

end Sys2Proof.Machine
end

