-- ==== Sys2Proof/Laws/Plans.lean ====
section
/-! SUPPORT. The plan of a payout: its candidates, a pass over them, and which pass it is (R148). -/

namespace Sys2Proof.Machine

/-- A tube is a candidate exactly as R148 says. -/
theorem State.candidate_some (s : State) (i : Fin 4) (c : Candidate) : s.candidate i = some c ↔ c.tube = i ∧
    ∃ a t k, s.retained.coin = some a ∧ a.content.tubes[i.val]? = some t ∧ t.coinKind ≠ 0 ∧
      a.content.coins[t.coinKind - 1]? = some k ∧ c.value = k.value ∧ (s.tubes.get i).faulted = false ∧
      c.count = s.retained.tubeCounts.get i ∧ 0 < c.count := by
  obtain ⟨j, v, n⟩ := c
  cases hc : s.retained.coin with
  | none => simp [State.candidate, State.tubeValue, State.coinTable, hc]
  | some a =>
    cases ht : a.content.tubes[i.val]? with
    | none => simp [State.candidate, State.tubeValue, State.coinTable, State.tubeEntry, hc, ht]
    | some t =>
      by_cases h0 : t.coinKind = 0
      · simp [State.candidate, State.tubeValue, State.coinTable, State.tubeEntry, hc, ht, h0]
      · cases hk : a.content.coins[t.coinKind - 1]? with
        | none => simp [State.candidate, State.tubeValue, State.coinTable, State.tubeEntry, CoinTable.coin?, hc, ht, h0, hk]
        | some k =>
          simp [State.candidate, State.tubeValue, State.coinTable, State.tubeEntry, CoinTable.coin?, State.tubeCount, hc, ht, h0, hk]
          constructor
          · rintro ⟨⟨h1, h2⟩, rfl, rfl, rfl⟩; simp [*]
          · rintro ⟨rfl, rfl, h1, rfl, h2⟩; simp [*]

/-- Putting a candidate among others loses and adds none. -/
theorem insertCandidate_perm (c : Candidate) (cs : List Candidate) : (insertCandidate c cs).Perm (c :: cs) := by
  induction cs with
  | nil => exact .refl _
  | cons x xs ih =>
    unfold insertCandidate; split
    · exact .refl _
    · exact (ih.cons x).trans (.swap ..)

/-- The sorted candidates are the candidates. -/
theorem foldr_insertCandidate_perm (cs : List Candidate) : (cs.foldr insertCandidate []).Perm cs := by
  induction cs with
  | nil => exact .refl _
  | cons c cs ih => exact (insertCandidate_perm ..).trans (ih.cons c)

/-- A candidate of a lower tube number put among candidates in order leaves them in order. -/
theorem insertCandidate_pairwise (c : Candidate) (cs : List Candidate)
    (h : cs.Pairwise fun a b => b.value < a.value ∨ (a.value = b.value ∧ a.tube < b.tube)) (hc : ∀ x ∈ cs, c.tube < x.tube) :
    (insertCandidate c cs).Pairwise fun a b => b.value < a.value ∨ (a.value = b.value ∧ a.tube < b.tube) := by
  induction cs with
  | nil => simp [insertCandidate]
  | cons x xs ih =>
    obtain ⟨hx, hs⟩ := List.pairwise_cons.1 h
    unfold insertCandidate; split
    · refine List.pairwise_cons.2 ⟨fun y hy => ?_, h⟩
      have := hc y hy
      rcases List.mem_cons.1 hy with rfl | hm
      · omega
      · have := hx y hm; omega
    · refine List.pairwise_cons.2 ⟨fun y hy => ?_, ih hs fun y hy => hc y (List.mem_cons_of_mem _ hy)⟩
      rcases List.mem_cons.1 ((insertCandidate_perm c xs).mem_iff.1 hy) with rfl | hm
      · left; omega
      · exact hx y hm

/-- The candidates are the tubes that R148 names, in its order. -/
theorem State.candidates_of (s : State) : CandidatesOf s s.candidates := by
  have hm : ∀ c, c ∈ s.candidates ↔ s.candidate c.tube = some c := by
    intro c
    unfold State.candidates
    rw [(foldr_insertCandidate_perm _).mem_iff, List.mem_filterMap]
    constructor
    · rintro ⟨i, -, h⟩; rw [((s.candidate_some i c).1 h).1]; exact h
    · exact fun h => ⟨c.tube, List.mem_finRange _, h⟩
  refine ⟨fun i v n => (hm _).trans ((s.candidate_some i _).trans (by simp)), ?_⟩
  unfold State.candidates
  have : ∀ l : List (Fin 4), l.Pairwise (· < ·) → ((l.filterMap s.candidate).foldr insertCandidate []).Pairwise
      fun a b => b.value < a.value ∨ (a.value = b.value ∧ a.tube < b.tube) := by
    intro l hl
    induction l with
    | nil => exact .nil
    | cons i l ih =>
      obtain ⟨h1, h2⟩ := List.pairwise_cons.1 hl
      rw [List.filterMap_cons]
      cases hi : s.candidate i with
      | none => exact ih h2
      | some c =>
        refine insertCandidate_pairwise c _ (ih h2) fun x hx => ?_
        obtain ⟨j, hj, hx⟩ := List.mem_filterMap.1 ((foldr_insertCandidate_perm _).mem_iff.1 hx)
        rw [((s.candidate_some i c).1 hi).1, ((s.candidate_some j x).1 hx).1]
        exact h1 j hj
  exact this _ (by decide)

/-- A walk is a pass. -/
theorem walk_pass (cs : List Candidate) (a : Nat) : Pass cs a (walk a cs).1 (walk a cs).2 := by
  induction cs generalizing a with
  | nil => exact .done a
  | cons c cs ih =>
    unfold walk; dsimp only
    by_cases h : min c.count (a / c.value) = 0
    · rw [h]; simp only [Nat.zero_mul, Nat.sub_zero, if_true]; exact .skips c cs a _ _ h (ih a)
    · rw [if_neg h]; exact .takes c cs a _ _ _ rfl (Nat.pos_of_ne_zero h) (ih _)

/-- A pass is the walk. -/
theorem Pass.walks {cs : List Candidate} {a : Nat} {es : List PlanEntry} {q : Nat} (h : Pass cs a es q) : walk a cs = (es, q) := by
  induction h with
  | done r => rfl
  | takes c cs r n es q hn h0 h ih => subst hn; unfold walk; simp only [ih, Nat.ne_of_gt h0, if_false]
  | skips c cs r es q hn h ih => unfold walk; simp [hn, ih]

/-- Every entry takes coins that its candidate holds, and the coins and the remainder make up the amount. -/
theorem Pass.sound {cs : List Candidate} {a : Nat} {es : List PlanEntry} {q : Nat} (h : Pass cs a es q) :
    (∀ e ∈ es, ∃ c ∈ cs, e.tube = c.tube ∧ e.value = c.value ∧ 0 < e.coins ∧ e.coins ≤ c.count ∧ e.counted = 0) ∧
      (es.map fun e => e.coins * e.value).sum + q = a := by
  induction h with
  | done r => simp
  | takes c cs r n es q hn h0 h ih =>
    refine ⟨fun e he => ?_, ?_⟩
    · rcases List.mem_cons.1 he with rfl | hm
      · exact ⟨c, List.mem_cons_self .., rfl, rfl, h0, by simp [hn], rfl⟩
      · obtain ⟨x, hx, hr⟩ := ih.1 e hm; exact ⟨x, List.mem_cons_of_mem _ hx, hr⟩
    · have : n * c.value ≤ r := (Nat.mul_le_mul_right _ (hn ▸ Nat.min_le_right ..)).trans (Nat.div_mul_le_self ..)
      simp only [List.map_cons, List.sum_cons]; have := ih.2; omega
  | skips c cs r es q hn h ih =>
    exact ⟨fun e he => (ih.1 e he).imp fun x hx => ⟨List.mem_cons_of_mem _ hx.1, hx.2⟩, ih.2⟩

/-- The plan over candidates is the first pass that ends at 0, and else the pass that skips none. -/
theorem planOver_cases (a : Nat) (cs : List Candidate) :
    ((planOver a cs).2 = 0 ∧ ∃ i, i < cs.length ∧ Pass (cs.drop i) a (planOver a cs).1 0 ∧
      ∀ j, j < i → ∀ es, ¬Pass (cs.drop j) a es 0) ∨
    ((∀ j, j < cs.length → ∀ es, ¬Pass (cs.drop j) a es 0) ∧ Pass cs a (planOver a cs).1 (planOver a cs).2) := by
  have hne : ∀ {j es}, (walk a (cs.drop j)).2 ≠ 0 → ¬Pass (cs.drop j) a es 0 := fun h hp => h (by rw [hp.walks])
  unfold planOver
  split
  · rename_i i hi
    obtain ⟨h1, h2, h3⟩ := List.find?_range_eq_some.1 hi
    have h0 : (walk a (cs.drop i)).2 = 0 := by simpa using h1
    refine .inl ⟨h0, i, by simpa using h2, h0 ▸ walk_pass (cs.drop i) a, fun j hj es => hne ?_⟩
    have := h3 j hj; simpa using this
  · rename_i hi
    refine .inr ⟨fun j hj es => hne ?_, walk_pass cs a⟩
    rw [List.find?_eq_none] at hi
    have := hi j (List.mem_range.2 hj); simpa using this

end Sys2Proof.Machine
end

