-- ==== Sys2Proof/Tests/Slice0.lean ====
section
/-! SUPPORT. Tests: ill-formed commands, the manual's worked cases, one-step checks, and for each statement a state and operands
that meet its hypotheses. Expected values are the manual's own, or worked from its rules by hand. -/

namespace Sys2Proof.Tests

open Sys2Proof Sys2Proof.Machine

-- Each kernel evaluation waits for what stands before it; one after another they do not hold a thread each.
set_option Elab.async false

/-! ## Ill-formed commands -/

/-- A frame of a payload length. -/
def frameOfLength (n : Nat) : Frame := ⟨0, 14, 3, List.replicate n 0⟩

/-- A payload of 61 bytes does not fit COUNT (R3); 60 do. -/
theorem test_wf_payload_length :
    Frame.wf (frameOfLength 61) = false ∧ Frame.wf (frameOfLength 60) = true ∧
      Instr.wf (.cLineFrame (frameOfLength 61)) = false ∧ Instr.wf (.moduleAnswer (frameOfLength 61)) = false ∧
      Instr.wf (.downwardFrame 1 70 (List.replicate 61 0)) = false := by decide +kernel

/-- A downward frame goes to 1..6 or 15 (R8). -/
theorem test_wf_downward_destination :
    Instr.wf (.downwardFrame 0 70 []) = false ∧ Instr.wf (.downwardFrame 7 70 []) = false ∧
      Instr.wf (.downwardFrame 14 70 []) = false ∧ Instr.wf (.downwardFrame 6 70 []) = true ∧
      Instr.wf (.downwardFrame 15 70 []) = true := by decide +kernel

/-- A LOAD holds at most 60 bytes, 9 of them before the entries of segment 0, and check and count stand there alone (R178). -/
theorem test_wf_load :
    Instr.wf (.load .hotlist 1 0 2 0 0 (List.replicate 52 0)) = false ∧
      Instr.wf (.load .hotlist 1 1 2 0 0 (List.replicate 52 0)) = true ∧
      Instr.wf (.load .hotlist 1 1 2 0 0 (List.replicate 56 0)) = false ∧
      Instr.wf (.load .hotlist 1 1 2 5 0 []) = false ∧ Instr.wf (.load .hotlist 1 1 2 0 5 []) = false ∧
      Instr.wf (.load .hotlist 1 0 2 5 5 []) = true := by decide +kernel

/-- No row of the opcode table has bits. -/
theorem test_decode_none : decodeTableWord 0 0 = none ∧ decodeTableWord 32 0xC30E0300 = none := by decide

/-! ## Worked cases -/

/-- ALIVE's frame and its reply's frame as R177 and R176 give their bytes. -/
theorem test_alive_bytes :
    (frameOfRequest .alive).map frameBytes = some [0xC3, 0x0E, 0x03, 0x00, 0xEF] ∧
      frameBytes (Reply.frame ⟨3, .alive, none⟩) = [0xC3, 0xE0, 0x03, 0x00, 0x1D] := by decide

/-- A product of the worked cases of R112. -/
def priced (base zoneStep floor cap step : Nat) (r : Rounding) : Product :=
  { code := 1, name := [0x44, 0x41, 0x59], medium := .printed, base := base, zoneStep := zoneStep, maxZones := 9, floor := floor
    cap := cap, step := step, rounding := r, validityDays := 0, lateStart := none, template := 0, concessionAllowed := true
    zeroAllowed := true }

/-- The eight worked cases of R112; class 1 stands for the concession percent. -/
theorem test_price_cases :
    (priced 180 60 100 2000 20 .nearest).price [0, 35] 3 125 1 = 240 ∧
    (priced 180 60 100 2000 20 .up).price [0, 35] 3 125 1 = 260 ∧
    (priced 180 60 100 2000 20 .down).price [0, 35] 3 125 1 = 240 ∧
    (priced 250 0 0 1000 50 .nearest).price [0, 10] 1 100 1 = 250 ∧
    (priced 250 0 50 1000 50 .nearest).price [0, 100] 1 100 1 = 50 ∧
    (priced 250 0 0 1000 50 .nearest).price [0, 100] 1 100 1 = 0 ∧
    (priced 2000 500 1000 8000 100 .nearest).price [0, 0] 9 150 0 = 8000 ∧
    (priced 95 0 100 500 100 .nearest).price [0, 0] 1 80 0 = 100 := by decide

/-- A disabled coin entry. -/
def noCoin : CoinEntry := ⟨false, 10, 0, 0, 0, 0, 0, 0⟩

/-- The COIN header of the worked case of R73, with non-overlap 2. -/
def coinHeader : CoinHeader :=
  { filter := 2, aLimit := 0, gapLimit := 0, acceptWait := 0, returnWait := 0, period := 2500, nonOverlap := 2
    drive := ⟨⟨3000, 900, 40⟩, ⟨2000, 2200, 40⟩, ⟨1800, 2000, 40⟩, ⟨1000, 400, 40⟩⟩ }

/-- The COIN table of the worked cases of R58, with tubes 1 and 2 taking coins 3 (value 50) and 5 (value 20). -/
def coinTable (fiveEnabled : Bool) : CoinTable :=
  { header := coinHeader
    coins := [noCoin, noCoin, ⟨true, 50, 112, 128, 104, 120, 2000, 5000⟩, noCoin,
      ⟨fiveEnabled, 20, 118, 140, 110, 130, 2000, 5000⟩, noCoin, noCoin, noCoin, noCoin, noCoin, noCoin, noCoin]
    tubes := [⟨3, 50, 5⟩, ⟨5, 50, 5⟩, ⟨0, 0, 0⟩, ⟨0, 0, 0⟩] }

/-- The seven worked cases of R58. -/
theorem test_classify_cases :
    classify (some (coinTable true)) 1500 3200 1400 = .ambiguous ∧
    classify (some (coinTable false)) 1500 3200 1400 = .kind 3 ∧
    classify (some (coinTable false)) 1517 3200 1400 = .kind 3 ∧
    classify (some (coinTable true)) 1400 3200 1300 = .kind 3 ∧
    classify (some (coinTable true)) 1400 3200 1290 = .none ∧
    classify (some (coinTable true)) 900 1900 850 = .none ∧
    classify (some (coinTable true)) 1500 65535 1400 = .none := by decide

/-- The worked case of R73: the effective duties, and where DVT's and DVK's pulses lie. -/
theorem test_duties :
    (effectivePullIn coinHeader .eb, effectiveHold coinHeader .eb) = (2500, 900) ∧
    (effectivePullIn coinHeader .ag, effectiveHold coinHeader .ag) = (2000, 2000) ∧
    (effectivePullIn coinHeader .dvt, effectiveHold coinHeader .dvt) = (1250, 1250) ∧
    (effectivePullIn coinHeader .dvk, effectiveHold coinHeader .dvk) = (1000, 400) ∧
    pulseOf coinHeader .dvk ⟨.pullIn, true, 3, false⟩ = some (1250, 2250) ∧
    pulseOf coinHeader .dvk ⟨.hold, true, 0, true⟩ = some (1250, 1650) ∧
    pulseOf coinHeader .dvt ⟨.hold, true, 0, true⟩ = some (0, 1250) := by decide

/-- The worked cases of R148. -/
theorem test_plans :
    planOver 60 [⟨0, 100, 2⟩, ⟨1, 50, 4⟩, ⟨2, 20, 3⟩] = ([⟨2, 20, 3, 0⟩], 0) ∧
    planOver 260 [⟨0, 200, 1⟩, ⟨2, 50, 3⟩, ⟨3, 20, 10⟩] = ([⟨0, 200, 1, 0⟩, ⟨2, 50, 1, 0⟩], 10) ∧
    planOver 80 [⟨0, 50, 2⟩, ⟨1, 20, 4⟩] = ([⟨1, 20, 4, 0⟩], 0) := by decide

/-- The 7-day pass of R115 with late start 72000. -/
def weekPass : Product := { priced 900 0 0 2000 50 .nearest with medium := .both, validityDays := 7, lateStart := some 72000, code := 2 }

/-- The dates of a pass at a sale day and second. -/
def datesAt (day second : Nat) (slot : Option PassSlot) : Option (Nat × Nat) :=
  weekPass.days ⟨day, second, 0, true⟩ (judgePass weekPass.code day slot)

/-- The worked cases of R115; case 6 is held, and case 7 lies above 65535. -/
theorem test_dates :
    datesAt 20480 50400 none = some (20480, 20486) ∧
    datesAt 20480 76500 none = some (20481, 20487) ∧
    datesAt 20480 76500 (some ⟨2, 20483⟩) = some (20484, 20490) ∧
    datesAt 20480 76500 (some ⟨2, 20479⟩) = some (20481, 20487) ∧
    datesAt 20480 50400 (some ⟨2, 20480⟩) = some (20481, 20487) ∧
    judgePass weekPass.code 20480 (some ⟨9, 20482⟩) = .held ∧
    datesAt 65532 76500 none = some (65533, 65539) := by decide

/-- The card terms of R135. -/
def cardTerms (percent : Nat) : FareHeader := ⟨16000, 2, 0, 15000, 500, 100, 2000, percent⟩

/-- The worked cases of R135. -/
theorem test_topup_terms :
    bonusOf (cardTerms 5) 2000 = 100 ∧ bonusOf (cardTerms 5) 1900 = 0 ∧ bonusOf (cardTerms 5) 13000 = 650 ∧
    bonusOf (cardTerms 7) 2150 = 150 ∧ (cardTerms 5).fitsBalance 1250 13000 = true ∧
    (cardTerms 5).fitsBalance 1250 13700 = false ∧ greatestTopup (cardTerms 5) 1250 = 13000 := by decide +kernel

/-- The examples of R160: 2.40, 0.05, 655.35, 020480, 08:15, 5522 and 0. -/
theorem test_formats :
    moneyText 240 = [0x32, 0x2E, 0x34, 0x30] ∧ moneyText 5 = [0x30, 0x2E, 0x30, 0x35] ∧
    moneyText 65535 = [0x36, 0x35, 0x35, 0x2E, 0x33, 0x35] ∧
    dateText 20480 = [0x30, 0x32, 0x30, 0x34, 0x38, 0x30] ∧ timeText 29700 = [0x30, 0x38, 0x3A, 0x31, 0x35] ∧
    digits 4 70015522 = [0x35, 0x35, 0x32, 0x32] ∧ numberText 0 = [0x30] ∧
    rightAligned 3 (moneyText 240) = [0x2A, 0x2A, 0x2A] := by decide

/-- A text with a literal, zones in 3 columns, a time in 6, the product name in 5, change in 3 and a price in 4 (R159, R160). -/
def lineText : List Byte := [0x41, 0x7C, 4, 3, 0x7C, 8, 6, 0x7C, 3, 5, 0x7C, 2, 3, 0x7C, 1, 4]

/-- Zones 3, 08:15, DAY with a trailing space, change 2.40 in 3 columns, and no price: A, two spaces and 3, a space and 08:15, DAY and two
spaces, three asterisks, four spaces (R160; the time right-aligned, assumption 44). -/
theorem test_line_composed :
    composeText { FieldValues.none with
      zones := some 3, second := some 29700, productName := some [0x44, 0x41, 0x59, 0x20], change := some 240 } lineText =
      [0x41, 0x20, 0x20, 0x33, 0x20, 0x30, 0x38, 0x3A, 0x31, 0x35, 0x44, 0x41, 0x59, 0x20, 0x20, 0x2A, 0x2A, 0x2A,
        0x20, 0x20, 0x20, 0x20] := by decide +kernel

/-- Lines 5, 1 and 2 of template 6 come in the order 1, 2, 5 (R159). -/
theorem test_line_order :
    (linesOf 6 [⟨6, 5, []⟩, ⟨0, 1, []⟩, ⟨6, 1, []⟩, ⟨6, 2, []⟩]).map TemplateLine.line = [1, 2, 5] := by decide

/-- Of two bands in force on a Wednesday the lower index goes first, the end second is outside, Monday's band is not in force, and an
invalid clock has none (R41, R42). -/
theorem test_bands :
    let f : FareTable := ⟨cardTerms 5, [], [], [⟨0x01, 0, 86400, 150⟩, ⟨0x7F, 50400, 50401, 125⟩, ⟨0x04, 0, 86400, 80⟩]⟩
    let c : Clock := ⟨20480, 50400, 0, 3, true, true, false⟩
    (c.band f, f.factor (some 2)) = (some 2, 125) ∧ { c with second := 50401 }.band f = some 3 ∧
      { c with dayOfWeek := 4, second := 50401 }.band f = none ∧ { c with valid := false }.band f = none ∧ f.factor none = 100 := by
  decide

/-! ## Sample states -/

/-- The next state of an outcome. -/
def nextOf : Host.Outcome State Fault Refusal → State
  | .next t => t
  | .fault _ => State.reset
  | .refused _ => State.reset

/-- Retained memory with every table but the hotlist, two filled tubes and a credit of 3000. -/
def stock : Retained :=
  { Retained.cleared with
    ledger := { Ledger.zero with inserted := 3000, c := 3000 }
    tubeCounts := #v[10, 10, 0, 0]
    coin := some ⟨1, coinTable false⟩
    fare := some ⟨1, ⟨cardTerms 5, [0, 35, 0, 0, 0, 0, 0, 0], [priced 180 60 100 2000 20 .nearest, weekPass], []⟩⟩
    passage := some ⟨1, ⟨List.replicate 13 (BitVec.allOnes 64)⟩⟩
    template := some ⟨1, [⟨0, 1, [0x41]⟩, ⟨6, 1, [0x42]⟩, ⟨7, 1, [0x43]⟩]⟩ }

/-- READY and OPEN with the entry open: a CARD slot 1, a PRINTER slot 2 and an OTHER slot 3, all PRESENT, slot 4 OTHER and ABSENT. -/
def ready : State :=
  { State.reset with
    part := .ready, machineId := 7, retained := stock, purchase := .opened, reports := []
    slots := #v[⟨.card, true, 0, .off⟩, ⟨.printer, true, 0, .off⟩, ⟨.other, true, 0, .off⟩, ⟨.other, false, 0, .waiting⟩,
      .unassigned, .unassigned]
    printer := ⟨.ok, .closed, .clear, 3, none, 0, .none, false⟩
    clock := ⟨20480, 50400, 0, 3, true, true, false⟩
    causes := ⟨false, false, false, false, false, false, false, false⟩
    coils := ⟨⟨⟨.hold, true, 0, true⟩, .rest, .rest, ⟨.hold, true, 0, true⟩⟩, .cashBox, none, 0, true, false,
      ⟨false, false, false, false⟩⟩ }

/-- A bound card of balance 1250. -/
def bound : Binding := ⟨70015522, 1, 1250, 5, none, false, false⟩

/-- With the card bound. -/
def withCard : State := { ready with card := ⟨some bound, .none, .none⟩ }

/-- In SERVICE, IDLE, with no money. -/
def servicing : State :=
  { ready with
    part := .service, purchase := .idle, retained := { stock with ledger := .zero }
    causes := ⟨false, false, true, false, false, false, false, false⟩
    coils := { ready.coils with coils := { ready.coils.coils with eb := .rest } } }

/-- An operation record of an amount. -/
def opOf (k : OpKind) (amount : Money) : OpRecord :=
  { kind := k, txn := 1, stamp := ready.clock.stamp, fareGeneration := some 1
    sale := if k = .printedSale ∨ k = .cardSale then some ⟨none, 1, 3, 0, none, false⟩ else none
    amount := amount, bonus := if k = OpKind.topup then 100 else 0, receipt := k == .topup, template := some 0
    journalRef := if k = .cardSale ∨ k = .topup then some 1 else none }

/-- BUSY with an operation of 2000. -/
def busy (k : OpKind) : State :=
  { withCard with
    retained := { stock with txn := 1, op := some (opOf k 2000), ledger := { stock.ledger with c := 1000, k := 2000 } }
    purchase := .busy, reserved := 2
    causes := ⟨false, true, false, false, false, false, false, false⟩
    coils := { ready.coils with coils := { ready.coils.coils with eb := .rest } } }

/-- The write of an operation: a top-up's new balance, or a pass. -/
def writeOf (k : OpKind) : CardWrite :=
  ⟨70015522, 5, if k = .topup then .balance 3350 else .pass 2 20480 20486, 7, 1⟩

/-- With the write SENT and its ISSUED record. -/
def writing (k : OpKind) : State :=
  { busy k with
    retained := { (busy k).retained with
      journal := [⟨.issued, 1, 70015522, k, 2000, 100, 5, 7, (writeOf k).content, ready.clock.stamp⟩] }
    card := ⟨some bound, .sent (writeOf k), .none⟩ }

/-- With a print job waiting for its cut. -/
def printing (k : JobKind) : State :=
  { busy (if k = .voucher then .voucher else .printedSale) with
    printer := { ready.printer with job := some ⟨k, 4, 1, 0, FieldValues.none, [[0x41]], 1, true⟩, tag := 4 } }

/-- A TICKET in SENDING whose ASK for room is on the line. -/
def askingRoom : State :=
  { busy .printedSale with
    printer := ⟨.ok, .closed, .clear, 0, some ⟨.ticket, 4, 1, 0, FieldValues.none, [[0x41]], 0, false⟩, 4, .none, false⟩
    exchange := some ⟨.slot 1, .printAsk true, slotFrame 1 Kind.printAsk []⟩ }

/-- In PAYOUT of 150: two coins of tube 1 from the first entry, then two of tube 2. -/
def paying : State :=
  { ready with
    retained := { stock with ledger := { stock.ledger with inserted := 150, c := 0, pp := 150 } }
    purchase := .payout, reserved := 1
    payout := some ⟨.cancel, 150, [], some ⟨0, 50, 2, 1⟩, true, [⟨1, 20, 2, 0⟩], false, #v[1, 0, 0, 0], Vector.replicate 4 false⟩
    tubes := #v[⟨false, false, .running, 50⟩, .rest, .rest, .rest]
    causes := ⟨false, true, false, false, false, false, false, false⟩
    coils := { ready.coils with coils := { ready.coils.coils with eb := .rest } } }

/-- With an exchange with a slot in progress. -/
def polling (i : Fin 6) (s : State) : State := { s with exchange := some ⟨.slot i, .poll, slotFrame i Kind.poll []⟩ }

/-- A frame from slot 1 or 2 to the part. -/
def answer (src : BitVec 4) (kind : Byte) (p : List Byte) : Frame := ⟨0, src, kind, p⟩

/-- With the chute in a state. -/
def chuteIn (c : ChuteState) (s : State) : State := { s with chute := { s.chute with state := c } }

/-- A pending copy in a state. -/
def copy (st : LoadState) : Load := { Load.empty with st := st, generation := 2, total := 1, segments := [⟨0, []⟩], head := some (0, 0) }

/-- With a kind's pending copy in a state. -/
def withCopy (k : TableKind) (l : Load) (s : State) : State := { s with loads := s.loads.set l k }

/-- ACCEPTING with a coin that just fits into the ceiling kept, and its rise of C next. -/
def accepting (r : Route) : State :=
  { chuteIn .accepting ready with
    chute := { ready.chute with
      state := .accepting, timer := some 400, coin := some ⟨.kind 3, some ⟨3, 50, r, 3050⟩⟩ }
    causes := ⟨true, false, false, false, false, false, false, false⟩
    pending := [.sensorRise .c 10] }

/-- FAULT JAM_A with the idle wait running, and its end next. -/
def jammed : State :=
  { ready with
    chute := { ready.chute with state := .fault, fault := some .jamA, timer := some 2000 }
    pending := [.idleWaitExpiry] }

/-! ## One step of each kind of command -/

/-- The sample state meets every invariant. -/
theorem test_ready_invariants : Conserved ready ∧ ready.failing = ready.causes ∧ ready.failing.clear = true := by
  unfold Conserved; decide +kernel

/-- A printed sale of product 1 for 3 zones without a band costs 3,000,000 / 200,000 × 20 = 300 (R111, R112). -/
theorem test_sell_price :
    let t := nextOf (exec (.sell 1 3 0 .printed true) ready)
    (t.retained.ledger.c, t.retained.ledger.k, t.purchase, t.retained.txn) = (2700, 300, .busy, 1) := by decide +kernel

/-- The same sale with class 1 (35 %) is 1,950,000 / 200,000 = 9.75, so 10 steps: 200. -/
theorem test_sell_concession :
    (nextOf (exec (.sell 1 3 1 .printed true) ready)).retained.ledger.k = 200 := by decide +kernel

/-- A card sale with no card is refused NOCARD (R108). -/
theorem test_sell_no_card :
    (nextOf (exec (.sell 2 1 0 .card true) ready)).replies = [⟨11, .refused .noCard, none⟩] := by decide +kernel

/-- A top-up of 2000 earns 100 and writes 3350 (R135). -/
theorem test_topup :
    (nextOf (exec (.topup 2000 true) withCard)).card.write = .owed ⟨70015522, 5, .balance 3350, 7, 1⟩ := by decide +kernel

/-- A top-up above the credit is refused SHORT (R134). -/
theorem test_topup_short :
    (nextOf (exec (.topup 3100 true) withCard)).replies = [⟨12, .refusedSum .short 3100, none⟩] := by decide +kernel

/-- CANCEL of 3000 over ten coins of 50 and ten of 20 plans 700 with shortfall 2300 (R148, R156). -/
theorem test_cancel :
    let t := nextOf (exec .cancel ready)
    t.replies = [⟨13, .cancel 3000 700 2300, none⟩] ∧ t.purchase = .payout ∧ t.retained.ledger.pp = 3000 := by decide +kernel

/-- A voucher takes the whole credit (R157). -/
theorem test_voucher :
    let t := nextOf (exec .voucher ready)
    (t.retained.ledger.k, t.retained.ledger.c, (t.printer.job.map Job.kind)) = (3000, 0, some .voucher) := by decide +kernel

/-- SETUP gives the roles and the rate (R16, R19). -/
theorem test_setup :
    let t := nextOf (exec (.setup 7 1 #v[1, 2, 3, 0, 0, 0] 2) State.reset)
    t.part = .ready ∧ t.mRate = 19200 ∧ t.silenceRunning = true ∧ t.slots.get 1 = ⟨.printer, false, 0, .due⟩ := by
  decide +kernel

/-- SETUP with two CARD slots is refused RANGE. -/
theorem test_setup_two_cards :
    (nextOf (exec (.setup 7 1 #v[1, 1, 3, 0, 0, 0] 2) State.reset)).replies = [⟨2, .refused .range, none⟩] := by decide +kernel

/-- One segment of a hotlist of two cards, checked by the sum of its bytes, is READY (R24). -/
theorem test_load_ready :
    ((nextOf (exec (.load .hotlist 2 0 1 3 2 [1, 0, 0, 0, 2, 0, 0, 0]) ready)).loads.hotlist.st,
      (nextOf (exec (.load .hotlist 2 0 1 3 2 [2, 0, 0, 0, 1, 0, 0, 0]) ready)).loads.hotlist.bad)
      = (.ready, some (.order, 1)) := by decide +kernel

/-- The characters of ALIVE, arriving one by one, are answered (R3, R5). -/
theorem test_characters :
    ((frameCharacters .cLine ⟨0, 14, 3, []⟩).foldl (fun s c => nextOf (exec c s)) ready).replies = [⟨3, .alive, none⟩] := by
  decide +kernel

/-- A wrong parity bit damages the frame, and it is tallied (R2, R3, R4). -/
theorem test_parity :
    let t := nextOf (exec (.characterArrival .cLine 0xC3 true true) ready)
    (t.cRx.tallies.parity, t.cRx.asm) = (1, .hunting) := by decide +kernel

/-- START of a cold start of cause CHECK (R175): nothing found, the clock not valid. -/
def coldStart : StartReport := ⟨true, .check, 0, 0, 0, 0, false, [none, none, none, none, none], none, none, none⟩

/-- The frame that State.reset is sending is that START. -/
theorem test_start_sent : startSent = ⟨(Report.start coldStart).frame, none⟩ := by decide +kernel

/-- The reply goes before the report (R6). -/
theorem test_transmit_order :
    (nextOf (exec .transmitFrameEnd { ready with
      replies := [⟨3, .alive, none⟩], reports := [.start coldStart] })).sending.map (·.frame.kind) = some 3 := by
  decide +kernel

/-- ALIVE right after a start finds START on the line: its reply waits (R6, R175). -/
theorem test_start_goes_first :
    let t := nextOf (exec .alive State.reset)
    (t.sending.map (·.frame.kind), t.replies.map Reply.kind) = (some 48, [3]) := by decide +kernel

/-- CARD has 17 bytes with a card bound and without one: a presence byte, 13 value bytes, the slots and the count (R144, R177). -/
theorem test_card_bytes :
    (Report.card ⟨none, Vector.replicate 6 true, 258⟩).bytes = List.replicate 14 0 ++ [63, 2, 1] ∧
      (Report.card ⟨some ⟨1, 2, 3, some ⟨4, 5⟩, true, false⟩, Vector.replicate 6 false, 0⟩).bytes
        = [1, 1, 0, 0, 0, 2, 3, 0, 1, 4, 5, 0, 1, 0, 0, 0, 0] := by decide +kernel

/-- The coil status: of each coil its phase and its sensed state, CURRENT 0 and NONE 1 (R79, R84). -/
theorem test_coil_status : ready.coils.status.bytes = [2, 0, 0, 1, 0, 1, 2, 0, 0, 0, 0] := by decide +kernel

/-- At 23:59:59 of day 65535, a Sunday, the second's advance gives day 0, Monday, not valid (R33, R34). -/
theorem test_day_roll :
    (nextOf (exec .secondAdvance { ready with clock := ⟨65535, 86399, 99, 7, true, true, false⟩ })).clock
      = ⟨0, 0, 0, 1, false, true, false⟩ := by decide +kernel

/-- C in ACCEPTING credits the coin (R62). -/
theorem test_coin_credited :
    let s := chuteIn .accepting { ready with chute := { ready.chute with coin := some ⟨.kind 3, some ⟨3, 50, .tube 0, 16000⟩⟩ } }
    let t := nextOf (exec (.sensorRise .c 10) s)
    (t.retained.ledger.c, t.tubeCount 0, t.chute.state) = (3050, 11, .idle) := by decide +kernel

/-- The last coin of the entry starts the next one (R151). -/
theorem test_exit_pulse :
    let t := nextOf (exec (.exitPulse 0) paying)
    (t.retained.ledger.pp, t.retained.ledger.paid, (t.tubes.get 0).dispenser, (t.tubes.get 1).dispenser)
      = (100, 50, .trailing, .running) := by decide +kernel

/-- DONE settles a top-up of 2000 with bonus 100 (R92, R139). -/
theorem test_card_written :
    let t := nextOf (exec (.moduleAnswer (answer 1 56 [1, 0, 0, 0, 0, 6, 0])) (polling 0 (writing .topup)))
    (t.retained.ledger.topped, t.retained.ledger.bonus, t.retained.ledger.k, t.retained.journal.length) = (2000, 100, 0, 0) := by
  decide +kernel

/-- A write that times out holds the money (R140). -/
theorem test_write_timeout :
    let t := nextOf (exec .writeTimeout (writing .topup))
    (t.retained.ledger.h, t.retained.ledger.k, t.retained.journal.map JournalRecord.state) = (2000, 0, [.uncertain]) := by
  decide +kernel

/-- The cut completes a ticket, and its change of 1000 is paid out (R93, R119). -/
theorem test_cut_done :
    let t := nextOf (exec (.moduleAnswer (answer 2 62 [2, 4])) (polling 1 (printing .ticket)))
    (t.retained.ledger.sold, t.purchase, t.retained.ledger.pp) = (2000, .payout, 1000) := by decide +kernel

/-- A period whose sense shows nothing at the end of AG's pull-in is a coil fault (R79, R80). -/
theorem test_coil_fault :
    let s := chuteIn .accepting { ready with
      coils := { ready.coils with coils := { ready.coils.coils with ag := ⟨.pullIn, true, 1, false⟩ } } }
    let t := nextOf (exec (.pwmPeriod ⟨⟨true, true⟩, ⟨false, false⟩, ⟨false, false⟩, ⟨true, true⟩⟩) s)
    (t.chute.fault, t.coils.failed, t.coils.command) = (some .coil, ⟨false, true, false, false⟩, .none) := by decide +kernel

/-- PULL_IN_CHECK leaves a coil with two pull-in periods left as it is (R79). -/
theorem test_pull_in_check :
    let s : State := { ready with coils := { ready.coils with coils := { ready.coils.coils with ag := ⟨.pullIn, true, 2, false⟩ } } }
    (nextOf (exec (.pullInCheck ⟨false, true, false, false⟩ ⟨⟨false, false⟩, ⟨false, false⟩, ⟨false, false⟩, ⟨false, false⟩⟩) s)).coils
      = s.coils := by decide +kernel

/-- A job that starts with no room while the ASK of the slot's presence is on the line owes its own ASK, and that ASK's valid answer
starts no 100 ms wait (R164). -/
theorem test_ask_at_job_start :
    let s : State := { ready with
      printer := { ready.printer with room := 0 }, exchange := some ⟨.slot 1, .printAsk false, slotFrame 1 Kind.printAsk []⟩ }
    let t := nextOf (exec .voucher s)
    let u := nextOf (exec (.moduleAnswer (answer 2 0 [])) t)
    (t.printer.owed, u.printer.owed, u.printer.askWait) = (.ask true, .ask true, false) := by decide +kernel

/-- ROOM 3 and then ROOM 0 in the answer to an ASK for room: the count falls to 0 with a line left, so the next ASK is owed at once; ROOM 0
alone leaves it still 0, and the 100 ms wait runs (R164). -/
theorem test_room_falls_in_answer :
    let t (p : List Byte) := (nextOf (exec (.moduleAnswer (answer 2 61 p)) askingRoom)).printer
    ((t [1, 3, 1, 0]).owed, (t [1, 3, 1, 0]).askWait, (t [1, 0]).owed, (t [1, 0]).askWait, (t [1, 3]).owed) =
      (.ask true, false, .none, true, .line) := by decide +kernel

/-- A warm start in BUSY voids a printed sale: the credit is whole again (R101, R173). -/
theorem test_warm_start :
    let t := nextOf (exec (.resetRelease ⟨false, false, ⟨false, false, false, false⟩, false⟩) { busy .printedSale with resetHeld := true })
    (t.retained.ledger.c, t.retained.ledger.k, t.retained.op, t.part) = (3000, 0, none, .unset) := by decide +kernel

/-- A damaged retained memory starts cold (R174). -/
theorem test_cold_start :
    let t := nextOf (exec (.powerReturn ⟨true, true, ⟨false, false, false, false⟩, false⟩)
      { ready with power := false, retainedGood := false })
    (t.retained, t.cRate) = (Retained.cleared, 115200) := by decide +kernel

/-- A grant polls the next PRESENT slot after the last polled (R14). -/
theorem test_grant_poll :
    (nextOf (exec .exchangeGrant ready)).exchange = some ⟨.slot 0, .poll, ⟨1, 0, 1, []⟩⟩ := by decide +kernel

/-- The step takes the front command and leaves the rest. -/
theorem test_step_front : (nextOf (step { ready with pending := [.alive, .cancel] })).pending = [.cancel] := by decide +kernel

/-! ## A state and operands for the hypotheses of each statement -/

/-- DriveSafe of a state whose drives are as given, from the four facts it names. -/
theorem driveSafe_of (d : CoilDriver) (c : ChuteState)
    (h : (d.coils.dvt.on && d.coils.dvk.on) = false ∧ (d.target = some true → d.coils.dvk.on = false) ∧
      (d.target = some false → d.coils.dvt.on = false) ∧ (d.coils.ag.on = true → c = .accepting)) : DriveSafe d c :=
  ⟨h.1, h.2.1, h.2.2.1, h.2.2.2⟩

/-- A state that every step's invariants hold of, and a step of it: the cancel of a credit. -/
def stepping : State := { ready with pending := [.cancel, .alive] }

theorem witness_StepRunsFrontCommand : stepping.pending = Instr.cancel :: [.alive] ∧ ready.pending = [] := by decide +kernel

theorem witness_FirstPowerUpIsReset :
    let s := { ready with power := false, retainedGood := false }
    s.power = false ∧ s.resetHeld = false ∧ s.retainedGood = false ∧ s.clock.running = true := by decide +kernel

theorem witness_MoneyConserved : Conserved stepping ∧ step stepping = .next (nextOf (step stepping)) :=
  ⟨by unfold Conserved; decide +kernel, rfl⟩

/-- The bounds of the lines' queues hold of a state with no exchange that is sending, from the three lengths. -/
theorem lineQueues_of (s : State) (h : s.replies.length ≤ 4 ∧ s.forwardQ.length ≤ 8 ∧ s.upwardQ.length ≤ 8)
    (hx : s.exchange = none) (hs : s.sending ≠ none) : LineQueues s :=
  ⟨h.1, h.2.1, h.2.2, fun x => absurd hx x, fun _ n => absurd n hs⟩

theorem witness_QueuesBounded :
    (QueueBounds stepping.reports stepping.reserved ∧ LineQueues stepping) ∧ step stepping = .next (nextOf (step stepping)) :=
  ⟨⟨⟨by decide +kernel, fun k _ _ => by show kindCount k [] ≤ 1; simp [kindCount]⟩,
    lineQueues_of _ (by decide +kernel) (by decide +kernel) (by decide +kernel)⟩, rfl⟩

theorem witness_EntryFollowsConditions : EntryTested stepping ∧ step stepping = .next (nextOf (step stepping)) :=
  ⟨by unfold EntryTested; decide +kernel, rfl⟩

theorem accepting_kept (r : Route) : ChuteKept (accepting r).chute (accepting r).retained.ledger := by
  refine ⟨⟨fun e => (by cases e), fun e => (by cases e)⟩, fun e => (by cases e), fun _ _ => rfl, fun _ e => (by cases e),
    ⟨fun _ => .inl rfl, fun _ => rfl⟩, ?_, ?_⟩
  · rintro x ⟨⟩; exact ⟨fun _ => rfl, fun _ => rfl⟩
  · rintro x a ⟨⟩ ⟨⟩
    show (3000#32).toNat + (0#32).toNat + (0#32).toNat + 50 ≤ 3050
    decide

theorem jammed_kept : ChuteKept jammed.chute jammed.retained.ledger := by
  refine ⟨⟨fun _ => rfl, fun _ => rfl⟩, fun e => (by cases e), fun _ e => absurd rfl e, ?_,
    ⟨fun e => (by cases e), fun e => (by rcases e with e | e <;> cases e)⟩, fun _ e => (by cases e), fun _ _ e => (by cases e)⟩
  rintro k ⟨⟩
  exact ⟨fun _ => ⟨rfl, fun x => by cases x <;> rfl⟩, fun _ => rfl⟩

theorem witness_CoilDrivesStaySafe :
    (DriveSafe stepping.coils stepping.chute.state ∧ step stepping = .next (nextOf (step stepping))) ∧
      (ChuteKept (accepting .cashBox).chute (accepting .cashBox).retained.ledger ∧
        step (accepting .cashBox) = .next (nextOf (step (accepting .cashBox)))) ∧
      (ChuteKept jammed.chute jammed.retained.ledger ∧ step jammed = .next (nextOf (step jammed))) :=
  ⟨⟨driveSafe_of _ _ (by decide +kernel), rfl⟩, ⟨accepting_kept _, rfl⟩, jammed_kept, rfl⟩

/-- The coin that just fits is credited: 3050 in credit and INSERTED, the chute IDLE with no coin in flight (R50, R62). -/
theorem test_coin_within_ceiling :
    let t := nextOf (step (accepting .cashBox))
    (t.retained.ledger.c, t.retained.ledger.inserted, t.chute.state, t.chute.coin) = (3050, 3050, .idle, none) := by decide +kernel

theorem witness_MoneyStateKept :
    let s : State := { paying with pending := [.exitPulse 0] }
    MoneyState s.retained.op s.retained.ledger.k s.retained.ledger.pp s.purchase s.payout ∧
      step s = .next (nextOf (step s)) :=
  ⟨⟨by decide +kernel, by decide +kernel, by decide +kernel, by decide +kernel⟩, rfl⟩

/-- A top-up's write is in flight, a schedule waits and a step of the state: the write times out. -/
def holding : State := { withCopy .fare (copy .scheduled) (writing .topup) with reserved := 3, pending := [.writeTimeout] }

theorem holding_money : MoneyState holding.retained.op holding.retained.ledger.k holding.retained.ledger.pp holding.purchase
    holding.payout := ⟨by decide +kernel, by decide +kernel, by decide +kernel, by decide +kernel⟩

theorem holding_journal : JournalKept holding := by
  refine ⟨by decide +kernel, by decide +kernel, by decide +kernel, by decide +kernel, by decide +kernel, ?_, ?_, ?_, ?_, ?_⟩
  · rintro o ⟨⟩; decide +kernel
  · intro r hr _
    refine ⟨_, rfl, .inr (by decide +kernel), ?_⟩
    cases List.mem_singleton.1 hr
    rfl
  · rintro o ⟨⟩ _
    exact ⟨by decide +kernel, _, List.mem_singleton.2 rfl, by decide +kernel⟩
  · exact fun _ => ⟨_, rfl, .inr (by decide +kernel)⟩
  · intro j h
    exact absurd (h.symm.trans (rfl : holding.printer.job = none)) (Option.some_ne_none j)

theorem witness_JournalHolds :
    (MoneyState holding.retained.op holding.retained.ledger.k holding.retained.ledger.pp holding.purchase holding.payout ∧
      JournalKept holding) ∧ step holding = .next (nextOf (step holding)) := ⟨⟨holding_money, holding_journal⟩, rfl⟩

theorem witness_ReservationsKept :
    (MoneyState holding.retained.op holding.retained.ledger.k holding.retained.ledger.pp holding.purchase holding.payout ∧
      JournalKept holding ∧ ReservationsHeld holding) ∧ step holding = .next (nextOf (step holding)) :=
  ⟨⟨holding_money, holding_journal, by unfold ReservationsHeld; decide +kernel⟩, rfl⟩

theorem witness_RequestEncodingReadsBack :
    let i : Instr := .sell 255 9 7 .card true
    (i.wf = true ∧ (frameOfRequest i).isSome = true) ∧
      coldStart.generations.length = 5 ∧ (⟨23, .clock ready.clock 0, none⟩ : Reply).frame.wf = true := by decide +kernel

theorem witness_FramesCarryRequests :
    (let i : Instr := .load .template 65535 0 255 65535 96 (List.replicate 43 0)
     i.wf = true ∧ (frameOfRequest i).isSome = true) ∧
    ((frameOfLength 60).wf = true ∧ TakesFrames ready ∧ ready.cRx.fifo = [] ∧ ready.cRx.overrunNext = false ∧
      ready.cRx.asm = .hunting ∧ NoneWaits ready) ∧
    (let s := polling 0 ready
     s.running = true ∧ s.mAccepts = true ∧ s.mRx.fifo = [] ∧ s.mRx.overrunNext = false ∧ s.mRx.asm = .hunting ∧ NoneWaits s) := by
  unfold TakesFrames NoneWaits; decide +kernel

/-- A receiver with an empty FIFO that has taken all of an ALIVE frame but its CHECK character. -/
def nearlyAlive : Receiver := { ready.cRx with gapRunning := true, asm := .assembling [0x0E, 0x03, 0x00] false }

/-- Both lines wait for the CHECK character of a frame, the M-line in a poll of slot 1. -/
def nearly : State := { polling 0 ready with cRx := nearlyAlive, mRx := nearlyAlive }

theorem witness_CharacterArrivalStores :
    (ready.running = true ∧ (polling 0 ready).running = true ∧ (polling 0 ready).mAccepts = true ∧ ready.mAccepts = false) ∧
      { ready with stopping := true }.cStalled = true ∧
      (nearly.running = true ∧ nearly.cStalled = false ∧ nearly.cRx.fifo = [] ∧ nearly.mAccepts = true ∧ nearly.mRx.fifo = []) ∧
      (let take v := (asmTake (.char v (!evenParity v (evenParityBit v)) (!true) false) nearlyAlive.asm nearlyAlive.tallies).event
       take 0xEF = .frame ⟨0, 14, 3, []⟩ ∧ take 0xEE = .discarded ∧
         (asmTake (.char 0xEF false false false) .hunting nearlyAlive.tallies).event = .none) := by
  decide +kernel

theorem witness_BreakAndGapDelivered :
    let s := { polling 0 ready with cRx := { ready.cRx with gapRunning := true }, mRx := { ready.mRx with gapRunning := true } }
    s.running = true ∧ s.mAccepts = true ∧ s.cRx.gapRunning = true ∧ s.mRx.gapRunning = true ∧
      ready.cRx.gapRunning = false ∧ ready.mAccepts = false ∧ { s with stopping := true }.cStalled = true ∧
      (nearly.running = true ∧ nearly.cStalled = false ∧ nearly.cRx.fifo = [] ∧ nearly.cRx.gapRunning = true ∧
        nearly.mAccepts = true ∧ nearly.mRx.fifo = [] ∧ nearly.mRx.gapRunning = true ∧
        (asmTake .brk nearly.mRx.broken.asm nearly.mRx.broken.tallies).event = .discarded ∧
        (asmTake .gap nearly.mRx.asm nearly.mRx.tallies).event = .discarded) := by decide +kernel

theorem witness_AssemblerRules :
    (([] : List Byte).length < 2 ∧ ([0x0E] : List Byte).length < 2 ∧ ([0x0E, 3] : List Byte).length = 2) ∧
      60 < (61 : Byte).toNat ∧ (60 : Byte).toNat ≤ 60 ∧ (List.replicate 59 (0 : Byte)).length < (60 : Byte).toNat ∧
      (List.replicate 60 (0 : Byte)).length = (60 : Byte).toNat ∧
      ((frameOfLength 60).wf = true ∧ 64 < (frameBytes (frameOfLength 60)).length) := by decide +kernel

theorem witness_SilenceAndFrames :
    let s := { ready with silenceLimit := 2, silenceRunning := true }
    s.running = true ∧ s.silenceRunning = true ∧ s.detached = false ∧ ready.silenceRunning = false ∧
      { ready with detached := true }.detached = true ∧ TakesFrames s := by unfold TakesFrames; decide +kernel

theorem witness_MisaddressedFrameRefused :
    TakesFrames ready ∧ (⟨0, 13, 3, []⟩ : Frame).src ≠ 14 ∧
      (let f : Frame := ⟨7, 14, 70, []⟩; f.dest ≠ 0 ∧ ¬(1 ≤ f.dest.toNat ∧ f.dest.toNat ≤ 6) ∧ f.dest ≠ 15) := by
  unfold TakesFrames; decide +kernel

theorem witness_MalformedRequestRefused :
    TakesFrames ready ∧
      (Malformed 22 [] ∧ Malformed Kind.query [0] ∧ Malformed Kind.load [2, 2, 0, 0] ∧ Malformed Kind.load [2, 2, 0, 0, 1, 0, 0] ∧
        Malformed Kind.discard [5] ∧ Malformed Kind.inhibit [2] ∧ Malformed Kind.topup [0, 0, 2] ∧
        Malformed Kind.sell [1, 1, 8, 0, 0] ∧ Malformed Kind.activate (0 :: 1 :: 0 :: 2 :: List.replicate 6 0) ∧
        Malformed Kind.activate (0 :: 1 :: 0 :: 0 :: 1 :: List.replicate 5 0)) ∧
      (([2, 2, 0, 0] : List Byte).head? = some (TableKind.code .hotlist) ∧ Kind.query ≠ Kind.load) ∧
      loadFormatOk .hotlist (2 : Word16).toNat (0 : Byte).toNat [1, 0, 0] (ready.loads.get .hotlist) = false ∧
      ([1, 0, 0] : List Byte).length % entrySize .hotlist ≠ 0 ∧
      ((0 :: 1 :: 0 :: [0x41] ++ List.replicate 39 0 : List Byte) ∈
          entriesOf .template (0 :: 1 :: 0 :: [0x41] ++ List.replicate 39 0) ∧ (0x41 : Byte) ≠ 0) ∧
      (let e : List Byte := 2 :: List.replicate 31 0;
        (entriesOf .coin (List.replicate 32 0 ++ e))[1]? = some e ∧
          formatOk (layoutAt .coin (headerFor ((ready.loads.get .coin).heldFor 2) 0 (entriesOf .coin (List.replicate 32 0 ++ e)))
            (basePosition ((ready.loads.get .coin).heldFor 2) 0 + 1)) e = false) ∧
      (1 < byteAt [2] 0 ∧ 128 ≤ byteAt [128] 0 ∧ 2 < byteAt (List.replicate 17 0 ++ [3]) 17) ∧
      (let e : List Byte := List.replicate 38 0 ++ [4]; formatOk .product e = false ∧ formatOk .band e = false) ∧
      ((∀ j, j < 1 → entriesAt [⟨0, []⟩] 1 [[9]] j = some []) ∧ entriesAt [⟨0, []⟩] 1 [[9]] 1 = some ([9] :: []) ∧
        entriesAt [⟨0, []⟩] 2 [[9]] 1 = none) := by
  refine ⟨by unfold TakesFrames; decide +kernel, ⟨.unknown _ _ (by decide), .count _ _ 2 rfl (by decide), .loadShort _ (by decide),
    .firstShort _ _ _ _ _ (by decide), .table _ _ _ (by decide) (by decide), .switch _ _ (by decide) (by decide),
    .receipt _ _ _ (by decide), .sale _ _ _ _ _ (by decide), .due _ _ _ _ _ (by decide), .point _ _ _ 1 _ (by decide) (by decide)⟩,
    by decide +kernel, by decide +kernel, by decide +kernel, by decide +kernel, by decide +kernel, by decide +kernel, by decide +kernel,
    by decide +kernel⟩

/-- An entry past the FARE classes that comes before entry 0 is refused FORMAT where it is neither a product nor a band: its last byte
is then a set with a bit that has no member, or padding; with the two members of a product's set it is accepted (R177, R178). -/
theorem test_load_before_header :
    let load (last : Byte) := (nextOf (exec (.load .fare 2 9 20 0 0 (List.replicate 38 0 ++ [last])) ready))
    ((load 4).replies.map Reply.body = [.refusedLoad .format ⟨.none, 0, none⟩] ∧ (load 4).loads.fare = Load.empty) ∧
      ((load 3).replies.map Reply.body = [.load ⟨.filling, 1, none⟩] ∧ (load 3).loads.fare.st = .filling) := by decide +kernel

/-- Entry 0 may stand in segment 1 after a segment 0 that holds no entry: a band of the day mask 128 or with padding is then refused
FORMAT, though a product might hold its bytes, and one of the day mask 127 is taken (R102, R177, R178). -/
theorem test_load_header_in_segment_one :
    let header : List Byte := [100, 0, 0, 1] ++ List.replicate 35 0
    let held := withCopy .fare { copy .filling with total := 11, segments := [⟨0, []⟩, ⟨1, [header]⟩] } ready
    let load (mask pad : Byte) :=
      (nextOf (exec (.load .fare 2 10 11 0 0 (mask :: List.replicate 37 0 ++ [pad])) held)).loads.fare.segments.length
    (load 128 0, load 127 1, load 127 0) = (2, 2, 3) := by decide +kernel

theorem witness_StalledLineKeepsFrames :
    let s := { ready with replies := List.replicate 4 ⟨3, .alive, none⟩ }
    let waiting := { ready with cRx := { ready.cRx with
      fifo := (frameBytes (frameOfLength 59)).map fun b => .char b false false false } }
    s.running = true ∧ 4 ≤ s.replies.length ∧ { ready with stopping := true }.stopping = true ∧ s.cRx.fifo = [] ∧
      s.cRx.overrunNext = false ∧ (frameBytes (frameOfLength 59)).length = 64 ∧
      ((frameOfLength 59).wf = true ∧ waiting.cStalled = false ∧ waiting.cRx.asm = .hunting ∧
        waiting.cRx.fifo = (frameBytes (frameOfLength 59)).map fun b => .char b false false false) := by decide +kernel

/-- At a full reply list, a frame of 65 characters in an empty FIFO loses its last one: 64 stored, one overrun tallied, the mark waiting
for the next character (R2, R5). -/
theorem test_stalled_frame_overruns :
    let t := nextOf (exec (.cLineFrame (frameOfLength 60)) { ready with replies := List.replicate 4 ⟨3, .alive, none⟩ })
    (charCount t.cRx.fifo, t.cRx.overrunNext, t.cRx.tallies.overrun) = (64, true, 1) := by decide +kernel

theorem witness_TransmitterOrder :
    let idle : State := { ready with sending := none }
    let q := { idle with replies := [⟨3, .alive, none⟩] }
    let u := { idle with upwardQ := [⟨14, 3, 70, []⟩] }
    let v := { idle with reports := [.start coldStart] }
    let last : State := { ready with sending := some ⟨Reply.frame ⟨21, .accepted, some .restart⟩, some .restart⟩ }
    ({ ready with power := false }.running = false ∧ ready.sending ≠ none) ∧
      (q.running = true ∧ q.sending = none ∧ q.replies ≠ []) ∧ (u.running = true ∧ u.sending = none ∧ u.replies = [] ∧ u.upwardQ ≠ []) ∧
      (v.running = true ∧ v.sending = none ∧ v.replies = [] ∧ v.upwardQ = [] ∧ v.reports ≠ []) ∧
      (idle.running = true ∧ idle.sending = none ∧ idle.replies = [] ∧ idle.upwardQ = [] ∧ idle.reports = []) ∧
      (ready.running = true ∧ ready.startReplySent = none) ∧ (last.running = true ∧ last.startReplySent ≠ none) := by decide +kernel

theorem witness_DownwardFramePassage :
    let alone : State := { ready with slots := ready.slots.set 2 ⟨.other, false, 0, .waiting⟩ }
    (TakesFrames ready ∧ ready.part ≠ .unset ∧ (ready.slots.get 3).present = false ∧ guardedDown .card 53 = true ∧
      guardedDown .card 54 = false ∧ ready.passes 0 63 = true ∧ ready.passes 0 64 = false ∧
      8 ≤ { ready with forwardQ := List.replicate 8 ⟨3, 14, 63, []⟩ }.forwardQ.length ∧ ready.forwardQ.length < 8) ∧
    (TakesFrames alone ∧ alone.part ≠ .unset ∧
      ∀ i, (alone.slots.get i).role = .other → (alone.slots.get i).present = false) ∧
    ((ready.slots.get 2).role = .other ∧ (ready.slots.get 2).present = true ∧ ready.passes 6 63 = true) ∧
    (TakesFrames State.reset ∧ State.reset.retained.passage = none ∧ ready.retained.passage = some ⟨1, ⟨List.replicate 13 (BitVec.allOnes 64)⟩⟩) ∧
    (TakesFrames { ready with retained := { stock with passage := none } } ∧ ready.part ≠ .unset) := by
  unfold TakesFrames; decide +kernel

theorem witness_UnsetRefusesRequests :
    TakesFrames State.reset ∧ State.reset.part = .unset ∧
      (let f := requestFrame Kind.restart []
       frameOfRequest .restart = some f ∧ f.kind ≠ Kind.setup ∧ f.kind ≠ Kind.alive ∧ f.kind ≠ Kind.query ∧ f.kind ≠ Kind.load) ∧
      loadFormatOk .hotlist 1 0 [1, 0, 0, 0] (State.reset.loads.get .hotlist) = true := by
  unfold TakesFrames; decide +kernel

theorem witness_SetupMakesReady :
    let roles : Vector Byte 6 := #v[1, 2, 3, 3, 0, 0]
    TakesFrames State.reset ∧ ready.part ≠ .unset ∧ State.reset.part = .unset ∧ (1 : Word16) ≠ 0 ∧ (2 : Byte).toNat ≤ 2 ∧
      (∀ i, (roles.get i).toNat ≤ 3) ∧ (∀ i j, roles.get i = 1 → roles.get j = 1 → i = j) ∧
      (∀ i j, roles.get i = 2 → roles.get j = 2 → i = j) ∧ (60 : Byte).toNat ≠ 1 ∧ (60 : Byte).toNat ≤ 60 := by
  unfold TakesFrames; decide +kernel

theorem witness_QueryAnswers : TakesFrames ready ∧ (7 : Byte).toNat ≤ 7 ∧ 7 < (8 : Byte).toNat ∧ 6 < (7 : Byte).toNat := by
  unfold TakesFrames; decide +kernel

theorem witness_InhibitAndServiceSetPartState :
    TakesFrames ready ∧ ready.part = .ready ∧ ready.purchase ≠ .idle ∧ servicing.part = .service ∧
      (let s := { ready with purchase := .idle }; s.part = .ready ∧ s.purchase = .idle ∧ s.chute.state = .idle) := by
  unfold TakesFrames; decide +kernel

theorem witness_LoadAddsSegment :
    let many : Load := { copy .filling with total := 2, segments := [⟨1, List.replicate 1024 [1, 0, 0, 0]⟩] }
    TakesFrames ready ∧ ready.part ≠ .unset ∧ loadFormatOk .hotlist 2 0 [1, 0, 0, 0] (ready.loads.get .hotlist) = true ∧
      (withCopy .hotlist (copy .scheduled) ready).loads.hotlist.st = .scheduled ∧
      ¬((0 : Byte) = 0 → (1025 : Word16).toNat ≤ entryLimit .hotlist) ∧
      (ready.loads.hotlist.st ≠ .scheduled ∧ ready.retained.generation .coin = some 1 ∧
        ready.retained.generation .hotlist ≠ some 2 ∧
        entriesHeld (putSegment ⟨0, entriesOf .hotlist [1, 0, 0, 0]⟩ []) ≤ entryLimit .hotlist) ∧
      (let l := (withCopy .hotlist (copy .filling) ready).loads.hotlist
       l.st ≠ .none ∧ l.generation = 2 ∧ l.total ≠ 2) ∧
      (many.st ≠ .none ∧ many.generation = 2 ∧ many.total = 2 ∧ many.isSame 2 = true ∧
        entryLimit .hotlist < entriesHeld (putSegment ⟨0, entriesOf .hotlist [1, 0, 0, 0]⟩ many.segments)) := by
  unfold TakesFrames; decide +kernel

theorem witness_ValidationFindsFirstFailure :
    let fare : List (List Byte) := (0 :: 0 :: 0 :: [1] ++ [100, 0, 0, 0, 1, 0] ++ List.replicate 29 0)
      :: List.replicate 8 (List.replicate 39 0) ++ [1 :: List.replicate 38 0]
    validate .hotlist 3 2 [[1, 0, 0, 0], [2, 0, 0, 0]] = none ∧ validate .hotlist 4 2 [[1, 0, 0, 0], [2, 0, 0, 0]] = some (.check, 0) ∧
      validate .hotlist 3 1 [[1, 0, 0, 0], [2, 0, 0, 0]] = some (.count, 0) ∧
      validate .hotlist 3 2 [[2, 0, 0, 0], [1, 0, 0, 0]] = some (.order, 1) ∧
      validate .template 8 1 [8 :: List.replicate 42 0] = some (.field, 0) ∧
      validate .fare (byteSum fare.flatten % 65536) 10 fare ≠ none ∧ 9 < fare.length ∧ bandsFrom fare = 9 := by decide +kernel

theorem witness_DiscardDropsCopy :
    let s := { withCopy .fare (copy .scheduled) ready with reserved := 1 }
    TakesFrames s ∧ s.part ≠ .unset ∧ (s.loads.get .fare).st = .scheduled ∧ (ready.loads.get .fare).st = .none := by
  unfold TakesFrames; decide +kernel

theorem witness_ActivateTakesCopyIntoService :
    let s := withCopy .hotlist (copy .ready) ready
    let c := chuteIn .returning (withCopy .coin (copy .ready) ready)
    let p := withCopy .template (copy .ready) (printing .ticket)
    TakesFrames s ∧ s.part ≠ .unset ∧ (86400 : Word32).toNat > 86399 ∧ (86399 : Word32).toNat ≤ 86399 ∧
      ((s.loads.get .hotlist).st = .ready ∧ (s.loads.get .hotlist).generation = (2 : Word16).toNat) ∧
      generalCount s.frameSeen.reports + s.reserved < 11 ∧
      ¬generalCount { s with reserved := 11 }.frameSeen.reports + { s with reserved := 11 }.reserved < 11 ∧
      (TakesFrames c ∧ (c.loads.get .coin).st = .ready ∧ c.defers .coin = true ∧
        generalCount c.frameSeen.reports + c.reserved < 11) ∧
      (TakesFrames p ∧ (p.loads.get .template).st = .ready ∧ p.defers .template = true ∧
        generalCount p.frameSeen.reports + p.reserved < 11) ∧
      (s.clock.day = (20480 : Word16).toNat ∧ s.clock.second < (50401 : Word32).toNat) := by
  unfold TakesFrames; decide +kernel

theorem witness_ClockIsSet :
    (TakesFrames ready ∧ ready.part ≠ .unset) ∧ ¬((86400 : Word32).toNat ≤ 86399) ∧ ¬1 ≤ (0 : Byte).toNat ∧ ¬(8 : Byte).toNat ≤ 7 ∧
      ((86399 : Word32).toNat ≤ 86399 ∧ 1 ≤ (7 : Byte).toNat ∧ (7 : Byte).toNat ≤ 7) := by unfold TakesFrames; decide +kernel

/-- CLOCK at a schedule's point: the PASSAGE copy takes its place, and the reply counts one schedule (R36, R43). -/
theorem test_clock_schedule :
    let s := { withCopy .passage { copy .scheduled with due := .at 20480 50401 } ready with reserved := 1 }
    let t := nextOf (exec (.clock 20480 50401 3) s)
    (t.retained.generation .passage, t.loads.passage.st, t.reserved) = (some 2, .none, 0) := by decide +kernel

theorem witness_DepotClockCounts :
    let last := { ready with clock := ⟨65535, 86399, 99, 7, true, true, false⟩ }
    let stopped := { ready with clock := ⟨65535, 86399, 99, 7, true, false, true⟩ }
    (last.clock.running = true ∧ last.running = true ∧ { last with power := false }.running = false) ∧
      99 ≤ last.clock.hundredth ∧ ready.clock.hundredth < 99 ∧ last.power = true ∧ { last with power := false }.power = false ∧
      stopped.clock.running = false := by decide +kernel

theorem witness_PriceRoundsAndClamps :
    let p := priced 180 60 100 2000 20 .nearest
    0 < p.step ∧ p.floor ≤ p.cap ∧ p.rounding = .nearest ∧ (priced 180 60 100 2000 20 .up).rounding = .up ∧
      (priced 180 60 100 2000 20 .down).rounding = .down := by decide +kernel

theorem witness_SellRefusedInOrder :
    (let s : State := { ready with retained := { stock with hotlist := some ⟨1, [3, 7, 4294967295]⟩ } }
     ready.retained.hotlist = none ∧ s.retained.hotlist = some ⟨1, [3, 7, 4294967295]⟩ ∧
      ([3, 7, 4294967295] : List Nat).Pairwise (fun x y => x < y) ∧ ([3, 7, 4294967295] : List Nat).length ≤ 1024 ∧
      s.hotlisted 4294967295 = true ∧ s.hotlisted 8 = false) ∧
    (ready.clock.valid = true ∧ { ready.clock with valid := false }.valid = false ∧
      ([⟨0x7F, 0, 86400, 80⟩] : List Band)[1 - 1]? = some ⟨0x7F, 0, 86400, 80⟩) ∧
    TakesFrames ready ∧ ready.part ≠ .unset ∧ ready.retained.txn < 4294967295 ∧
      (ready.retained.fare.bind fun f => f.content.product? 1 .printed).isSome = true ∧
      (ready.retained.fare.bind fun f => f.content.product? 1 .card) = none ∧
      (let b := { bound with pass := some ⟨9, 20480⟩ }
       ∃ x, b.pass = some x ∧ ready.clock.stamp.day ≤ x.lastDay ∧ x.product ≠ weekPass.code) := by
  refine ⟨by decide +kernel, by decide +kernel, by unfold TakesFrames; decide +kernel, by decide +kernel, by decide +kernel,
    by decide +kernel, by decide +kernel, ⟨9, 20480⟩, rfl, by decide +kernel⟩

theorem witness_PrintedSaleAccepted :
    let p := priced 180 60 100 2000 20 .nearest
    TakesFrames ready ∧ ready.part = .ready ∧ ready.purchase = .opened ∧ ready.retained.txn < 4294967295 ∧
      (ready.retained.fare.bind fun f => f.content.product? (1 : Byte).toNat .printed) = some p ∧
      1 ≤ (9 : Byte).toNat ∧ (9 : Byte).toNat ≤ p.maxZones ∧ p.validityDays = 0 ∧ ready.printPath p.template = true ∧
      ¬ready.credit < 2000 ∧ ¬11 < generalCount ready.frameSeen.reports + ready.reserved + 2 := by
  unfold TakesFrames; decide +kernel

/-- A line of the job is one of a well-formed text (JobStarted). -/
theorem witness_lines_printed :
    (ready.templateLines 0)[0]? = some ⟨0, 1, [0x41]⟩ ∧ Printed [0x41] 1 ∧ Printed lineText 22 :=
  ⟨by decide +kernel, .literal _ _ _ (by decide) (by decide) .nil,
    .literal _ _ _ (by decide) (by decide) (.mark _ _ _ _ (by decide) (by decide) (.mark _ _ _ _ (by decide) (by decide)
      (.mark _ _ _ _ (by decide) (by decide) (.mark _ _ _ _ (by decide) (by decide) (.mark _ _ _ _ (by decide) (by decide) .nil)))))⟩

theorem witness_CardSaleAccepted :
    TakesFrames withCard ∧ withCard.part = .ready ∧ withCard.purchase = .opened ∧ withCard.retained.txn < 4294967295 ∧
      (withCard.retained.fare.bind fun f => f.content.product? (2 : Byte).toNat .card) = some weekPass ∧
      1 ≤ (1 : Byte).toNat ∧ (1 : Byte).toNat ≤ weekPass.maxZones ∧ weekPass.validityDays ≠ 0 ∧ withCard.clock.valid = true ∧
      withCard.card.binding = some bound ∧ bound.blocked = false ∧ withCard.hotlisted bound.card = false ∧
      withCard.journalTakes bound.card = true ∧ bound.pass = none ∧
      ¬11 < generalCount withCard.frameSeen.reports + withCard.reserved + 2 := by unfold TakesFrames; decide +kernel

theorem witness_TopupCheckedAndAccepted :
    (TakesFrames withCard ∧ withCard.part ≠ .unset ∧ withCard.purchase = .opened ∧ withCard.retained.txn < 4294967295 ∧
      withCard.retained.fare.isSome = true ∧ withCard.card.binding = some bound ∧
      withCard.hotlisted bound.card = false ∧ withCard.journalTakes bound.card = true ∧
      ¬withCard.credit < (3000 : Word16).toNat) ∧
    (let h := cardTerms 5
     1 ≤ h.minTopup ∧ 1 ≤ h.topupStep ∧ h.minTopup ≤ 13000 ∧ 13000 % h.topupStep = 0 ∧
       1250 + 13000 + 13000 * 5 / 100 ≤ h.maxBalance) := by unfold TakesFrames; decide +kernel

theorem witness_CancelPaysOutCredit :
    let empty := { ready with retained := { stock with tubeCounts := #v[0, 0, 0, 0] } }
    TakesFrames ready ∧ ready.part ≠ .unset ∧ (ready.plan 3000).1 ≠ [] ∧ TakesFrames empty ∧ (empty.plan 3000).1 = [] ∧
      ready.retained.ledger.c.toNat = 3000 := by unfold TakesFrames; decide +kernel

theorem witness_VoucherAndReprintStartJobs :
    TakesFrames ready ∧ ready.part ≠ .unset ∧ ready.purchase = .opened ∧ ready.printPath 7 = true ∧ ready.printPath 6 = true ∧
      ready.retained.lastReceipt = none := by unfold TakesFrames; decide +kernel

theorem witness_TubeAndWriteOff :
    (ready.retained.coin = some ⟨1, coinTable false⟩ ∧ (coinTable false).tubes[(0 : Fin 4).val]? = some ⟨3, 50, 5⟩ ∧
      (coinTable false).tubes[(2 : Fin 4).val]? = some ⟨0, 0, 0⟩ ∧ State.reset.retained.coin = none) ∧
    let r : JournalRecord := ⟨.uncertain, 1, 70015522, .topup, 2000, 100, 5, 7, .balance 3350, ready.clock.stamp⟩
    let s := { servicing with retained := { servicing.retained with journal := [] ++ r :: [] } }
    TakesFrames servicing ∧ servicing.part = .service ∧ ready.part ≠ .service ∧ (4 : Byte).toNat = (3 : Fin 4).val + 1 ∧
      4 < (5 : Byte).toNat ∧ s.retained.journal = [] ++ r :: [] ∧ r.state = .uncertain ∧ r.txn = (1 : Word32).toNat ∧
      (∀ x ∈ ([] ++ [] : List JournalRecord), x.txn ≠ r.txn) ∧
      (∀ r ∈ servicing.retained.journal, r.state = .uncertain → r.txn ≠ (1 : Word32).toNat) := by
  unfold TakesFrames; decide +kernel

theorem witness_ClearTotalsZeroesCounters :
    TakesFrames State.reset ∧ TakesFrames ready ∧ TakesFrames servicing ∧ servicing.part = .service ∧
      servicing.retained.ledger.noMoney = true := by unfold TakesFrames; decide +kernel

theorem witness_RestartRequestsOnlyAnswer :
    TakesFrames servicing ∧ servicing.part ≠ .unset ∧ servicing.part ≠ .ready ∧ servicing.retained.ledger.noMoney = true ∧
      servicing.retained.journal = [] ∧ TakesFrames ready ∧ ready.part = .ready := by unfold TakesFrames; decide +kernel

theorem witness_StartsResolveAndClear :
    let off := { busy .topup with power := false }
    let held := { busy .topup with resetHeld := true }
    let sent (c : StartCause) := { ready with sending := some ⟨Reply.frame ⟨21, .accepted, some c⟩, some c⟩ }
    (off.power = false ∧ off.resetHeld = false ∧ off.retainedGood = true ∧
        { off with retainedGood := false }.retainedGood = false) ∧
      (held.power = true ∧ held.resetHeld = true ∧ held.retainedGood = true) ∧
      ((sent .restart).running = true ∧ (sent .restart).startReplySent = some .restart) ∧
      ((sent .clearAll).running = true ∧ (sent .clearAll).startReplySent = some .clearAll) := by decide +kernel

theorem witness_PowerAndReset :
    ready.power = true ∧ { ready with power := false }.power = false ∧ { ready with power := false }.running = false ∧
      (let s := { ready with power := false, resetHeld := true }; s.power = false ∧ s.resetHeld = true) := by decide +kernel

theorem witness_ExchangeGrantOrder :
    let wr := { writing .topup with card := ⟨some bound, .owed (writeOf .topup), .none⟩ }
    let owing (o : PrintOwed) (cut : Bool) : State := { printing .ticket with
      printer := { (printing .ticket).printer with
        owed := o, job := some ⟨.ticket, 4, 1, 0, FieldValues.none, [[0x41]], if cut then 1 else 0, false⟩ } }
    let hold := { withCard with card := ⟨some bound, .none, .hold⟩ }
    let forward (d : BitVec 4) : State := { ready with forwardQ := [⟨d, 14, 63, []⟩] }
    let due : State := { ready with slots := ready.slots.set 3 ⟨.other, false, 0, .due⟩ }
    ((polling 0 ready).exchange ≠ none ∧ State.reset.part = .unset ∧
        8 ≤ { ready with upwardQ := List.replicate 8 ⟨14, 3, 70, []⟩ }.upwardQ.length) ∧
      (wr.running = true ∧ wr.exchange = none ∧ wr.part ≠ .unset ∧ wr.upwardQ.length < 8 ∧
        wr.card.write = .owed (writeOf .topup) ∧ wr.presentOfRole .card = some 0 ∧ wr.card.owed ≠ .hold) ∧
      ((owing (.ask true) false).card.write = .none ∧ (owing (.ask true) false).presentOfRole .printer = some 1 ∧
        (owing (.ask true) false).printer.owed = .ask true) ∧
      ((owing .line false).printer.owed = .line ∧ (owing .line false).printer.job.isSome = true ∧
        (owing .cut true).printer.owed = .cut ∧ (owing .cut true).printer.job.isSome = true) ∧
      (hold.card.write = .none ∧ hold.printer.owed = .none ∧ hold.presentOfRole .card = some 0 ∧ hold.card.owed = .hold ∧
        hold.card.binding = some bound ∧ { ready with card := ⟨none, .none, .release⟩ }.card.owed = .release) ∧
      (ready.card.write = .none ∧ ready.printer.owed = .none ∧ ready.card.owed = .none) ∧
      ((3 : BitVec 4) = slotAddress 2 ∧ (forward 3).forwardQ ≠ [] ∧ ((forward 3).slots.get 2).present = true ∧
        (forward 15).otherPresent = true) ∧
      (ready.forwardQ = [] ∧ (due.slots.get 3).role ≠ .none ∧ (due.slots.get 3).present = false ∧
        (due.slots.get 3).reprobe = .due) ∧
      (ready.lastPolled + 0 + 1 = 0 ∧ (ready.slots.get 0).role ≠ .none ∧ (ready.slots.get 0).present = true) := by
  decide +kernel

theorem witness_ModuleAnswerDisposed :
    let back (i : Fin 6) : State := { polling i ready with slots := ready.slots.set i { ready.slots.get i with present := false } }
    (ready.running = true ∧ ready.exchange = none) ∧
      ((polling 2 ready).running = true ∧ (polling 2 ready).exchange = some ⟨.slot 2, .poll, slotFrame 2 1 []⟩ ∧
        (⟨14, 3, 70, []⟩ : Frame).src = slotAddress 2 ∧ ((polling 2 ready).slots.get 2).present = true ∧
        consumedUp .other 63 = false ∧ (polling 2 ready).passes (7 + 2) 63 = true ∧ (polling 2 ready).passes (7 + 2) 64 = false) ∧
      (consumedUp .card 54 = true ∧ consumedUp .card 56 = true ∧ (ready.slots.get 0).role = .card ∧ slotAddress 0 = 1 ∧
        consumedUp .printer 61 = true ∧ consumedUp .printer 63 = true ∧ (ready.slots.get 1).role = .printer) ∧
      (∀ i, i = 0 ∨ i = 1 ∨ i = 2 → (back i).running = true ∧ ((back i).slots.get i).present = false ∧
        ((back i).slots.get i).role = (ready.slots.get i).role) ∧
      ¬((⟨14, 4, 70, []⟩ : Frame).src = slotAddress 2) := by decide +kernel

theorem witness_NoAnswerAndReprobe :
    let missing (i : Fin 6) (n : Nat) (s : State) : State :=
      { polling i s with slots := s.slots.set i { s.slots.get i with miss := n } }
    let group : State := { ready with exchange := some ⟨.group, .forward, ⟨15, 14, 63, []⟩⟩ }
    let s := missing 0 2 (writing .topup)
    let p := missing 1 2 (printing .ticket)
    ready.running = true ∧ ready.exchange = none ∧ (polling 3 ready).mRx.asm = .hunting ∧
      ((polling 3 ready).slots.get 3).present = false ∧
      (((missing 0 1 ready).slots.get 0).present = true ∧ ((missing 0 1 ready).slots.get 0).miss < 2) ∧
      (∀ i, i = 0 ∨ i = 1 ∨ i = 2 → ((missing i 2 ready).slots.get i).present = true ∧ 2 ≤ ((missing i 2 ready).slots.get i).miss ∧
        (missing i 2 ready).mRx.asm = .hunting) ∧
      ((missing 0 2 ready).card.binding = none ∧ (missing 0 2 ready).card.write = .none ∧ (missing 1 2 ready).printer.job = none) ∧
      ((missing 0 2 withCard).card.binding ≠ none ∧ (missing 0 2 withCard).card.write = .none) ∧
      (s.running = true ∧ s.retained.op = some (opOf .topup 2000) ∧ s.card.write = .sent (writeOf .topup) ∧ 2 ≤ s.reserved) ∧
      (p.running = true ∧ (p.slots.get 1).role = .printer ∧ p.printer.job.map Job.kind = some .ticket ∧ 2 ≤ p.reserved) ∧
      (group.running = true ∧ group.exchange = some ⟨.group, .forward, ⟨15, 14, 63, []⟩⟩) ∧
      (ready.slots.get 3).reprobe = .waiting := by decide +kernel

theorem witness_SensorEdges :
    let risen (x : Sensor) (s : State) : State := { s with chute := { s.chute with active := s.chute.active.set true x } }
    (ready.running = true ∧ ready.chute.state = .idle ∧ ready.chute.active.get .a = false) ∧
      (risen .a (chuteIn .onA ready)).chute.active.get .a = true ∧
      (chuteIn .gap ready).chute.state = .gap ∧ (chuteIn .returning ready).chute.state = .returning ∧
      ((chuteIn .onA ready).chute.state, Sensor.b, FaultKind.order) ∈
        [(ChuteState.idle, Sensor.b, FaultKind.order), (.onA, .b, .order)] ∧
      (chuteIn .fault ready).chute.state = .fault ∧
      ((chuteIn .accepting ready).chute.state ≠ .fault ∧ (risen .c (chuteIn .accepting ready)).chute.active.get .c = true) := by
  decide +kernel

/-- D in RETURNING lets the COIN activation that waited take place (R27). -/
theorem test_waiting_activation :
    let s := chuteIn .returning (withCopy .coin { copy .scheduled with fallen := true } { ready with reserved := 1 })
    let t := nextOf (exec (.sensorRise .d 10) s)
    (t.chute.state, t.retained.generation .coin, t.loads.coin.st, t.reserved) = (.idle, some 2, .none, 0) := by decide +kernel

theorem witness_CoinDecision :
    let s : State := chuteIn .onB { ready with
      chute := { ready.chute with wA := 1500, fAB := 3200, wB := 1300, active := ⟨false, true, false, false⟩ } }
    let l := s.retained.ledger
    ((65535 : Nat) ≤ 65535 ∧ 1500 < 65535 ∧ 65534 < 65535) ∧
      (ready.retained.coin = some ⟨1, coinTable false⟩ ∧ (coinTable false).coins[3 - 1]? = some ⟨true, 50, 112, 128, 104, 120, 2000, 5000⟩ ∧
        (coinTable false).tubes[(0 : Fin 4).val]? = some ⟨3, 50, 5⟩ ∧ ready.tubeNaming 4 = none) ∧
      s.running = true ∧ s.chute.state = .onB ∧ s.chute.active.b = true ∧ s.chute.wA ≤ 65535 ∧ s.chute.fAB ≤ 65535 ∧
      classify s.coinTable 1500 3200 (min (1300 + 100) 65535) = .kind 3 ∧
      l.c.toNat + l.k.toNat + l.pp.toNat + s.coinValue 3 ≤ 16000 ∧ s.doorOpen = false ∧
      (s.retained.fare.map fun f => f.content.header.ceiling) = some 16000 ∧
      classify s.coinTable 1500 3200 (min (1300 + 64235) 65535) = .none := by decide +kernel

theorem witness_CoinCredited :
    ∀ r, r = .tube 0 ∨ r = .cashBox → (accepting r).running = true ∧ (accepting r).chute.state = .accepting ∧
      (accepting r).chute.active.c = false ∧ (accepting r).chute.coin = some ⟨.kind 3, some ⟨3, 50, r, 3050⟩⟩ ∧
      ChuteKept (accepting r).chute (accepting r).retained.ledger := by
  rintro r (h | h) <;> subst h <;>
    exact ⟨by decide +kernel, by decide +kernel, by decide +kernel, by decide +kernel, accepting_kept _⟩

theorem witness_ChuteLimitsAndFaults :
    let s : State := { ready with chute := { ready.chute with state := .fault, fault := some .coil } }
    let waiting : State := { ready with chute := { ready.chute with state := .fault, fault := some .jamA, timer := some 2000 } }
    (∀ c, (chuteIn c ready).running = true ∧ (chuteIn c ready).chute.state = c) ∧
      (State.reset.retained.coin = none ∧ ready.retained.coin = some ⟨1, coinTable false⟩) ∧
      (waiting.running = true ∧ waiting.chute.state = .fault ∧ waiting.chute.timer ≠ none) ∧
      (s.running = true ∧ s.chute.timer = none) ∧ (TakesFrames ready ∧ ready.part ≠ .unset ∧ ready.chute.state ≠ .fault) ∧
      (TakesFrames s ∧ s.part ≠ .unset ∧ s.chute.state = .fault ∧ allIdle s.chute.active = true ∧ s.chute.fault = some .coil) := by
  refine ⟨fun c => ?_, by unfold TakesFrames; decide +kernel⟩
  cases c <;> decide +kernel

theorem witness_DoorAndLever :
    let opened : State := { ready with doorOpen := true }
    let waiting : State := { paying with
      doorOpen := true, payout := paying.payout.map fun (p : Payout) => { p with started := false } }
    ready.running = true ∧ ready.doorOpen = false ∧ (opened.running = true ∧ opened.doorOpen = true ∧ opened.payout = none) ∧
      (waiting.running = true ∧ waiting.doorOpen = true ∧ (waiting.payout.bind Payout.current).isSome = true ∧
        waiting.payout.map Payout.started = some false) ∧
      (ready.part = .ready ∧ ready.purchase = .opened ∧ ready.retained.ledger.c ≠ 0 ∧ ready.chute.state = .idle ∧
        generalCount ready.reports + ready.reserved < 11) ∧
      ¬generalCount { ready with reserved := 11 }.reports + { ready with reserved := 11 }.reserved < 11 := by decide +kernel

/-- Coils at the end of EB's last pull-in period, with DVT the target at the quiet count N. -/
def pulling : State :=
  { ready with coils := { ready.coils with
      coils := ⟨⟨.pullIn, true, 1, false⟩, ⟨.pullIn, false, 0, false⟩, .rest, .rest⟩, target := some true, quiet := 2, driven := false } }

/-- A failed PULL_IN_CHECK of EB shows the sensed state of that period for a coil that is not checked as well (R79, R84). -/
theorem test_check_senses_all :
    let t := nextOf (exec (.pullInCheck ⟨true, false, false, false⟩
      ⟨⟨false, false⟩, ⟨true, false⟩, ⟨false, false⟩, ⟨false, false⟩⟩) pulling)
    (t.coils.faulted, t.coils.failed.eb, t.coils.coils.eb.sensed, t.coils.coils.ag.sensed, pulling.coils.coils.ag.sensed) =
      (true, true, false, true, false) := by decide +kernel

theorem witness_CoilPeriods :
    let d := pulling.coils
    let current : PerCoil Sense := ⟨⟨true, true⟩, ⟨false, false⟩, ⟨false, false⟩, ⟨false, false⟩⟩
    let dead : PerCoil Sense := ⟨⟨true, false⟩, ⟨false, false⟩, ⟨false, false⟩, ⟨false, false⟩⟩
    let ends : PerCoil Bool := ⟨true, true, false, false⟩
    let passes (sense : PerCoil Sense) (n : CoilName) : Bool := (sense.get n).inPulse && decide (0 < effectivePullIn coinHeader n)
    let last (n : CoilName) : Bool := decide ((d.coils.get n).phase = .pullIn) && (d.coils.get n).begun && decide ((d.coils.get n).left ≤ 1)
    (State.reset.running = true ∧ State.reset.retained.coin = none) ∧ (pulling.running = true ∧ pulling.retained.coin.isSome = true) ∧
      (∀ n, (last n && !passes current n) = false) ∧ (last .eb && !passes dead .eb) = true ∧
      (∀ n, (ends.get n && last n) = true → passes current n = true) ∧ ((ends.get .eb && last .eb) = true ∧ passes dead .eb = false) ∧
      (d.faulted = false ∧ coinHeader.nonOverlap ≤ d.quiet ∧ d.target = some true ∧ { d with target := some false }.target = some false) ∧
      ({ d with quiet := 1 }.quiet < coinHeader.nonOverlap) := by
  refine ⟨by decide +kernel, by decide +kernel, fun n => ?_, by decide +kernel, fun n => ?_, by decide +kernel⟩
  all_goals cases n <;> decide +kernel

theorem witness_PayoutEvents :
    let last : State := { paying with payout := paying.payout.map fun (p : Payout) => { p with rest := [] } }
    let again : State := { paying with payout := paying.payout.map fun (p : Payout) => { p with replanned := true } }
    let trailing : State := { paying with tubes := paying.tubes.set 0 ⟨false, false, .trailing, 50⟩ }
    paying.running = true ∧ (paying.tubes.get 1).dispenser = .off ∧ (paying.tubes.get 0).dispenser = .running ∧
      ((paying.payout.bind Payout.current) = some ⟨0, 50, 2, 1⟩ ∧ 2 ≤ 1 + 1 ∧ (paying.payout.map Payout.rest) = some [⟨1, 20, 2, 0⟩]) ∧
      (last.running = true ∧ (last.tubes.get 0).dispenser = .running ∧ (last.payout.map Payout.rest) = some [] ∧ 0 < last.reserved) ∧
      ((paying.payout.map Payout.replanned) = some false ∧ (again.payout.map Payout.replanned) = some true ∧ 0 < again.reserved) ∧
      (trailing.running = true ∧ (trailing.tubes.get 0).dispenser = .trailing) := by decide +kernel

/-- CARD SEEN of the card 70015522 with class 1, balance 1250, sequence 5, no pass and no history (R125, R177). -/
def seenPayload : List Byte := leBytes 4 70015522 ++ [1] ++ leBytes 2 1250 ++ leBytes 2 5 ++ List.replicate 29 0

/-- An answer of a PRESENT slot of a role in an exchange with it. -/
theorem answers_of {i : Fin 6} {o : Owner} {r : Role} {f g : Frame} {s : State} (hr : s.running = true)
    (hx : s.exchange = some ⟨.slot i, o, g⟩) (h : (s.slots.get i).role = r ∧ (s.slots.get i).present = true)
    (hs : f.src = slotAddress i) (hd : f.dest = 0) : Answers i o r f s := ⟨hr, ⟨_, hx⟩, h.1, h.2, hs, .inl hd⟩

theorem witness_PresentationBinds :
    let s := polling 0 ready
    let f := answer 1 54 seenPayload
    let p : Presentation := ⟨70015522, 1, 1250, 5, none, []⟩
    let r : JournalRecord := ⟨.uncertain, 1, 70015522, .topup, 2000, 100, 5, 7, .balance 3350, ready.clock.stamp⟩
    let full : State := { s with retained := { stock with journal := [r] }, reserved := 11 }
    let other : Binding := { bound with card := 1 }
    let held := polling 0 { withCard with card := ⟨some other, .none, .none⟩ }
    (Answers 0 .poll .card f s ∧ f.kind = Kind.cardSeen ∧ cardSeenOf f.payload = some p) ∧
      (s.presentable ∧ s.unresolved p.card = false) ∧ (¬{ s with purchase := .busy }.presentable ∧ s.card.binding = none) ∧
      (Answers 0 .poll .card f full ∧ full.card.binding = none ∧ full.unresolved p.card = true ∧
        11 ≤ generalCount full.reports + full.reserved) ∧
      (Answers 0 .poll .card f (polling 0 withCard) ∧ (polling 0 withCard).card.binding = some bound ∧ bound.card = p.card) ∧
      (Answers 0 .poll .card f held ∧ held.card.binding = some other ∧ other.card ≠ p.card) ∧
      (Answers 0 .poll .card (answer 1 55 []) (polling 0 withCard) ∧ (answer 1 55 []).kind = Kind.cardGone) ∧
      (Answers 0 .poll .card (answer 1 55 []) (polling 0 (writing .topup)) ∧ (writing .topup).card.write ≠ .none) ∧
      (Answers 0 .poll .card (answer 1 54 [0]) s ∧ cardSeenOf [0] = none ∧ (answer 1 55 [0]).payload ≠ []) := by
  refine ⟨⟨answers_of ?_ rfl ?_ rfl rfl, ?_⟩, ⟨?_, ?_⟩, ⟨?_, ?_⟩, ⟨answers_of ?_ rfl ?_ rfl rfl, ?_⟩, ⟨answers_of ?_ rfl ?_ rfl rfl, ?_⟩,
    ⟨answers_of ?_ rfl ?_ rfl rfl, ?_⟩, ⟨answers_of ?_ rfl ?_ rfl rfl, ?_⟩, ⟨answers_of ?_ rfl ?_ rfl rfl, ?_⟩,
    ⟨answers_of ?_ rfl ?_ rfl rfl, ?_⟩⟩
  all_goals first | decide +kernel | (unfold State.presentable; decide +kernel)

/-- A presentation of the card 70015522 of a sequence, its history one pair of machine id 7 and a transaction number (R125, R177). -/
def seenAgain (sequence txn : Nat) : List Byte :=
  leBytes 4 70015522 ++ [1] ++ leBytes 2 1250 ++ leBytes 2 sequence ++ List.replicate 4 0 ++ [1] ++ leBytes 2 7 ++ leBytes 4 txn ++ List.replicate 18 0

theorem witness_PresentationResolves :
    let r (k : OpKind) : JournalRecord := ⟨.uncertain, 1, 70015522, k, 2000, 100, 5, 7, (writeOf k).content, ready.clock.stamp⟩
    let s (k : OpKind) : State := polling 0 { ready with retained := { stock with journal := [] ++ r k :: [] } }
    let shown (q n : Nat) : Presentation := ⟨70015522, 1, 1250, q, none, [(7, n)]⟩
    (∀ k q n, Answers 0 .poll .card (answer 1 54 (seenAgain q n)) (s k)) ∧
      (cardSeenOf (seenAgain 6 1) = some (shown 6 1) ∧ cardSeenOf (seenAgain 5 2) = some (shown 5 2) ∧
        cardSeenOf (seenAgain 6 2) = some (shown 6 2)) ∧
      (∀ k, (s k).presentable ∧ (s k).retained.journal = [] ++ r k :: [] ∧ (r k).card = 70015522 ∧ (r k).state = .uncertain ∧
        generalCount (s k).reports + (s k).reserved < 11) ∧
      ((r .topup).machineId, (r .topup).txn) ∈ (shown 6 1).history ∧ (r .cardSale).kind ≠ .topup ∧
      (((r .topup).machineId, (r .topup).txn) ∉ (shown 5 2).history ∧ (shown 5 2).sequence = (r .topup).oldSequence ∧
        (shown 6 2).sequence ≠ (r .topup).oldSequence) := by
  refine ⟨fun k q n => answers_of ?_ rfl ?_ rfl rfl, by decide +kernel, fun k => ⟨?_, rfl, rfl, rfl, ?_⟩, by decide +kernel⟩
  · rfl
  · exact ⟨rfl, rfl⟩
  · exact ⟨rfl, (by decide +kernel : ready.card.owed ≠ .release), .inr rfl, (by decide +kernel : ready.chute.state ≠ .accepting)⟩
  · exact (by decide : 0 < 11)

/-- A card found written is resolved LANDED: H falls, TOPPED grows by the amount and BONUS by the bonus (R96, R127). -/
theorem test_resolved :
    let r : JournalRecord := ⟨.uncertain, 1, 70015522, .topup, 2000, 100, 5, 7, .balance 3350, ready.clock.stamp⟩
    let s : State := polling 0 { ready with retained := { stock with journal := [r], ledger := { stock.ledger with h := 2000 } } }
    let t := nextOf (exec (.moduleAnswer (answer 1 54 (seenAgain 6 1))) s)
    (t.retained.ledger.h, t.retained.ledger.topped, t.retained.ledger.bonus, t.retained.journal, t.card.owed)
      = (0, 2000, 100, [], .hold) := by decide +kernel

theorem witness_CardWriteEnds :
    let s := polling 0 (writing .topup)
    let sale := polling 0 (writing .cardSale)
    let gone : State := { s with card := ⟨some { bound with gone := true }, .sent (writeOf .topup), .none⟩ }
    let unreceipted : State := { s with retained := { s.retained with op := some { opOf .topup 2000 with receipt := false } } }
    let idlePrinter : State := { s with printer := { s.printer with room := 0, paper := .out } }
    (ready.running = true ∧ ready.card.write = .none) ∧
      (∀ p, Answers 0 .poll .card (answer 1 56 p) (polling 0 ready) ∧ (answer 1 56 p).kind = Kind.cardWritten) ∧ cardWrittenOf [] = none ∧
      (s.running = true ∧ s.retained.op = some (opOf .topup 2000) ∧ s.card.write = .sent (writeOf .topup) ∧ 2 ≤ s.reserved) ∧
      (sale.running = true ∧ sale.retained.op = some (opOf .cardSale 2000) ∧ sale.card.write = .sent (writeOf .cardSale) ∧
        2 ≤ sale.reserved ∧ (opOf .cardSale 2000).kind = .cardSale) ∧
      (gone.running = true ∧ gone.card.binding.any Binding.gone = true ∧ gone.card.write = .sent (writeOf .topup)) ∧
      ((∀ p, Answers 0 .poll .card (answer 1 56 p) s) ∧ ∀ p, Answers 0 .poll .card (answer 1 56 p) sale) ∧
      (cardWrittenOf [1, 0, 0, 0, 0, 6, 0] = some (1, .done 6) ∧ cardWrittenOf [1, 0, 0, 0, 1, 0, 0] = some (1, .fail) ∧
        cardWrittenOf [1, 0, 0, 0, 2, 0, 0] = some (1, .unsure) ∧ cardWrittenOf [2, 0, 0, 0, 1, 0, 0] = some (2, .fail) ∧
        (writeOf .topup).txn = 1 ∧ (writeOf .cardSale).txn = 1) ∧
      ((writeOf .topup).content = .balance 3350 ∧ (writeOf .cardSale).content = .pass 2 20480 20486) ∧
      ((opOf .topup 2000).receipt = true ∧ s.printPath 6 = true ∧ idlePrinter.printPath 6 = false ∧
        unreceipted.retained.op = some { opOf .topup 2000 with receipt := false }) := by
  refine ⟨by decide +kernel, fun p => ⟨answers_of rfl rfl ⟨rfl, rfl⟩ rfl rfl, rfl⟩, by decide +kernel, by decide +kernel,
    by decide +kernel, by decide +kernel, ⟨fun p => answers_of rfl rfl ⟨rfl, rfl⟩ rfl rfl,
    fun p => answers_of rfl rfl ⟨rfl, rfl⟩ rfl rfl⟩, by decide +kernel⟩

/-- Two reservations are enough for any job. -/
theorem jobReserved_of {s : State} (h : 2 ≤ s.reserved) : s.jobReserved := fun _ _ => ⟨fun _ => h, fun _ => by omega⟩

theorem witness_PrintJobEnds :
    let asking : State := { busy .printedSale with
      printer := ⟨.ok, .closed, .clear, 0, some ⟨.ticket, 4, 1, 0, FieldValues.none, [[0x41]], 0, false⟩, 4, .none, true⟩ }
    let sending : State := { asking with exchange := some ⟨.slot 1, .printAsk true, slotFrame 1 Kind.printAsk []⟩ }
    (ready.running = true ∧ ready.printer.job = none ∧ ready.printer.askWait = false) ∧
      (∀ k, (printing k).running = true ∧ ((printing k).printer.job.map fun j => (j.kind, j.awaitCut)) = some (k, true) ∧
        (printing k).jobReserved) ∧
      (asking.running = true ∧ asking.printer.askWait = true ∧ asking.exchange = none) ∧
      (sending.running = true ∧ sending.printer.askWait = true ∧ (sending.exchange.map fun x => x.owner.isPrint) = some true) := by
  refine ⟨by decide +kernel, fun k => ⟨by cases k <;> decide +kernel, by cases k <;> decide +kernel, jobReserved_of ?_⟩,
    by decide +kernel, by decide +kernel⟩
  exact (by decide : 2 ≤ 2)

theorem witness_PrinterNoticesTaken :
    let s := polling 1 (printing .ticket)
    (∀ k p, Answers 1 .poll .printer (answer 2 k p) s) ∧ s.jobReserved ∧
      ((∀ k p, Answers 1 (.printAsk true) .printer (answer 2 k p) askingRoom) ∧ askingRoom.jobReserved ∧
        askingRoom.printer.owed ≠ .ask false ∧
        (askingRoom.printer.job.map fun j => (j.awaitCut, decide (j.next < j.lines.length))) = some (false, true)) ∧
      printerNotices Kind.printRoom [1, 3, 1, 0] = some [.room 3, .room 0] ∧
      (printerNotices Kind.printRoom [1, 8, 2, 4] = some [.room 8, .cutDone 4] ∧ (answer 2 61 [1, 8, 2, 4]).kind = Kind.printRoom) ∧
      printerNotices Kind.printCutDone [2, 4] = some [.cutDone 4] ∧
      printerNotices Kind.printState [3, 2, 0, 0] = some [.state .out .closed .clear] ∧
      (printerNotices Kind.printRoom [1, 9] = none ∧ printerNotices Kind.printRoom [2, 4] = none) := by
  refine ⟨fun k p => answers_of rfl rfl ⟨rfl, rfl⟩ rfl rfl, jobReserved_of (by decide : 2 ≤ 2),
    ⟨fun k p => answers_of rfl rfl ⟨rfl, rfl⟩ rfl rfl, jobReserved_of (by decide : 2 ≤ 2), by decide +kernel⟩, by decide +kernel⟩

/-- Paper out fails a ticket: its sale is void and the credit whole again (R119, R168). -/
theorem test_paper_out :
    let t := nextOf (exec (.moduleAnswer (answer 2 63 [3, 2, 0, 0])) (polling 1 (printing .ticket)))
    (t.retained.ledger.c, t.retained.ledger.k, t.printer.job, t.printer.paper, t.purchase) = (3000, 0, none, .out, .opened) := by
  decide +kernel

theorem witness_ReportsCoalesce :
    let c : Report := .credit ⟨5, .opened, 65535, 0, 0⟩
    let before : List Report := [.start coldStart]
    let q : List Report := before ++ c :: [.tubes (Vector.replicate 4 ⟨0, false, false⟩)]
    (∀ x ∈ before, x.kind ≠ c.kind) ∧ q = before ++ c :: [.tubes (Vector.replicate 4 ⟨0, false, false⟩)] := by
  decide +kernel

end Sys2Proof.Tests
end

section
/-! PROOFS. The queues of the lines under every operation (R5, R6, R13, R17): most operations leave them and the exchange as they
are, a request adds one reply, and the ends of exchanges, the grants and the transmitter move the rest. -/

namespace Sys2Proof.Machine

/-! ## What the bounds rest on -/

/-- What the bounds of the lines' queues rest on. -/
structure LineView where
  running : Bool
  sending : Option Sending
  replies : List Reply
  upwardQ : List Frame
  forwardQ : List Frame
  exchange : Option Exchange

/-- The lines' queues of a state, with the transmitter and the exchange. -/
def State.lineView (s : State) : LineView := ⟨s.running, s.sending, s.replies, s.upwardQ, s.forwardQ, s.exchange⟩

/-! ## Operations that leave the lines' queues as they are -/

theorem State.issueFree_line (r : Report) (s : State) : (s.issueFree r).lineView = s.lineView := by
  unfold State.issueFree
  split <;> rfl

theorem State.issueReserved_line (r : Report) (s : State) : (s.issueReserved r).lineView = s.lineView := by
  unfold State.issueReserved
  split
  · rfl
  · exact s.issueFree_line r

theorem State.entryTest_line (s : State) : s.entryTest.lineView = s.lineView := by
  unfold State.entryTest
  split <;> rfl

theorem State.tubesChanged_line (s before : State) : (s.tubesChanged before).lineView = s.lineView := by
  unfold State.tubesChanged
  split <;> rfl

theorem State.enterFault_line (k : FaultKind) (s : State) : (s.enterFault k).lineView = s.lineView :=
  State.entryTest_line _

theorem State.coilFault_line (failed : PerCoil Bool) (s : State) : (s.coilFault failed).lineView = s.lineView :=
  State.enterFault_line _ _

theorem State.pwmPeriod_line (sense : PerCoil Sense) (s : State) : (s.pwmPeriod sense).lineView = s.lineView := by
  unfold State.pwmPeriod
  dsimp only
  split
  · rfl
  · split
    · exact State.coilFault_line _ _
    · rfl

theorem State.pullInCheck_line (ends : PerCoil Bool) (sense : PerCoil Sense) (s : State) :
    (s.pullInCheck ends sense).lineView = s.lineView := by
  unfold State.pullInCheck
  dsimp only
  split
  · rfl
  · split
    · split
      · exact State.coilFault_line _ _
      · rfl
    · rfl

theorem State.diverterChangeover_line (s : State) : s.diverterChangeover.lineView = s.lineView := by
  unfold State.diverterChangeover
  split <;> rfl

/-! ### Activations -/

theorem State.afterActivation_line (k : TableKind) (before s : State) :
    (State.afterActivation k before s).lineView = s.lineView := by
  unfold State.afterActivation
  split
  · have h : (s.tubesChanged before).entryTest.lineView = s.lineView :=
      (State.entryTest_line _).trans (s.tubesChanged_line before)
    generalize (s.tubesChanged before).entryTest = t at h ⊢
    refine Eq.trans ?_ h
    dsimp only
    split
    · split <;> rfl
    · split <;> rfl
  · exact s.entryTest_line
  all_goals rfl

theorem State.takeActivation_line (k : TableKind) (waited : Bool) (s : State) :
    (s.takeActivation k waited).lineView = s.lineView :=
  (State.afterActivation_line _ _ _).trans (State.issueReserved_line _ _)

theorem State.fallDue_line (k : TableKind) (s : State) : (s.fallDue k).lineView = s.lineView := by
  unfold State.fallDue
  dsimp only
  split
  · exact State.takeActivation_line _ _ _
  · rfl

theorem State.takeWaiting_line (k : TableKind) (s : State) : (s.takeWaiting k).lineView = s.lineView := by
  unfold State.takeWaiting
  dsimp only
  split
  · exact State.takeActivation_line _ _ _
  · rfl

theorem State.testSchedules_line (s : State) : s.testSchedules.2.lineView = s.lineView :=
  State.testSchedules_keeps (fun t => t.lineView = s.lineView) (fun k t h => (t.fallDue_line k).trans h) s rfl

/-! ### The chute -/

theorem State.returnCoin_line (m : Measurement) (s : State) : (s.returnCoin m).lineView = s.lineView := by
  unfold State.returnCoin
  dsimp only
  refine (State.entryTest_line _).trans ?_
  split <;> rfl

theorem State.decideCoin_line (s : State) : s.decideCoin.lineView = s.lineView := by
  unfold State.decideCoin
  dsimp only
  split
  · exact State.entryTest_line _
  · exact State.returnCoin_line _ _

theorem State.chuteToIdle_line (s : State) : s.chuteToIdle.lineView = s.lineView :=
  (State.entryTest_line _).trans (State.takeWaiting_line _ _)

theorem State.creditCoin_line (a : AcceptedCoin) (s : State) : (s.creditCoin a).lineView = s.lineView := by
  unfold State.creditCoin
  dsimp only
  split
  · exact State.tubesChanged_line _ _
  · rfl

theorem State.coinAtC_line (s : State) : s.coinAtC.lineView = s.lineView := by
  unfold State.coinAtC
  dsimp only
  refine (State.chuteToIdle_line _).trans ?_
  split
  · exact State.creditCoin_line _ _
  · rfl
  · rfl

theorem State.riseIn_line (s : State) (c : ChuteState) (x : Sensor) : (s.riseIn c x).lineView = s.lineView := by
  cases c with
  | idle => cases x with
    | a => exact State.entryTest_line _
    | b => exact State.enterFault_line _ _
    | c => exact State.enterFault_line _ _
    | d => rfl
  | onA => cases x with
    | a => rfl
    | b => exact State.enterFault_line _ _
    | c => exact State.enterFault_line _ _
    | d => exact State.enterFault_line _ _
  | gap => cases x with
    | b => rfl
    | a => exact State.enterFault_line _ _
    | c => exact State.enterFault_line _ _
    | d => exact State.enterFault_line _ _
  | onB => cases x with
    | b => rfl
    | a => exact State.enterFault_line _ _
    | c => exact State.enterFault_line _ _
    | d => exact State.enterFault_line _ _
  | accepting => cases x with
    | c => exact State.coinAtC_line _
    | a => exact State.enterFault_line _ _
    | b => exact State.enterFault_line _ _
    | d => exact State.enterFault_line _ _
  | returning => cases x with
    | d => exact State.chuteToIdle_line _
    | a => exact State.enterFault_line _ _
    | b => exact State.enterFault_line _ _
    | c => exact State.enterFault_line _ _
  | fault => cases x <;> rfl

theorem State.sensorRise_line (x : Sensor) (n : Nat) (s : State) : (s.sensorRise x n).lineView = s.lineView := by
  unfold State.sensorRise
  split
  · rfl
  · exact State.riseIn_line _ _ _

theorem State.fallIn_line (s : State) (c : ChuteState) (x : Sensor) : (s.fallIn c x).lineView = s.lineView := by
  unfold State.fallIn
  split
  case h_2 => exact State.decideCoin_line _
  all_goals rfl

theorem State.sensorFall_line (x : Sensor) (n : Nat) (s : State) : (s.sensorFall x n).lineView = s.lineView := by
  unfold State.sensorFall
  split
  · exact State.fallIn_line _ _ _
  · rfl

theorem State.aLimitPasses_line (s : State) : s.aLimitPasses.lineView = s.lineView := by
  unfold State.aLimitPasses
  split
  case h_1 => exact State.enterFault_line _ _
  case h_2 => exact State.enterFault_line _ _
  all_goals rfl

theorem State.gapLimitPasses_line (s : State) : s.gapLimitPasses.lineView = s.lineView := by
  unfold State.gapLimitPasses
  split
  case h_1 => exact State.returnCoin_line _ _
  all_goals rfl

theorem State.acceptWaitPasses_line (s : State) : s.acceptWaitPasses.lineView = s.lineView := by
  unfold State.acceptWaitPasses
  split
  case h_1 => exact State.enterFault_line _ _
  all_goals rfl

theorem State.returnWaitPasses_line (s : State) : s.returnWaitPasses.lineView = s.lineView := by
  unfold State.returnWaitPasses
  split
  case h_1 => exact State.enterFault_line _ _
  all_goals rfl

theorem State.faultClears_line (s : State) : s.faultClears.lineView = s.lineView := State.chuteToIdle_line _

theorem State.idleWaitPasses_line (s : State) : s.idleWaitPasses.lineView = s.lineView := by
  unfold State.idleWaitPasses
  split
  · exact State.faultClears_line _
  · rfl

/-! ### The purchase and the payout -/

theorem State.endPayout_line (s : State) : s.endPayout.lineView = s.lineView := by
  unfold State.endPayout
  split
  · rfl
  · exact (State.entryTest_line _).trans (State.issueReserved_line _ _)

theorem State.startEntry_line (s : State) : s.startEntry.lineView = s.lineView := by
  unfold State.startEntry
  split
  · rfl
  · split
    · rfl
    · split <;> rfl

theorem State.runPlan_line (es : List PlanEntry) (s : State) : (s.runPlan es).lineView = s.lineView := by
  unfold State.runPlan
  split
  · rfl
  · split
    · exact State.endPayout_line _
    · exact State.startEntry_line _

theorem State.startPayout_line (c : PayoutCause) (s : State) : (s.startPayout c).lineView = s.lineView :=
  (State.entryTest_line _).trans (State.runPlan_line _ _)

theorem State.entryDone_line (s : State) : s.entryDone.lineView = s.lineView := by
  unfold State.entryDone
  split
  · rfl
  · split
    · rfl
    · exact State.runPlan_line _ _

theorem State.paidCoin_line (i : Fin 4) (s : State) : (s.paidCoin i).lineView = s.lineView := by
  unfold State.paidCoin
  dsimp only
  split
  · exact (State.entryDone_line _).trans (State.tubesChanged_line _ _)
  · exact State.tubesChanged_line _ _

theorem State.exitPulse_line (i : Fin 4) (s : State) : (s.exitPulse i).lineView = s.lineView := by
  unfold State.exitPulse
  split
  · exact State.paidCoin_line _ _
  · exact State.tubesChanged_line _ _
  · rfl

theorem State.afterJam_line (s : State) : s.afterJam.lineView = s.lineView := by
  unfold State.afterJam
  split
  · rfl
  · split
    · exact State.endPayout_line _
    · exact State.runPlan_line _ _

theorem State.jamTimeout_line (i : Fin 4) (s : State) : (s.jamTimeout i).lineView = s.lineView := by
  unfold State.jamTimeout
  split
  · exact (State.afterJam_line _).trans (State.tubesChanged_line _ _)
  · rfl

theorem State.trailingEnds_line (i : Fin 4) (s : State) : (s.trailingEnds i).lineView = s.lineView := by
  unfold State.trailingEnds
  split <;> rfl

theorem State.doorChange_line (b : Bool) (s : State) : (s.doorChange b).lineView = s.lineView := by
  unfold State.doorChange
  split
  · rfl
  · exact (State.startEntry_line _).trans (State.entryTest_line _)

theorem State.leverPress_line (s : State) : s.leverPress.lineView = s.lineView := by
  unfold State.leverPress
  split
  · exact State.startPayout_line _ _
  · rfl

theorem State.endOp_line (m : Ledger → Ledger) (r : Report) (s : State) : (s.endOp m r).lineView = s.lineView :=
  State.issueReserved_line _ _

theorem State.comeToRest_line (s : State) : s.comeToRest.lineView = s.lineView := State.entryTest_line _

theorem State.afterSale_line (o : OpRecord) (v : Bool) (s : State) : (s.afterSale o v).lineView = s.lineView := by
  unfold State.afterSale
  split
  · exact State.startPayout_line _ _
  · exact State.comeToRest_line _

theorem State.ticketEnds_line (failure : Option VoidCause) (s : State) : (s.ticketEnds failure).lineView = s.lineView := by
  unfold State.ticketEnds
  split
  · rfl
  · split <;> exact (State.afterSale_line _ _ _).trans (State.endOp_line _ _ _)

theorem State.voucherEnds_line (failure : Option VoidCause) (s : State) : (s.voucherEnds failure).lineView = s.lineView := by
  unfold State.voucherEnds
  split
  · rfl
  · split <;> exact (State.comeToRest_line _).trans (State.endOp_line _ _ _)

/-! ### The print unit -/

theorem State.printDuty_line (s : State) : s.printDuty.lineView = s.lineView := by
  unfold State.printDuty
  split <;> rfl

theorem State.tellOwner_line (j : Job) (failure : Option VoidCause) (s : State) :
    (s.tellOwner j failure).lineView = s.lineView := by
  unfold State.tellOwner
  split
  · exact State.ticketEnds_line _ _
  · exact State.voucherEnds_line _ _
  · exact State.issueReserved_line _ _
  · rfl

theorem State.jobEnds_line (failure : Option VoidCause) (s : State) : (s.jobEnds failure).lineView = s.lineView := by
  unfold State.jobEnds
  split
  · rfl
  · exact (State.takeWaiting_line _ _).trans (State.tellOwner_line _ _ _)

theorem State.cutTimeout_line (s : State) : s.cutTimeout.lineView = s.lineView := by
  unfold State.cutTimeout
  split
  · rfl
  · split
    · exact State.jobEnds_line _ _
    · rfl

theorem State.roomAskDelay_line (s : State) : s.roomAskDelay.lineView = s.lineView := by
  unfold State.roomAskDelay
  split
  · exact State.printDuty_line _
  · rfl

theorem State.takeState_line (p : Paper) (h : Head) (f : PrinterFault) (s : State) : (s.takeState p h f).lineView = s.lineView := by
  unfold State.takeState
  dsimp only
  split
  · split <;> rfl
  · refine (State.jobEnds_line _ _).trans ?_
    split <;> rfl

theorem State.takeCutDone_line (tag : Nat) (s : State) : (s.takeCutDone tag).lineView = s.lineView := by
  unfold State.takeCutDone
  split
  · rfl
  · split
    · exact State.jobEnds_line _ _
    · rfl

theorem State.takeNotice_line (s : State) (n : Notice) : (s.takeNotice n).lineView = s.lineView := by
  cases n with
  | room c => rfl
  | cutDone tag => exact s.takeCutDone_line tag
  | state p h f => exact s.takeState_line p h f

theorem State.takeNotices_line (k : Byte) (p : List Byte) (s : State) : (s.takeNotices k p).lineView = s.lineView :=
  State.takeNotices_keeps (fun t => t.lineView = s.lineView) (fun n t h => (t.takeNotice_line n).trans h) k p s rfl

theorem State.tellOutcome_line (o : Owner) (valid : Bool) (s : State) : (s.tellOutcome o valid).lineView = s.lineView := by
  cases o with
  | printLine tag => exact State.printDuty_line _
  | printCut tag => exact State.printDuty_line _
  | printAsk b => exact State.printDuty_line _
  | cardWrite => rfl
  | hold => rfl
  | release => rfl
  | forward => rfl
  | poll => rfl

/-! ### The card unit -/

theorem State.resolve_line (p : Presentation) (s : State) : (s.resolve p).lineView = s.lineView := by
  unfold State.resolve
  split
  · rfl
  · exact State.issueFree_line _ _

theorem State.bindCard_line (p : Presentation) (s : State) : (s.bindCard p).lineView = s.lineView := by
  unfold State.bindCard
  dsimp only
  refine (State.entryTest_line _).trans (Eq.trans ?_ (s.resolve_line p))
  show State.lineView (if _ then _ else _) = _
  split
  all_goals
    show State.lineView (if _ then _ else _) = _
    split <;> rfl

theorem State.afterUnbind_line (s : State) : s.afterUnbind.lineView = s.lineView := by
  unfold State.afterUnbind
  dsimp only
  split
  · split
    · exact State.entryTest_line _
    · rfl
  · rfl

theorem State.cardLeaves_line (s : State) : s.cardLeaves.lineView = s.lineView := by
  unfold State.cardLeaves
  split
  · rfl
  · split
    · exact State.afterUnbind_line _
    · rfl
    · rfl

theorem State.takeSeen_line (p : Presentation) (s : State) : (s.takeSeen p).lineView = s.lineView := by
  unfold State.takeSeen
  split
  · split
    · rfl
    · exact State.cardLeaves_line _
  · split
    · exact State.bindCard_line _ _
    · rfl

theorem State.handReceipt_line (o : OpRecord) (w : CardWrite) (n : Nat) (s : State) :
    (s.handReceipt o w n).lineView = s.lineView := by
  unfold State.handReceipt
  dsimp only
  split
  · rfl
  · split
    · rfl
    · exact State.issueReserved_line _ _

theorem State.writeEnds_line (s : State) : s.writeEnds.lineView = s.lineView := by
  unfold State.writeEnds
  dsimp only
  split <;> rfl

theorem State.writeDone_line (o : OpRecord) (w : CardWrite) (n : Nat) (s : State) : (s.writeDone o w n).lineView = s.lineView := by
  unfold State.writeDone
  dsimp only
  split
  · exact (State.comeToRest_line _).trans ((State.handReceipt_line _ _ _ _).trans ((State.writeEnds_line _).trans
      (State.endOp_line _ _ _)))
  · exact (State.afterSale_line _ _ _).trans ((State.writeEnds_line _).trans (State.endOp_line _ _ _))

theorem State.writeFail_line (o : OpRecord) (w : CardWrite) (s : State) : (s.writeFail o w).lineView = s.lineView := by
  unfold State.writeFail
  dsimp only
  split
  · exact (State.comeToRest_line _).trans ((State.writeEnds_line _).trans (State.endOp_line _ _ _))
  · exact (State.afterSale_line _ _ _).trans ((State.writeEnds_line _).trans (State.endOp_line _ _ _))

theorem State.writeUncertain_line (o : OpRecord) (w : CardWrite) (c : UncertainCause) (s : State) :
    (s.writeUncertain o w c).lineView = s.lineView := by
  unfold State.writeUncertain
  dsimp only
  generalize he : (s.onJournal _).endOp _ _ = e
  have h : e.lineView = s.lineView := he ▸ State.endOp_line _ _ _
  split
  · refine (State.comeToRest_line _).trans (Eq.trans ?_ h)
    show State.lineView (if _ then _ else _) = _
    split <;> rfl
  · refine (State.afterSale_line _ _ _).trans (Eq.trans ?_ h)
    split <;> rfl

theorem State.takeWritten_line (txn : Nat) (r : WriteResult) (s : State) : (s.takeWritten txn r).lineView = s.lineView := by
  unfold State.takeWritten
  split
  · rfl
  · split
    · split
      · exact State.writeDone_line _ _ _ _
      · exact State.writeFail_line _ _ _
      · exact State.writeUncertain_line _ _ _ _
    · rfl

theorem State.writeTimeout_line (s : State) : s.writeTimeout.lineView = s.lineView := by
  unfold State.writeTimeout
  split
  · rfl
  · split
    · exact State.writeUncertain_line _ _ _ _
    · rfl

theorem State.cardAbsent_line (s : State) : s.cardAbsent.lineView = s.lineView := by
  unfold State.cardAbsent
  dsimp only
  split
  · exact State.writeUncertain_line _ _ _ _
  · split
    · exact State.afterUnbind_line _
    · rfl

theorem State.takeCardFrame_line (k : Byte) (p : List Byte) (s : State) : (s.takeCardFrame k p).lineView = s.lineView := by
  unfold State.takeCardFrame
  split
  · split
    · rfl
    · exact State.takeSeen_line _ _
  · split
    · split
      · exact State.cardLeaves_line _
      · rfl
    · split
      · rfl
      · exact State.takeWritten_line _ _ _

/-! ### Slots, the clock and what every frame does -/

theorem State.issuePresence_line (r : Role) (n : Nat) (s : State) : (s.issuePresence r n).lineView = s.lineView := by
  cases r <;> rfl

theorem State.tellAbsent_line (r : Role) (s : State) : (s.tellAbsent r).lineView = s.lineView := by
  cases r with
  | card => exact s.cardAbsent_line
  | printer => exact State.jobEnds_line _ _
  | other => rfl
  | none => rfl

theorem State.tellPresent_line (r : Role) (s : State) : (s.tellPresent r).lineView = s.lineView := by
  cases r <;> rfl

theorem State.answered_line (i : Fin 6) (s : State) : (s.answered i).lineView = s.lineView := by
  unfold State.answered
  split
  · rfl
  · exact (State.issuePresence_line _ _ _).trans (State.tellPresent_line _ _)

theorem State.consume_line (r : Role) (f : Frame) (s : State) : (s.consume r f).lineView = s.lineView := by
  cases r with
  | card => exact s.takeCardFrame_line _ _
  | printer => exact s.takeNotices_line _ _
  | other => rfl
  | none => rfl

theorem State.reprobeDue_line (i : Fin 6) (s : State) : (s.reprobeDue i).lineView = s.lineView := by
  unfold State.reprobeDue
  split <;> rfl

theorem State.frameSeen_line (s : State) : s.frameSeen.lineView = s.lineView := by
  unfold State.frameSeen
  dsimp only
  split
  · exact State.entryTest_line _
  · rfl

theorem State.silenceExpires_line (s : State) : s.silenceExpires.lineView = s.lineView := by
  unfold State.silenceExpires
  split
  · exact State.entryTest_line _
  · rfl

theorem State.secondAdvances_line (s : State) : s.secondAdvances.lineView = s.lineView := by
  unfold State.secondAdvances
  dsimp only
  split
  · rfl
  · split
    · exact State.testSchedules_line _
    · rfl

theorem State.hundredthAdvances_line (s : State) : s.hundredthAdvances.lineView = s.lineView := by
  unfold State.hundredthAdvances
  split
  · rfl
  · split
    · rfl
    · exact s.secondAdvances_line

theorem State.oscillatorStops_line (s : State) : s.oscillatorStops.lineView = s.lineView := by
  unfold State.oscillatorStops
  split <;> rfl

theorem State.backupFails_line (s : State) : s.backupFails.lineView = s.lineView := by
  unfold State.backupFails
  split <;> rfl

end Sys2Proof.Machine
end

section
namespace Sys2Proof.Machine

/-! ## Requests: one reply each (R5) -/

/-- A reply has joined the reply list, and the rest of the lines' queues is as before. -/
def Replied (s t : State) : Prop := ∃ r, t.lineView = { s.lineView with replies := s.lineView.replies ++ [r] }

theorem Replied.reply {s t : State} (k : Byte) (b : ReplyBody) (h : t.lineView = s.lineView) : Replied s (t.reply k b) :=
  ⟨⟨k, b, none⟩, by rw [← h]; rfl⟩

theorem Replied.refuse {s t : State} (k : Byte) (r : Reason) (h : t.lineView = s.lineView) : Replied s (t.refuse k r) :=
  .reply k (.refused r) h

theorem Replied.start {s t : State} (k : Byte) (b : ReplyBody) (c : StartCause) (h : t.lineView = s.lineView) :
    Replied s (t.replyThenStart k b c) :=
  ⟨⟨k, b, some c⟩, by rw [← h]; rfl⟩

theorem State.serveSetup_replied (id : Word16) (rate : Byte) (codes : Vector Byte 6) (silence : Byte) (s : State) :
    Replied s (s.serveSetup id rate codes silence) := by
  unfold State.serveSetup
  split
  · exact .refuse _ _ rfl
  · split
    · split
      · exact .refuse _ _ rfl
      · exact .reply _ _ (State.entryTest_line _)
    · exact .refuse _ _ rfl
    · exact .refuse _ _ rfl

theorem State.serveQuery_replied (topic index : Byte) (s : State) : Replied s (s.serveQuery topic index) := by
  unfold State.serveQuery
  split
  · exact .refuse _ _ rfl
  · refine .reply _ _ ?_
    split <;> rfl

theorem State.serveService_replied (on : Bool) (s : State) : Replied s (s.serveService on) := by
  unfold State.serveService
  split
  · split
    · exact .refuse _ _ rfl
    · exact .reply _ _ (State.entryTest_line _)
  · exact .reply _ _ (State.entryTest_line _)

theorem State.takeLoad_replied (k : TableKind) (g : Word16) (index total : Byte) (check count : Word16) (es : List Byte)
    (s : State) : Replied s (s.takeLoad k g index total check count es) := by
  unfold State.takeLoad
  split
  · exact .reply _ _ rfl
  · split
    · exact .reply _ _ rfl
    · unfold State.serveLoad
      dsimp only
      split <;> exact .reply _ _ rfl

theorem State.serveDiscard_replied (k : TableKind) (s : State) : Replied s (s.serveDiscard k) := by
  unfold State.serveDiscard
  refine .reply _ _ ?_
  show State.lineView (if _ then _ else _) = _
  split <;> rfl

theorem State.serveActivate_replied (k : TableKind) (g : Word16) (due : Due) (s : State) :
    Replied s (s.serveActivate k g due) := by
  unfold State.serveActivate
  dsimp only
  split
  · exact .refuse _ _ rfl
  · refine .reply _ _ ?_
    split
    · exact State.fallDue_line _ _
    · rfl

theorem State.serveClock_replied (day second dow : Nat) (s : State) : Replied s (s.serveClock day second dow) := by
  unfold State.serveClock
  split
  · exact .refuse _ _ rfl
  · exact .reply _ _ (State.testSchedules_line _)

theorem State.startSale_line (o : OpRecord) (q : SellRequest) (t : SaleTerms) (s : State) :
    (s.startSale o q t).lineView = s.lineView := by
  unfold State.startSale
  split <;> rfl

theorem State.serveSell_replied (q : SellRequest) (s : State) : Replied s (s.serveSell q) := by
  unfold State.serveSell
  split
  · exact .reply _ _ rfl
  · exact .reply _ _ ((State.entryTest_line _).trans (State.startSale_line _ _ _ _))

theorem State.serveTopup_replied (amount : Word16) (receipt : Bool) (s : State) : Replied s (s.serveTopup amount receipt) := by
  unfold State.serveTopup
  split
  · exact .reply _ _ rfl
  · exact .reply _ _ (State.entryTest_line _)

theorem State.serveCancel_replied (s : State) : Replied s s.serveCancel := by
  unfold State.serveCancel
  split
  · exact .refuse _ _ rfl
  · split
    · exact .refuse _ _ rfl
    · split
      · exact .refuse _ _ rfl
      · exact .reply _ _ (State.startPayout_line _ _)

theorem State.serveVoucher_replied (s : State) : Replied s s.serveVoucher := by
  unfold State.serveVoucher
  split
  · exact .refuse _ _ rfl
  · exact .reply _ _ (State.entryTest_line _)

theorem State.serveReprint_replied (s : State) : Replied s s.serveReprint := by
  unfold State.serveReprint
  split
  · exact .refuse _ _ rfl
  · split
    · exact .reply _ _ rfl
    · exact .refuse _ _ rfl

theorem State.serveChuteClear_replied (s : State) : Replied s s.serveChuteClear := by
  unfold State.serveChuteClear
  split
  · split
    · exact .reply _ _ (State.faultClears_line _)
    · exact .refuse _ _ rfl
  · exact .refuse _ _ rfl

theorem State.serveTube_replied (tube count : Nat) (s : State) : Replied s (s.serveTube tube count) := by
  unfold State.serveTube
  dsimp only
  split
  · exact .refuse _ _ rfl
  · split
    · split
      · exact .refuse _ _ rfl
      · split
        · exact .refuse _ _ rfl
        · split
          · exact .refuse _ _ rfl
          · exact .reply _ _ (State.tubesChanged_line _ _)
    · exact .refuse _ _ rfl

theorem State.serveWriteOff_replied (txn : Nat) (s : State) : Replied s (s.serveWriteOff txn) := by
  unfold State.serveWriteOff
  dsimp only
  split
  · exact .refuse _ _ rfl
  · split
    · exact .refuse _ _ rfl
    · refine .reply _ _ ?_
      split <;> rfl

theorem State.serveClearTotals_replied (s : State) : Replied s s.serveClearTotals := by
  unfold State.serveClearTotals
  split
  · exact .refuse _ _ rfl
  · split
    · exact .refuse _ _ rfl
    · exact .reply _ _ rfl

theorem State.serveClearAll_replied (s : State) : Replied s s.serveClearAll := by
  unfold State.serveClearAll
  split
  · exact .refuse _ _ rfl
  · split
    · exact .refuse _ _ rfl
    · split
      · exact .refuse _ _ rfl
      · exact .start _ _ _ rfl

theorem State.gated_replied (k : Byte) (serve : State → State) (s : State) (h : Replied s (serve s)) :
    Replied s (s.gated k serve) := by
  unfold State.gated
  split
  · exact .refuse _ _ rfl
  · exact h

/-- A command that is no request does nothing where requests are taken; a request is answered with one reply. -/
theorem State.takeRequest_replied (i : Instr) (s : State) : s.takeRequest i = s ∨ Replied s (s.takeRequest i) := by
  cases i
  case setup => exact .inr (s.serveSetup_replied _ _ _ _)
  case alive => exact .inr (.reply _ _ rfl)
  case query => exact .inr (s.serveQuery_replied _ _)
  case service => exact .inr (s.gated_replied _ _ (s.serveService_replied _))
  case inhibit => exact .inr (s.gated_replied _ _ (.reply _ _ (State.entryTest_line _)))
  case load => exact .inr (s.takeLoad_replied _ _ _ _ _ _ _)
  case discard => exact .inr (s.gated_replied _ _ (s.serveDiscard_replied _))
  case activate => exact .inr (s.gated_replied _ _ (s.serveActivate_replied _ _ _))
  case clock => exact .inr (s.gated_replied _ _ (s.serveClock_replied _ _ _))
  case sell => exact .inr (s.gated_replied _ _ (s.serveSell_replied _))
  case topup => exact .inr (s.gated_replied _ _ (s.serveTopup_replied _ _))
  case cancel => exact .inr (s.gated_replied _ _ s.serveCancel_replied)
  case voucher => exact .inr (s.gated_replied _ _ s.serveVoucher_replied)
  case reprint => exact .inr (s.gated_replied _ _ s.serveReprint_replied)
  case chuteClear => exact .inr (s.gated_replied _ _ s.serveChuteClear_replied)
  case tube => exact .inr (s.gated_replied _ _ (s.serveTube_replied _ _))
  case writeOff => exact .inr (s.gated_replied _ _ (s.serveWriteOff_replied _))
  case clearTotals => exact .inr (s.gated_replied _ _ s.serveClearTotals_replied)
  case clearAll => exact .inr (s.gated_replied _ _ s.serveClearAll_replied)
  case restart => exact .inr (s.gated_replied _ _ (.start _ _ _ rfl))
  all_goals exact .inl rfl

/-! ## The bounds of the lines' queues (R5, R13, R17) -/

/-- The bounds of LineQueues but for the frames that wait for an idle transmitter. -/
structure LineView.Bounded (v : LineView) : Prop where
  replies : v.replies.length ≤ 4
  forward : v.forwardQ.length ≤ 8
  upward : v.upwardQ.length ≤ 8
  room : v.exchange ≠ none → v.upwardQ.length < 8

/-- The lines' queues of a state are within their bounds. -/
def State.LinesBounded (s : State) : Prop := s.lineView.Bounded

theorem LineQueues.bounded {s : State} (h : LineQueues s) : s.LinesBounded := ⟨h.replies, h.forward, h.upward, h.room⟩

/-- An operation that leaves the lines' queues as they are keeps their bounds. -/
theorem State.LinesBounded.of_line {s t : State} (h : s.LinesBounded) (e : t.lineView = s.lineView) : t.LinesBounded := by
  unfold State.LinesBounded
  rw [e]
  exact h

theorem Replied.bounded {s t : State} (e : Replied s t) (h : s.LinesBounded) (hr : s.replies.length < 4) : t.LinesBounded := by
  obtain ⟨r, e⟩ := e
  unfold State.LinesBounded
  rw [e]
  refine ⟨?_, h.forward, h.upward, h.room⟩
  show (s.replies ++ [r]).length ≤ 4
  simp only [List.length_append, List.length_singleton]
  omega

/-- A C-line that is not stalled has room for a reply (R5). -/
theorem State.replies_of_not_stalled {s : State} (h : s.cStalled = false) : s.replies.length < 4 := by
  simp only [State.cStalled, Bool.or_eq_false_iff] at h
  exact Nat.not_le.1 (of_decide_eq_false h.1)

theorem State.downRefusal_room {s : State} {f : Frame} (h : s.downRefusal f = none) : s.forwardQ.length < 8 := by
  by_contra hq
  have hq : Config.frameQueueDepth ≤ s.forwardQ.length := Nat.not_lt.1 hq
  simp only [State.downRefusal, if_pos hq] at h
  split at h <;> split_ifs at h

theorem State.passDown_bounded (f : Frame) (s : State) (h : s.LinesBounded) (hr : s.replies.length < 4) :
    (s.passDown f).LinesBounded := by
  unfold State.passDown
  split
  · exact (Replied.refuse (s := s) f.kind _ rfl).bounded h hr
  · next hd =>
    refine ⟨h.replies, ?_, h.upward, h.room⟩
    show (s.forwardQ ++ [f]).length ≤ 8
    have := State.downRefusal_room hd
    simp only [List.length_append, List.length_singleton]
    omega

/-- A frame's disposition adds at most one reply or one forward frame, within their bounds (R5, R8, R17). -/
theorem State.disposeFrame_bounded (f : Frame) (s : State) (h : s.LinesBounded) (hr : s.replies.length < 4) :
    (s.disposeFrame f).LinesBounded := by
  have refused (r : Reason) : (s.refuse f.kind r).LinesBounded := (Replied.refuse (s := s) f.kind r rfl).bounded h hr
  unfold State.disposeFrame
  split
  · exact refused _
  · split
    · unfold State.disposeRequest
      split
      · next i _ =>
        rcases s.takeRequest_replied i with e | e
        · rwa [e]
        · exact e.bounded h hr
      · unfold State.refuseFormat
        split
        · exact (Replied.reply (s := s) _ _ rfl).bounded h hr
        · exact refused _
    · split
      · unfold State.disposeDownward
        split
        · exact refused _
        · exact s.passDown_bounded f h hr
      · exact refused _

theorem State.frameSeen_bounded {s : State} (h : s.LinesBounded) : s.frameSeen.LinesBounded := h.of_line s.frameSeen_line

theorem State.onCLine_bounded (f : Frame) (serve : State → State) (s : State) (h : s.LinesBounded)
    (hs : s.cStalled = false → (serve s.frameSeen).LinesBounded) : (s.onCLine f serve).LinesBounded := by
  unfold State.onCLine
  split
  · exact h
  · split
    · exact h
    · next hn => exact hs (by simpa using hn)

theorem State.onRequest_bounded (i : Instr) (s : State) (h : s.LinesBounded) :
    (s.onRequest i (State.takeRequest i)).LinesBounded := by
  unfold State.onRequest
  split
  · refine s.onCLine_bounded _ _ h fun hn => ?_
    have hr : s.frameSeen.replies.length < 4 := by simpa using State.replies_of_not_stalled hn
    rcases s.frameSeen.takeRequest_replied i with e | e
    · rw [e]; exact State.frameSeen_bounded h
    · exact e.bounded (State.frameSeen_bounded h) hr
  · exact h

/-- The C-line assembler's run keeps the bounds: it takes nothing while the reply list is full (R5). -/
theorem State.pumpC_bounded (n : Nat) (s : State) (h : s.LinesBounded) : (s.pumpC n).LinesBounded := by
  induction n generalizing s with
  | zero => exact h
  | succ n ih =>
    unfold State.pumpC
    split
    · exact h
    · next hn =>
      have hr := State.replies_of_not_stalled (by simpa using hn)
      split
      · exact h
      · dsimp only
        split
        · exact ih _ h
        · exact ih _ h
        · exact ih _ (State.disposeFrame_bounded _ _ (State.frameSeen_bounded (s := { s with cRx := _ }) h) (by simpa using hr))

/-! ### The M-line -/

/-- The end of an exchange keeps the bounds. -/
theorem LineView.Bounded.ended {v : LineView} (h : v.Bounded) : ({ v with exchange := none } : LineView).Bounded :=
  ⟨h.replies, h.forward, h.upward, fun n => absurd rfl n⟩

theorem State.disposeAnswer_line (i : Fin 6) (f : Frame) (s : State) :
    (s.disposeAnswer i f).lineView = s.lineView ∨
      (s.disposeAnswer i f).lineView = { s.lineView with upwardQ := s.lineView.upwardQ ++ [f] } := by
  unfold State.disposeAnswer
  dsimp only
  split
  · exact .inl rfl
  · split
    · exact .inl (State.consume_line _ _ _)
    · split
      · exact .inr rfl
      · exact .inl rfl

/-- A valid answer ends the exchange, so the frame it may add needs no further room (R11, R13). -/
theorem State.endValid_bounded (i : Fin 6) (o : Owner) (f : Frame) (s : State) (h : s.LinesBounded) (hx : s.exchange ≠ none) :
    (s.endValid i o f).LinesBounded := by
  have hv : (s.endValid i o f).lineView = { ((s.answered i).disposeAnswer i f).lineView with exchange := none } :=
    State.tellOutcome_line _ _ _
  unfold State.LinesBounded
  rw [hv]
  rcases (s.answered i).disposeAnswer_line i f with e | e
  · rw [e, s.answered_line i]
    exact h.ended
  · rw [e, s.answered_line i]
    refine ⟨h.replies, h.forward, ?_, fun n => absurd rfl n⟩
    have := h.room hx
    show (s.upwardQ ++ [f]).length ≤ 8
    rw [List.length_append]
    exact this

theorem State.slotAbsent_bounded (i : Fin 6) (s : State) (h : s.LinesBounded) : (s.slotAbsent i).LinesBounded := by
  unfold State.slotAbsent
  refine State.LinesBounded.of_line ?_ ((State.issuePresence_line _ _ _).trans (State.tellAbsent_line _ _))
  exact ⟨h.replies, (List.length_filter_le _ _).trans h.forward, h.upward, h.room⟩

theorem State.missed_bounded (i : Fin 6) (s : State) (h : s.LinesBounded) : (s.missed i).LinesBounded := by
  unfold State.missed
  dsimp only
  split
  · exact h
  · split
    · exact h
    · exact s.slotAbsent_bounded i h

theorem State.endInvalid_bounded (i : Fin 6) (o : Owner) (s : State) (h : s.LinesBounded) : (s.endInvalid i o).LinesBounded :=
  State.missed_bounded _ _ (State.LinesBounded.of_line (s := s.endExchange) h.ended (State.tellOutcome_line _ _ _))

theorem State.moduleFrame_bounded (f : Frame) (s : State) (h : s.LinesBounded) : (s.moduleFrame f).LinesBounded := by
  unfold State.moduleFrame
  split
  · next hx =>
    split
    · exact s.endValid_bounded _ _ _ h (by rw [hx]; exact Option.some_ne_none _)
    · exact s.endInvalid_bounded _ _ h
  · exact h
  · exact h

theorem State.noAnswer_bounded (s : State) (h : s.LinesBounded) : s.noAnswer.LinesBounded := by
  unfold State.noAnswer
  split
  · exact s.endInvalid_bounded _ _ h
  · exact h
  · exact h

theorem State.groupEnds_bounded (s : State) (h : s.LinesBounded) : s.groupEnds.LinesBounded := by
  unfold State.groupEnds
  split
  · exact h.ended
  · exact h
  · exact h

/-- An exchange that begins with room in the upward queue keeps the bounds (R13). -/
theorem State.begin_bounded (t : Target) (o : Owner) (f : Frame) (s : State) (h : s.LinesBounded) (hu : s.upwardQ.length < 8) :
    (s.begin t o f).LinesBounded := ⟨h.replies, h.forward, h.upward, fun _ => hu⟩

theorem State.grantForward_bounded {s t : State} (h : s.LinesBounded) (hu : s.upwardQ.length < 8)
    (e : s.grantForward = some t) : t.LinesBounded := by
  unfold State.grantForward at e
  split at e
  · cases e
  · next f rest hq =>
    have ht : ({ s with forwardQ := rest } : State).LinesBounded := by
      refine ⟨h.replies, ?_, h.upward, h.room⟩
      have := h.forward
      simp only [State.lineView, hq, List.length_cons] at this
      show rest.length ≤ 8
      omega
    split at e
    all_goals
      split at e
      · cases e; exact State.begin_bounded _ _ _ _ ht hu
      · cases e

/-- A grant begins an exchange only while the upward queue has room (R13). -/
theorem State.grant_bounded (s : State) (h : s.LinesBounded) : s.grant.LinesBounded := by
  by_cases hm : s.mayGrant = true
  · have hu : s.upwardQ.length < 8 := by
      simp only [State.mayGrant, Bool.and_eq_true, decide_eq_true_eq] at hm
      exact hm.2
    have begun (t : State) (e : t.lineView = s.lineView) (x : Target) (o : Owner) (f : Frame) : (t.begin x o f).LinesBounded :=
      State.begin_bounded _ _ _ _ (h.of_line e) (by rw [show t.upwardQ = s.upwardQ from congrArg LineView.upwardQ e]; exact hu)
    refine State.grant_keeps _ s h (fun t e => ?_) (fun t e => ?_) (fun t e => ?_)
      (fun t e => State.grantForward_bounded h hu e) (fun t e => ?_)
    · unfold State.grantWrite at e
      split at e
      · split at e
        · cases e
        · cases e; exact begun _ rfl _ _ _
      all_goals cases e
    · unfold State.grantPrint at e
      split at e
      · cases e
      · split at e
        · cases e
        · cases e; exact begun _ rfl _ _ _
        · obtain ⟨j, -, rfl⟩ := Option.map_eq_some_iff.1 e; exact begun _ rfl _ _ _
        · obtain ⟨j, -, rfl⟩ := Option.map_eq_some_iff.1 e; exact begun _ rfl _ _ _
    · unfold State.grantClass3 at e
      split at e
      · cases e
      · split at e
        · cases e
        · obtain ⟨j, -, rfl⟩ := Option.map_eq_some_iff.1 e; exact begun _ rfl _ _ _
        · cases e; exact begun _ rfl _ _ _
    · unfold State.grantPoll at e
      split at e
      · cases e; exact begun _ rfl _ _ _
      · obtain ⟨j, -, rfl⟩ := Option.map_eq_some_iff.1 e; exact begun _ rfl _ _ _
  · unfold State.grant
    rwa [if_neg hm]

theorem State.pumpM_bounded (n : Nat) (s : State) (h : s.LinesBounded) : (s.pumpM n).LinesBounded :=
  State.pumpM_keeps State.LinesBounded (fun _ _ h => h) State.noAnswer_bounded State.moduleFrame_bounded n s h

theorem State.onReceiver_bounded (l : Line) (f : Receiver → Receiver) (s : State) (h : s.LinesBounded) :
    (s.onReceiver l f).LinesBounded := by
  unfold State.onReceiver
  split
  · exact State.pumpC_bounded _ _ h
  · split
    · exact State.pumpM_bounded _ _ h
    · exact h

/-! ### The transmitter and the starts -/

theorem State.takeNext_bounded (s : State) (h : s.LinesBounded) : s.takeNext.LinesBounded := by
  unfold State.takeNext
  split
  · next r rs e =>
    refine ⟨?_, h.forward, h.upward, h.room⟩
    have := h.replies
    simp only [State.lineView, e, List.length_cons] at this
    show rs.length ≤ 4
    omega
  · next f fs _ e =>
    refine ⟨h.replies, h.forward, ?_, fun n => ?_⟩
    · have := h.upward
      simp only [State.lineView, e, List.length_cons] at this
      show fs.length ≤ 8
      omega
    · have := h.room n
      simp only [State.lineView, e, List.length_cons] at this
      show fs.length < 8
      omega
  · exact ⟨h.replies, h.forward, h.upward, h.room⟩
  · exact ⟨h.replies, h.forward, h.upward, h.room⟩

theorem State.transmit_bounded (s : State) (h : s.LinesBounded) : s.transmit.LinesBounded := by
  unfold State.transmit
  split
  · exact State.pumpC_bounded _ _ (s.takeNext_bounded h)
  · exact h

/-- A start leaves the lines' queues empty and the exchange ended. -/
theorem State.boot_bounded (cold : Bool) (cause : StartCause) (pins : Pins) (s : State) :
    (s.boot cold cause pins).LinesBounded := by
  have e : (s.boot cold cause pins).lineView = ⟨s.running, none, [], [], [], none⟩ := by
    unfold State.boot State.firstPeriod
    dsimp only
    split <;> rfl
  unfold State.LinesBounded
  rw [e]
  exact ⟨Nat.zero_le _, Nat.zero_le _, Nat.zero_le _, fun n => absurd rfl n⟩

theorem State.checkedStart_bounded (cause : StartCause) (pins : Pins) (s : State) : (s.checkedStart cause pins).LinesBounded := by
  unfold State.checkedStart
  split <;> exact State.boot_bounded _ _ _ _

theorem State.powerReturns_bounded (pins : Pins) (s : State) (h : s.LinesBounded) : (s.powerReturns pins).LinesBounded := by
  unfold State.powerReturns
  dsimp only
  split
  · exact h
  · split
    · exact ⟨h.replies, h.forward, h.upward, h.room⟩
    · exact State.checkedStart_bounded _ _ _

theorem State.resetReleases_bounded (pins : Pins) (s : State) (h : s.LinesBounded) : (s.resetReleases pins).LinesBounded := by
  unfold State.resetReleases
  dsimp only
  split
  · exact h
  · split
    · exact State.checkedStart_bounded _ _ _
    · exact ⟨h.replies, h.forward, h.upward, h.room⟩

theorem State.startAfterReply_bounded (pins : Pins) (s : State) (h : s.LinesBounded) : (s.startAfterReply pins).LinesBounded := by
  unfold State.startAfterReply
  split
  · exact h
  · exact State.boot_bounded _ _ _ _
  · exact State.boot_bounded _ _ _ _

/-- Every command keeps the bounds of the lines' queues. -/
theorem exec_bounded (c : Instr) (s t : State) (h : s.LinesBounded) (e : exec c s = .next t) : t.LinesBounded := by
  have of_line {f : State → State} (hf : ∀ s, (f s).lineView = s.lineView) (s : State) (h : s.LinesBounded) :
      (f s).LinesBounded := h.of_line (hf s)
  refine exec_keeps State.LinesBounded ?_ State.onRequest_bounded ?_ ?_ ?_ (of_line State.silenceExpires_line) ?_
    State.transmit_bounded (fun p s _ => s.startAfterReply_bounded p) State.grant_bounded State.moduleFrame_bounded ?_
    State.groupEnds_bounded (fun i => of_line (State.reprobeDue_line i)) (of_line State.secondAdvances_line)
    (of_line State.oscillatorStops_line) (fun x n => of_line (State.sensorRise_line x n))
    (fun x n => of_line (State.sensorFall_line x n)) (of_line State.aLimitPasses_line) (of_line State.gapLimitPasses_line)
    (of_line State.acceptWaitPasses_line) (of_line State.returnWaitPasses_line) (of_line State.idleWaitPasses_line)
    (fun b => of_line (State.doorChange_line b)) (of_line State.leverPress_line) (fun x => of_line (State.pwmPeriod_line x))
    (fun x y => of_line (State.pullInCheck_line x y)) (of_line State.diverterChangeover_line)
    (fun i => of_line (State.exitPulse_line i)) (fun i => of_line (State.jamTimeout_line i))
    (fun i => of_line (State.trailingEnds_line i)) (of_line State.writeTimeout_line) (of_line State.cutTimeout_line)
    (of_line State.roomAskDelay_line) State.powerReturns_bounded ?_ ?_ State.resetReleases_bounded
    (of_line State.hundredthAdvances_line) (fun _ h => h) (of_line State.backupFails_line) c s t h e
  · exact fun f s h => s.onCLine_bounded f _ h fun hn =>
      State.disposeFrame_bounded f _ (State.frameSeen_bounded h) (by simpa using State.replies_of_not_stalled hn)
  · exact fun l v p m s h => s.onReceiver_bounded l _ h
  · exact fun l s h => s.onReceiver_bounded l _ h
  · intro l s h
    unfold State.gapExpires
    split
    · exact s.onReceiver_bounded l _ h
    · exact h
  · intro s h
    unfold State.transmitEnds
    split
    · exact h
    · exact ⟨h.replies, h.forward, h.upward, h.room⟩
  · intro s h
    unfold State.windowPasses
    split
    · exact s.noAnswer_bounded h
    · exact h
  · intro s h
    unfold State.powerFails
    split
    · exact ⟨h.replies, h.forward, h.upward, fun n => absurd rfl n⟩
    · exact h
  · exact fun s h => ⟨h.replies, h.forward, h.upward, fun n => absurd rfl n⟩

/-! ## No frame waits for an idle transmitter (R6) -/

/-- The C-line assembler's run leaves the transmitter as it is. -/
theorem State.pumpC_sending (n : Nat) (s : State) : (s.pumpC n).sending = s.sending := by
  refine State.pumpC_keeps (fun t => t.sending = s.sending) (fun _ _ h => h) (fun f t h => Eq.trans ?_ h) n s rfl
  have hf : ∀ u : State, u.lineView = t.lineView → u.sending = t.sending := fun u e => congrArg LineView.sending e
  have hr : ∀ u v : State, Replied u v → v.sending = u.sending := fun u v ⟨r, e⟩ => congrArg LineView.sending e
  have hs : t.frameSeen.sending = t.sending := hf _ t.frameSeen_line
  rw [← hs]
  generalize t.frameSeen = u
  unfold State.disposeFrame
  split
  · rfl
  · split
    · unfold State.disposeRequest
      split
      · next i _ =>
        rcases u.takeRequest_replied i with e | e
        · rw [e]
        · exact hr _ _ e
      · unfold State.refuseFormat
        split <;> rfl
    · split
      · unfold State.disposeDownward State.passDown
        split
        · rfl
        · split <;> rfl
      · rfl

/-- After its turn an idle transmitter has left nothing waiting. -/
theorem State.transmit_noneWaits (s : State) : s.transmit.running = true → NoneWaits s.transmit := by
  unfold State.transmit
  split
  · next h =>
    simp only [Bool.and_eq_true] at h
    intro _ hn
    rw [State.runC, State.pumpC_sending] at hn
    have hw := h.2
    unfold State.takeNext at hn
    split at hn
    · cases hn
    · cases hn
    · cases hn
    · next e1 e2 e3 => simp [State.frameWaits, e1, e2, e3] at hw
  · next h =>
    intro hr hs
    simpa [hr, hs, State.frameWaits, and_assoc] using h

/-- A command ends with the transmitter's turn, or it leaves the lines' queues and the reports as they are, or the part does
not run after it. -/
theorem exec_transmits (c : Instr) (s t : State) (e : exec c s = .next t) :
    (∃ u : State, t = u.transmit) ∨ (t.lineView = s.lineView ∧ t.reports = s.reports) ∨ t.running = false := by
  have ev : ∀ f : State → State, s.event f = .next t →
      (∃ u : State, t = u.transmit) ∨ (t.lineView = s.lineView ∧ t.reports = s.reports) ∨ t.running = false := by
    intro f he
    cases hr : s.running with
    | true => rw [State.event_running f hr] at he; cases he; exact .inl ⟨_, rfl⟩
    | false => rw [State.event_stopped f hr] at he; cases he; exact .inr (.inl ⟨rfl, rfl⟩)
  cases c
  case oscillatorStop =>
    cases e
    refine .inr (.inl ⟨s.oscillatorStops_line, ?_⟩)
    unfold State.oscillatorStops
    split <;> rfl
  case timeBaseRunsAgain => cases e; exact .inr (.inl ⟨rfl, rfl⟩)
  case backupSupplyFailure =>
    cases e
    refine .inr (.inl ⟨s.backupFails_line, ?_⟩)
    unfold State.backupFails
    split <;> rfl
  case mainPowerLoss =>
    cases e
    refine .inr (.inr ?_)
    unfold State.powerFails
    split
    · rfl
    · next h => simp [State.running, h]
  case resetHeld => cases e; exact .inr (.inr (by simp [State.resetHolds, State.running]))
  all_goals first
    | exact ev _ e
    | (cases e; exact .inl ⟨_, rfl⟩)

/-- Every command leaves no frame waiting for an idle transmitter where none waited (R6). -/
theorem exec_noneWaits (c : Instr) (s t : State) (h : s.running = true → NoneWaits s) (e : exec c s = .next t) :
    t.running = true → NoneWaits t := by
  rcases exec_transmits c s t e with ⟨u, rfl⟩ | ⟨hv, hq⟩ | hr
  · exact u.transmit_noneWaits
  · intro hr hs
    have h1 : t.running = s.running := congrArg LineView.running hv
    have h2 : t.sending = s.sending := congrArg LineView.sending hv
    have h3 : t.replies = s.replies := congrArg LineView.replies hv
    have h4 : t.upwardQ = s.upwardQ := congrArg LineView.upwardQ hv
    rw [h3, h4, hq]
    exact h (h1 ▸ hr) (h2 ▸ hs)
  · intro h; rw [hr] at h; cases h

theorem exec_lineQueues (c : Instr) (s t : State) (h : LineQueues s) (e : exec c s = .next t) : LineQueues t :=
  have b := exec_bounded c s t h.bounded e
  ⟨b.replies, b.forward, b.upward, b.room, exec_noneWaits c s t h.taken e⟩

/-- Every command keeps the bounds of the report queue (R31). -/
theorem exec_queueBounds (c : Instr) (s t : State) (h : QueueBounds s.reports s.reserved) (e : exec c s = .next t) :
    QueueBounds t.reports t.reserved := by
  refine exec_keeps (fun u => QueueBounds u.reports u.reserved)
    (fun f s => s.onCLine_queue f _ (State.disposeFrame_queue f)) (fun i s => s.onRequest_queue i _ (State.takeRequest_queue i))
    State.characterArrives_queue State.breakArrives_queue State.gapExpires_queue State.silenceExpires_queue
    State.transmitEnds_queue State.transmit_queue (fun p s _ => s.startAfterReply_queue p) State.grant_queue
    State.moduleFrame_queue State.windowPasses_queue State.groupEnds_queue State.reprobeDue_queue State.secondAdvances_queue
    State.oscillatorStops_queue State.sensorRise_queue State.sensorFall_queue State.aLimitPasses_queue State.gapLimitPasses_queue
    State.acceptWaitPasses_queue State.returnWaitPasses_queue State.idleWaitPasses_queue State.doorChange_queue
    State.leverPress_queue State.pwmPeriod_queue State.pullInCheck_queue State.diverterChangeover_queue State.exitPulse_queue
    State.jamTimeout_queue State.trailingEnds_queue State.writeTimeout_queue State.cutTimeout_queue State.roomAskDelay_queue
    State.powerReturns_queue State.powerFails_queue State.resetHolds_queue State.resetReleases_queue State.hundredthAdvances_queue
    State.timeBaseRuns_queue State.backupFails_queue c s t h e

/-- A step runs one command with the rest of the queue, or changes nothing. -/
theorem step_exec {s t : State} (e : step s = .next t) : t = s ∨ ∃ c rest, exec c { s with pending := rest } = .next t := by
  unfold step at e
  split at e
  · cases e; exact .inl rfl
  · exact .inr ⟨_, _, e⟩

/-- Settles O6: the report queue's bounds by the operations' own lemmas, the lines' by what each operation does to them, and the
waiting frames by the transmitter's turn at every event's end. -/
theorem queuesBounded : Obligations.QueuesBounded := by
  refine ⟨fun s t h e => ?_, fun s t h e => ?_⟩
  · rcases step_exec e with rfl | ⟨c, rest, e⟩
    · exact h
    · exact exec_queueBounds c { s with pending := rest } t h e
  · rcases step_exec e with rfl | ⟨c, rest, e⟩
    · exact h
    · exact exec_lineQueues c { s with pending := rest } t ⟨h.replies, h.forward, h.upward, h.room, h.taken⟩ e

end Sys2Proof.Machine
end

section
/-! PROOFS. Receivers, assemblers, the transmitter and the silence timer (R2 to R7): what a line does with characters, breaks and
gap expiries, and how the characters of a frame make that frame. -/

namespace Sys2Proof.Machine

/-! ## The assembler's rules (R3) -/

/-- A character that neither breaks the COUNT's range nor completes its frame is kept in its place. -/
theorem assemble_kept {taken : List Byte} {d : Bool} {t : Tallies} (hc : ¬(taken.length = 3 ∧ 60 < (taken.getD 2 0).toNat))
    (hl : taken.length ≠ (taken.getD 2 0).toNat + 4) : assemble taken d t = ⟨.assembling taken d, .none, t⟩ := by
  unfold assemble
  exact (if_neg hc).trans (if_neg hl)

/-- A COUNT above 60 discards the frame with a tally. -/
theorem assemble_overlong {a b n : Byte} {d : Bool} {t : Tallies} (hn : 60 < n.toNat) :
    assemble [a, b, n] d t = ⟨.hunting, .discarded, t.bumpCheck⟩ := by
  unfold assemble
  exact if_pos ⟨rfl, hn⟩

/-- The character after the payload is the CHECK. -/
theorem assemble_complete {a b n : Byte} {rest : List Byte} {d : Bool} {t : Tallies} (hl : rest.length = n.toNat + 1) :
    assemble (a :: b :: n :: rest) d t = frameComplete (a :: b :: n :: rest) d t := by
  unfold assemble
  have hlen : (a :: b :: n :: rest).length = n.toNat + 4 := by simp [hl]
  have hc : ¬((a :: b :: n :: rest).length = 3 ∧ Config.maxPayload < n.toNat) := by omega
  show (if (a :: b :: n :: rest).length = 3 ∧ Config.maxPayload < n.toNat then _ else
    if (a :: b :: n :: rest).length = n.toNat + 4 then _ else _) = _
  rw [if_neg hc, if_pos hlen]

/-! ## The characters of a frame (R3, R176) -/

/-- ROUTE, KIND and COUNT stand before the payload. -/
theorem frameBody_length (f : Frame) : (frameBody f).length = f.payload.length + 3 := rfl

/-- The characters after LEAD are kept one by one up to the last of the payload. -/
theorem assembleBytes_take (f : Frame) (t : Tallies) (hf : f.payload.length ≤ 60) (k : Nat) (hk : k ≤ (frameBody f).length) :
    assembleBytes (leadByte :: (frameBody f).take k) .hunting t = ⟨.assembling ((frameBody f).take k) false, .none, t⟩ := by
  induction k with
  | zero => rfl
  | succ k ih =>
    have hk' : k < (frameBody f).length := hk
    have hlen : ((frameBody f).take (k + 1)).length = k + 1 := by rw [List.length_take]; omega
    have hcount : ((frameBody f).take (k + 1)).getD 2 0 = if 2 < k + 1 then BitVec.ofNat 8 f.payload.length else 0 := by
      rw [List.getD_eq_getElem?_getD, List.getElem?_take]
      split <;> rfl
    have hn : (BitVec.ofNat 8 f.payload.length).toNat = f.payload.length := by
      rw [BitVec.toNat_ofNat]; omega
    have hb := frameBody_length f
    have step : asmTake (.char (frameBody f)[k] false false false) (.assembling ((frameBody f).take k) false) t =
        ⟨.assembling ((frameBody f).take (k + 1)) false, .none, t⟩ := by
      show assemble ((frameBody f).take k ++ [(frameBody f)[k]]) false t = _
      rw [List.take_append_getElem hk']
      refine assemble_kept ?_ ?_
      all_goals
        rw [hlen, hcount]
        split
        · rw [hn]; omega
        · rw [show (0 : Byte).toNat = 0 from rfl]; omega
    rw [← List.take_append_getElem hk', ← List.cons_append]
    unfold assembleBytes at ih ⊢
    rw [List.foldl_append, ih (Nat.le_of_lt hk')]
    rw [List.take_append_getElem hk']
    exact step

/-- CHECK makes the sum 0 modulo 256 (R176). -/
theorem byteSum_checked (body : List Byte) : byteSum (body ++ [checkByte body]) % 256 = 0 := by
  have h : byteSum (body ++ [checkByte body]) = byteSum body + (checkByte body).toNat := by simp [byteSum]
  rw [h, checkByte, BitVec.toNat_sub, BitVec.toNat_ofNat]
  simp only [BitVec.ofNat_eq_ofNat, BitVec.toNat_ofNat]
  omega

/-- The destination and the source stand in ROUTE's halves (R176). -/
theorem routeByte_halves (d s : BitVec 4) : (d ++ s : BitVec 8).extractLsb' 4 4 = d ∧ (d ++ s : BitVec 8).extractLsb' 0 4 = s := by
  revert d s
  decide

/-- The bytes of a frame, as they were taken, spell the frame. -/
theorem frameOf_frameBody (f : Frame) (c : Byte) : frameOf (frameBody f ++ [c]) = f := by
  have h : frameOf (frameBody f ++ [c]) =
      ⟨(f.dest ++ f.src : BitVec 8).extractLsb' 4 4, (f.dest ++ f.src : BitVec 8).extractLsb' 0 4, f.kind,
        (f.payload ++ [c]).take ((f.payload ++ [c]).length - 1)⟩ := rfl
  rw [h, (routeByte_halves _ _).1, (routeByte_halves _ _).2]
  simp

/-- The characters of a frame, taken from HUNTING, complete it at the last and tally nothing. -/
theorem assembleBytes_frame (f : Frame) (t : Tallies) (hf : f.wf = true) :
    assembleBytes (frameBytes f) .hunting t = ⟨.hunting, .frame f, t⟩ := by
  have hl : f.payload.length ≤ 60 := of_decide_eq_true hf
  have hn : (f.payload ++ [checkByte (frameBody f)]).length = (BitVec.ofNat 8 f.payload.length).toNat + 1 := by
    rw [BitVec.toNat_ofNat, List.length_append, List.length_singleton]; omega
  have body := assembleBytes_take f t hl _ (Nat.le_refl _)
  rw [List.take_length] at body
  unfold frameBytes
  rw [← List.cons_append]
  unfold assembleBytes at body ⊢
  rw [List.foldl_append, body]
  show assemble (frameBody f ++ [checkByte (frameBody f)]) false t = _
  rw [show frameBody f ++ [checkByte (frameBody f)] = routeByte f :: f.kind :: BitVec.ofNat 8 f.payload.length ::
    (f.payload ++ [checkByte (frameBody f)]) from rfl, assemble_complete hn]
  show frameComplete (frameBody f ++ [checkByte (frameBody f)]) false t = _
  unfold frameComplete
  rw [if_neg (by decide), if_neg (not_not.2 (byteSum_checked _)), frameOf_frameBody]

/-- Before the last character of a frame nothing is completed, discarded or tallied. -/
theorem assembleBytes_frame_take (f : Frame) (t : Tallies) (hf : f.wf = true) (n : Nat) (hn : n < (frameBytes f).length) :
    (assembleBytes ((frameBytes f).take n) .hunting t).event = .none ∧
      (assembleBytes ((frameBytes f).take n) .hunting t).tallies = t := by
  cases n with
  | zero => exact ⟨rfl, rfl⟩
  | succ k =>
    have hk : k ≤ (frameBody f).length := by
      simp only [frameBytes, List.length_cons, List.length_append, List.length_nil] at hn
      omega
    have e : (frameBytes f).take (k + 1) = leadByte :: (frameBody f).take k := by
      unfold frameBytes
      rw [List.take_succ_cons, List.take_append_of_le_length hk]
    rw [e, assembleBytes_take f t (of_decide_eq_true hf) k hk]
    exact ⟨rfl, rfl⟩

/-- Settles O16: one rule for each state and item, and a frame's own characters by induction on how many are taken. -/
theorem assemblerRules : Obligations.AssemblerRules := by
  refine ⟨fun v pe fe ov t => ?_, fun t => ⟨rfl, rfl⟩, fun v taken d pe fe ov t h => ?_, fun taken d t => ⟨rfl, rfl⟩,
    fun a b n d pe fe ov t h => assemble_overlong h, fun a b n v rest d pe fe ov t hn hl => ?_,
    fun a b n v rest d pe fe ov t hn hl => ?_, fun f t hf => ⟨assembleBytes_frame f t hf, assembleBytes_frame_take f t hf⟩⟩
  · have lead : (v = leadByte ∧ (!pe) = true ∧ (!fe) = true) ↔ (v = 0xC3 ∧ pe = false ∧ fe = false) := by simp [leadByte]
    show (if v = leadByte ∧ (!pe) = true ∧ (!fe) = true then _ else _) = _
    rw [if_congr lead rfl rfl]
    split <;> rfl
  · refine assemble_kept ?_ ?_
    · rcases h with h | ⟨h, hv⟩
      · rw [List.length_append, List.length_singleton]; omega
      · rw [List.getD_append_right _ _ _ _ (by omega), h]
        exact fun hc => absurd hc.2 (Nat.not_lt.2 hv)
    · rcases h with h | ⟨h, hv⟩
      · rw [List.length_append, List.length_singleton]; omega
      · rw [List.length_append, List.length_singleton]; omega
  · refine assemble_kept ?_ ?_
    · exact fun hc => absurd hc.2 (Nat.not_lt.2 hn)
    · show (rest ++ [v]).length + 3 ≠ n.toNat + 4
      rw [List.length_append, List.length_singleton]; omega
  · show assemble (a :: b :: n :: (rest ++ [v])) (d || pe || fe || ov) t = _
    rw [assemble_complete (by rw [List.length_append, List.length_singleton, hl])]
    have hsum : byteSum (a :: b :: n :: (rest ++ [v])) = a.toNat + b.toNat + n.toNat + (rest.map BitVec.toNat).sum + v.toNat := by
      simp [byteSum]; omega
    have hframe : frameOf (a :: b :: n :: (rest ++ [v])) = ⟨a.extractLsb' 4 4, a.extractLsb' 0 4, b, rest⟩ := by
      simp [frameOf, slice]
    unfold frameComplete
    rw [hsum, hframe]
    simp only [ne_eq, ite_not]
    rfl

end Sys2Proof.Machine
end

section
/-! PROOFS. What arrives at the receivers, the silence timer, and the transmitter's turn (R2 to R7). -/

namespace Sys2Proof.Machine

/-! ## What arrives at a receiver (R2, R4) -/

/-- An arriving character is stored as Stored says, whatever its marks. -/
theorem Receiver.store_marked (v : Byte) (p m : Bool) (q : Receiver) : Stored v p m q (q.store v (!evenParity v p) (!m)) := by
  by_cases hc : charCount q.fifo < 64
  · have hn : ¬Config.fifoDepth ≤ charCount q.fifo := Nat.not_le.2 hc
    unfold Receiver.store
    constructor <;> simp [hc, hn, Tallies.ofChar, bump, satAdd, Config.saturation]
    all_goals cases evenParity v p <;> cases m <;> rfl
  · have hn : Config.fifoDepth ≤ charCount q.fifo := Nat.not_lt.1 hc
    unfold Receiver.store
    constructor <;> simp [hc, hn, Tallies.ofChar, bump, satAdd, Config.saturation]
    all_goals cases evenParity v p <;> cases m <;> rfl

/-- A character that comes to an empty FIFO stands there alone, its marks with it. -/
theorem Stored.fifo_of_empty {v : Byte} {p m : Bool} {q r : Receiver} (h : Stored v p m q r) (hq : q.fifo = []) :
    r.fifo = [.char v (!evenParity v p) (!m) q.overrunNext] := by
  have := h.fifo
  rw [hq] at this
  exact this

/-- Something at the C-line's receiver is an event of its own, and the assembler then runs (R2, R3). -/
theorem State.event_cLine (f : Receiver → Receiver) {s : State} (hr : s.running = true) :
    s.event (State.onReceiver .cLine f) = .next ({ s with cRx := f s.cRx }).runC.transmit := State.event_running _ hr

/-- While the C-line is stalled the assembler takes nothing of what comes (R5). -/
theorem State.event_cLine_stalled (f : Receiver → Receiver) {s : State} (hr : s.running = true) (hs : s.cStalled = true) :
    s.event (State.onReceiver .cLine f) = .next ({ s with cRx := f s.cRx }).transmit := by
  rw [State.event_cLine f hr, State.runC_stalled { s with cRx := f s.cRx } hs]

/-- What comes to the empty FIFO of a C-line that is not stalled is taken at once (R3, R5). -/
theorem State.event_cLine_one (f : Receiver → Receiver) {x : RxItem} {s : State} (hr : s.running = true)
    (hs : s.cStalled = false) (hf : (f s.cRx).fifo = [x]) :
    TakenOnC x { f s.cRx with fifo := [] } s (s.event (State.onReceiver .cLine f)) := by
  rw [State.event_cLine f hr]
  exact State.runC_one x (f s.cRx) s hr hs hf

/-- Something at an M-line receiver that accepts is an event of its own, and the assembler then runs (R2, R3, R12). -/
theorem State.event_mLine (f : Receiver → Receiver) {s : State} (hr : s.running = true) (hm : s.mAccepts = true) :
    s.event (State.onReceiver .mLine f) = .next ({ s with mRx := f s.mRx }).runM.transmit := by
  rw [State.event_running _ hr]
  simp [State.onReceiver, hm]

/-- What comes to the empty FIFO of an M-line receiver that accepts is taken at once (R3, R12). -/
theorem State.event_mLine_one (f : Receiver → Receiver) {x : RxItem} {s : State} (hr : s.running = true) (hm : s.mAccepts = true)
    (hf : (f s.mRx).fifo = [x]) : TakenOnM x { f s.mRx with fifo := [] } s (s.event (State.onReceiver .mLine f)) := by
  rw [State.event_mLine f hr hm]
  exact State.runM_one x (f s.mRx) s hr hm hf

/-- Nothing is delivered to an M-line receiver that accepts nothing (R2, R12). -/
theorem State.event_mLine_closed (f : Receiver → Receiver) {s : State} (hr : s.running = true) (hm : s.mAccepts = false) :
    s.event (State.onReceiver .mLine f) = .next s.transmit := by
  rw [State.event_running _ hr]
  simp [State.onReceiver, hm]

/-- The expiry of a running gap timer is delivered (R2). -/
theorem State.gapExpires_running (l : Line) {s : State} (h : s.gapRuns l = true) :
    s.gapExpires l = s.onReceiver l Receiver.takeGap := if_pos h

/-- The expiry of a stopped gap timer does nothing. -/
theorem State.gapExpires_stopped (l : Line) {s : State} (h : s.gapRuns l = false) : s.gapExpires l = s := by
  unfold State.gapExpires
  rw [h]
  rfl

/-- Settles O14: the store by Stored, the assembler's turn by what it does with one item. -/
theorem characterArrivalStores : Obligations.CharacterArrivalStores := by
  intro v p m s hr
  have hc := Receiver.store_marked v p m s.cRx
  have hm := Receiver.store_marked v p m s.mRx
  exact ⟨⟨_, State.event_cLine _ hr, hc, State.event_cLine_stalled _ hr,
      fun hs hf => State.event_cLine_one _ hr hs (hc.fifo_of_empty hf)⟩,
    fun ha => ⟨_, State.event_mLine _ hr ha, hm, fun hf => State.event_mLine_one _ hr ha (hm.fifo_of_empty hf)⟩,
    State.event_mLine_closed _ hr⟩

/-- GAP_EXPIRY of a running gap timer is delivered as an event of its own. -/
theorem exec_gapExpiry {l : Line} {s : State} (h : s.gapRuns l = true) :
    exec (.gapExpiry l) s = s.event (State.onReceiver l Receiver.takeGap) := by
  show (if s.running then _ else _) = if s.running then _ else _
  rw [State.gapExpires_running l h]

/-- GAP_EXPIRY of a stopped gap timer changes nothing. -/
theorem exec_gapExpiry_stopped {l : Line} {s : State} (hr : s.running = true) (h : s.gapRuns l = false) :
    exec (.gapExpiry l) s = .next s.transmit :=
  (State.event_running _ hr).trans (by rw [State.gapExpires_stopped l h])

/-- An M-line receiver that accepts nothing delivers no gap expiry. -/
theorem exec_gapExpiry_closed {s : State} (hr : s.running = true) (hm : s.mAccepts = false) :
    exec (.gapExpiry .mLine) s = .next s.transmit := by
  cases h : s.gapRuns .mLine with
  | true => rw [exec_gapExpiry h, State.event_mLine_closed _ hr hm]
  | false => exact exec_gapExpiry_stopped hr h

/-- What comes to an empty FIFO stands there alone. -/
theorem Receiver.takeBreak_fifo {r : Receiver} (h : r.fifo = []) : r.takeBreak.fifo = [.brk] := by
  simp [Receiver.takeBreak, Receiver.deliver, h]

theorem Receiver.takeGap_fifo {r : Receiver} (h : r.fifo = []) : r.takeGap.fifo = [.gap] := by
  simp [Receiver.takeGap, Receiver.deliver, h]

/-- But for the break itself a receiver is as broken says. -/
theorem Receiver.takeBreak_taken {r : Receiver} (h : r.fifo = []) : { r.takeBreak with fifo := [] } = r.broken := by
  obtain ⟨q, o, g, a, t⟩ := r
  cases h
  rfl

/-- But for the expiry itself a receiver's gap timer has stopped. -/
theorem Receiver.takeGap_taken {r : Receiver} (h : r.fifo = []) : 
    { r.takeGap with fifo := [] } = { r with gapRunning := false } := by
  obtain ⟨q, o, g, a, t⟩ := r
  cases h
  rfl

/-- Settles O15: breaks and expiries are delivered as characters are. -/
theorem breakAndGapDelivered : Obligations.BreakAndGapDelivered := by
  intro s hr
  refine ⟨State.event_cLine _ hr, State.event_mLine _ hr, fun hg => ?_, exec_gapExpiry_stopped (l := .cLine) hr, fun ha hg => ?_,
    fun _ => exec_gapExpiry_stopped (l := .mLine) hr, fun ha => ⟨State.event_mLine_closed _ hr ha, exec_gapExpiry_closed hr ha⟩,
    fun hs => ⟨State.event_cLine_stalled _ hr hs, fun hg => ?_⟩, fun hs hf => ⟨?_, fun hg => ?_⟩, fun ha hf => ⟨?_, fun hg => ?_⟩⟩
  · exact (exec_gapExpiry (l := .cLine) hg).trans (State.event_cLine _ hr)
  · exact (exec_gapExpiry (l := .mLine) hg).trans (State.event_mLine _ hr ha)
  · exact (exec_gapExpiry (l := .cLine) hg).trans (State.event_cLine_stalled _ hr hs)
  · rw [← Receiver.takeBreak_taken hf]
    exact State.event_cLine_one _ hr hs (Receiver.takeBreak_fifo hf)
  · rw [← Receiver.takeGap_taken hf, exec_gapExpiry (l := .cLine) hg]
    exact State.event_cLine_one _ hr hs (Receiver.takeGap_fifo hf)
  · rw [← Receiver.takeBreak_taken hf]
    exact State.event_mLine_one _ hr ha (Receiver.takeBreak_fifo hf)
  · rw [← Receiver.takeGap_taken hf, exec_gapExpiry (l := .mLine) hg]
    exact State.event_mLine_one _ hr ha (Receiver.takeGap_fifo hf)

/-! ## The silence timer and the frames that restart it (R5, R7) -/

/-- A whole frame that is taken at once is disposed of after what every valid frame does. -/
theorem exec_cLineFrame {s : State} (f : Frame) (h : TakesFrames s) :
    exec (.cLineFrame f) s = .next (s.frameSeen.disposeFrame f).transmit :=
  congrArg State.done (State.onCLine_taken f _ h)

theorem bne_zero_eq_decide (n : Nat) : (n != 0) = decide (n ≠ 0) := by
  cases n <;> rfl

/-- Settles O17: the timer's expiry and a valid frame each by the entry test they end with. -/
theorem silenceAndFrames : Obligations.SilenceAndFrames := by
  intro s
  refine ⟨fun hr hs => ⟨_, State.event_running _ hr, ?_⟩, fun hr hs => ?_, fun hd => ?_, fun hd => ?_,
    fun h f => exec_cLineFrame f h⟩
  · unfold State.silenceExpires
    rw [if_pos hs]
    exact State.entryTest_tested _
  · refine (State.event_running _ hr).trans ?_
    unfold State.silenceExpires
    rw [if_neg (by rw [hs]; exact Bool.false_ne_true)]
  · unfold State.frameSeen
    rw [if_neg (by rw [hd]; exact Bool.false_ne_true), bne_zero_eq_decide, ← hd]
  · unfold State.frameSeen
    rw [if_pos hd, bne_zero_eq_decide]
    exact State.entryTest_tested _

/-! ## The transmitter (R6) -/

theorem State.transmit_stopped {s : State} (h : s.running = false) : s.transmit = s := by
  unfold State.transmit
  rw [h]
  rfl

theorem State.transmit_sending {s : State} (h : s.sending ≠ none) : s.transmit = s := by
  unfold State.transmit
  rw [if_neg]
  intro hc
  simp only [Bool.and_eq_true, Option.isNone_iff_eq_none] at hc
  exact h hc.1.2

/-- An idle transmitter of a running part takes its next frame where one waits. -/
theorem State.transmit_idle {s : State} (hr : s.running = true) (hs : s.sending = none) (hw : s.frameWaits = true) :
    s.transmit = s.takeNext.runC := by
  unfold State.transmit
  rw [if_pos (by rw [hr, hs, hw]; rfl)]

/-- With no frame waiting the transmitter takes nothing. -/
theorem State.transmit_noneWaiting {s : State} (hw : s.frameWaits = false) : s.transmit = s := by
  unfold State.transmit
  rw [hw, Bool.and_false]
  rfl

/-- In the states that QueuesBounded keeps, an event that changes nothing leaves the transmitter as it is. -/
theorem State.transmit_of_noneWaits {s : State} (h : NoneWaits s) : s.transmit = s := by
  by_cases hs : s.sending = none
  · obtain ⟨h1, h2, h3⟩ := h hs
    refine State.transmit_noneWaiting ?_
    unfold State.frameWaits
    rw [h1, h2, h3]
    rfl
  · exact State.transmit_sending hs

/-- Settles O21: one case of the transmitter for each queue that may hold its next frame. -/
theorem transmitterOrder : Obligations.TransmitterOrder := by
  intro s
  refine ⟨State.transmit_stopped, State.transmit_sending, fun hr hs => ⟨fun r rs h => ?_, fun f fs h1 h2 => ?_,
    fun r rs h1 h2 h3 => ?_, fun h1 h2 h3 => State.transmit_of_noneWaits fun _ => ⟨h1, h2, h3⟩⟩, fun hr hn => ?_, fun hr hn => ?_⟩
  · rw [State.transmit_idle hr hs (by unfold State.frameWaits; rw [h]; rfl), State.takeNext, h]
  · rw [State.transmit_idle hr hs (by unfold State.frameWaits; rw [h1, h2]; rfl), State.takeNext, h1, h2]
  · rw [State.transmit_idle hr hs (by unfold State.frameWaits; rw [h1, h2, h3]; rfl), State.takeNext, h1, h2, h3]
  · refine (State.event_running _ hr).trans ?_
    unfold State.transmitEnds
    rw [if_neg (by rw [hn]; exact Bool.false_ne_true)]
  · refine (State.event_running _ hr).trans ?_
    have hs : s.sending ≠ none := fun h => hn (by rw [State.startReplySent, h]; rfl)
    unfold State.transmitEnds
    rw [if_pos (Option.isSome_iff_ne_none.2 hn), State.transmit_sending hs]

/-! ## A stalled C-line (R2, R5) -/

/-- The characters of some bytes, stored one by one, leave the assembler as it is; an empty FIFO holds them whole while they are at
most 64 with what it holds. -/
theorem Receiver.store_all_fifo (bs : List Byte) (q : Receiver) (hq : charCount q.fifo + bs.length ≤ 64)
    (ho : q.overrunNext = false) :
    (bs.foldl (fun r b => r.store b false false) q).fifo = q.fifo ++ bs.map fun b => .char b false false false := by
  induction bs generalizing q with
  | nil => simp
  | cons b bs ih =>
    rw [List.length_cons] at hq
    have st := Receiver.store_stored b q
    have hc : charCount q.fifo < 64 := by omega
    have hf : (q.store b false false).fifo = q.fifo ++ [.char b false false false] := by
      rw [st.fifo, if_pos hc, evenParity_bit, ho]
      rfl
    have hn : (q.store b false false).overrunNext = false := by rw [st.overrunNext, decide_eq_true hc]; rfl
    have hcount : charCount (q.store b false false).fifo = charCount q.fifo + 1 := by
      rw [hf]; simp [charCount]
    rw [List.foldl_cons, ih _ (by omega) hn, hf, List.append_assoc]
    rfl

theorem Receiver.store_all_asm (bs : List Byte) (q : Receiver) : (bs.foldl (fun r b => r.store b false false) q).asm = q.asm := by
  induction bs generalizing q with
  | nil => rfl
  | cons b bs ih => exact (ih _).trans (Receiver.store_stored b q).asm

/-- The C-line is stalled exactly while the reply list is full or a start is on its way (R5, R172). -/
theorem State.cStalled_iff (s : State) : s.cStalled = true ↔ 4 ≤ s.replies.length ∨ s.stopping = true := by
  unfold State.cStalled
  rw [Bool.or_eq_true, decide_eq_true_iff]
  rfl

/-- Settles O20: a stalled line stores the characters; once it takes them the assembler completes the frame that waits. -/
theorem stalledLineKeepsFrames : Obligations.StalledLineKeepsFrames := by
  refine ⟨fun f s hr hs => ⟨_, ?_, Receiver.store_storedAll _ _, Receiver.store_all_asm _ _, fun hf ho hl => ?_⟩,
    fun s hs => State.runC_stalled s (s.cStalled_iff.2 hs), fun f s hf hs ha hq => ?_⟩
  · show (s.onCLine f _).done = _
    unfold State.onCLine
    rw [if_neg (by rw [hr]; decide), if_pos (s.cStalled_iff.2 hs)]
    rfl
  · rw [Receiver.store_all_fifo _ _ (by rw [hf]; simpa [charCount] using hl) ho, hf, List.nil_append]
  · have hne : frameBytes f ≠ [] := by simp [frameBytes]
    have hrun := State.pumpC_frame (frameBytes f) s f s.cRx.tallies hs hq hne (by rw [ha]; exact assembleBytes_frame f _ hf)
      (fun n hn => by rw [ha]; exact (assembleBytes_frame_take f _ hf n hn).1)
    unfold State.runC
    rw [hq, List.length_map, hrun, ← ha]

end Sys2Proof.Machine
end

section
/-! PROOFS. Frames and the requests they carry, and a frame's characters one by one (R1 to R5, R12, R176, R177). -/

namespace Sys2Proof.Machine

/-! ## Enumerations read back (R177) -/

@[simp] theorem tableKindOf_code (k : TableKind) : tableKindOf (TableKind.code k) = some k := by cases k <;> rfl

@[simp] theorem mediumOf_code (m : Medium) : mediumOf (Medium.code m) = some m := by cases m <;> rfl

@[simp] theorem flagOf_flagByte (b : Bool) : flagOf (flagByte b) = some b := by cases b <;> rfl

/-! ## The payload of each request read back (R177, R178) -/

theorem setupOf_payload (id : Word16) (rate : Byte) (roles : Vector Byte 6) (silence : Byte) :
    setupOf (setupPayload id rate roles silence) = some (.setup id rate roles silence) := by
  obtain ⟨⟨l⟩, h⟩ := roles
  match l, h with
  | [r1, r2, r3, r4, r5, r6], h =>
    unfold setupPayload
    rw [leBytes_two]
    show some (Instr.setup (word16 _ _) rate _ silence) = _
    rw [word16_bytes]

theorem loadOf_payload (k : TableKind) (g : Word16) (index total : Byte) (check count : Word16) (es : List Byte)
    (h : index = 0 ∨ (check = 0 ∧ count = 0)) :
    loadOf (loadPayload k g index total check count es) = some (.load k g index total check count es) := by
  unfold loadPayload
  rw [leBytes_two, leBytes_two, leBytes_two]
  by_cases hi : index = 0
  · rw [if_pos hi]
    simp [loadOf, hi, word16_bytes]
  · obtain ⟨rfl, rfl⟩ := h.resolve_left hi
    have hi' : ¬index = 0#8 := hi
    rw [if_neg hi]
    simp [loadOf, hi', word16_bytes]

theorem activateOf_payload (k : TableKind) (g : Word16) (d : Due) :
    activateOf (activatePayload k g d) = some (.activate k g d) := by
  match d with
  | .now =>
    unfold activatePayload
    rw [leBytes_two]
    simp [activateOf, leBytes, word16_bytes]
  | .at day second =>
    show activateOf (TableKind.code k :: leBytes 2 g.toNat ++ 1 :: leBytes 2 day.toNat ++ leBytes 4 second.toNat) = _
    rw [leBytes_two, leBytes_two, leBytes_four]
    simp [activateOf, word16_bytes, word32_bytes]

theorem sellOf_payload (product zones : Byte) (concession : Fin 8) (m : Medium) (keep : Bool) :
    sellOf (sellPayload product zones concession m keep) = some (.sell product zones concession m keep) := by
  have hc : (BitVec.ofNat 8 concession.val).toNat = concession.val := by
    rw [BitVec.toNat_ofNat]; omega
  simp [sellOf, sellPayload, hc]

/-- The frame of a well-formed request goes from the terminal processor to the part and spells the request. -/
theorem requestOf_frame {i : Instr} {f : Frame} (hi : i.wf = true) (hf : frameOfRequest i = some f) :
    f.dest = 0 ∧ f.src = terminal ∧ requestOf f.kind f.payload = some i := by
  cases i
  case load k g index total check count es =>
    cases hf
    refine ⟨rfl, rfl, loadOf_payload _ _ _ _ _ _ _ ?_⟩
    simp only [Instr.wf, Bool.and_eq_true, Bool.or_eq_true, beq_iff_eq] at hi
    exact hi.2
  case setup => cases hf; exact ⟨rfl, rfl, setupOf_payload _ _ _ _⟩
  case activate => cases hf; exact ⟨rfl, rfl, activateOf_payload _ _ _⟩
  case sell => cases hf; exact ⟨rfl, rfl, sellOf_payload _ _ _ _ _⟩
  case service on => cases hf; exact ⟨rfl, rfl, congrArg (Option.map Instr.service) (flagOf_flagByte on)⟩
  case inhibit on => cases hf; exact ⟨rfl, rfl, congrArg (Option.map Instr.inhibit) (flagOf_flagByte on)⟩
  case discard k => cases hf; exact ⟨rfl, rfl, congrArg (Option.map Instr.discard) (tableKindOf_code k)⟩
  case clock day second dow =>
    cases hf
    refine ⟨rfl, rfl, ?_⟩
    show shortOf 10 (clockPayload day second dow) = _
    unfold clockPayload
    rw [leBytes_two, leBytes_four]
    show some (Instr.clock (word16 _ _) (word32 _ _ _ _) dow) = _
    rw [word16_bytes, word32_bytes]
  case topup amount receipt =>
    cases hf
    refine ⟨rfl, rfl, ?_⟩
    show shortOf 12 (topupPayload amount receipt) = _
    unfold topupPayload
    rw [leBytes_two]
    show (flagOf (flagByte receipt)).map (Instr.topup (word16 _ _)) = _
    rw [flagOf_flagByte, word16_bytes]
    rfl
  case writeOff txn =>
    cases hf
    refine ⟨rfl, rfl, ?_⟩
    show shortOf 18 (leBytes 4 txn.toNat) = _
    rw [leBytes_four]
    show some (Instr.writeOff (word32 _ _ _ _)) = _
    rw [word32_bytes]
  case alive | query | cancel | voucher | reprint | chuteClear | tube | clearTotals | clearAll | restart =>
    cases hf; exact ⟨rfl, rfl, rfl⟩
  all_goals cases hf

/-- A request's frame is disposed of by the block that owns the request (R5). -/
theorem State.disposeFrame_request {i : Instr} {f : Frame} (hi : i.wf = true) (hf : frameOfRequest i = some f) (s : State) :
    s.disposeFrame f = s.takeRequest i := by
  obtain ⟨hd, hs, hr⟩ := requestOf_frame hi hf
  unfold State.disposeFrame State.disposeRequest
  rw [if_neg (not_not.2 hs), if_pos hd, hr]

/-- A request's command is its frame at the C-line, served by the request's owner. -/
theorem exec_onCLine {i : Instr} {f : Frame} (hf : frameOfRequest i = some f) (s : State) :
    exec i s = (s.onCLine f (State.takeRequest i)).done := by
  have h : exec i s = (s.onRequest i (State.takeRequest i)).done := by
    cases i
    all_goals first
      | rfl
      | cases hf
  rw [h, State.onRequest, hf]

/-! ## A frame's characters one by one (R3, R176) -/

/-- Characters taken one by one, each leaving the state that its step of the assembler asks for, do what the frame they complete
does. The state is a function of its gap timer, its assembler and its tallies. -/
theorem execAll_characters {l : Line} {u : Bool → Assembler → Tallies → State} {out : Frame → State → State}
    (kept : ∀ g a t b, (asmTake (.char b false false false) a t).event = .none →
      exec (.characterArrival l b (evenParityBit b) true) (u g a t) =
        .next (u true (asmTake (.char b false false false) a t).asm (asmTake (.char b false false false) a t).tallies))
    (done : ∀ g a t b f, (asmTake (.char b false false false) a t).event = .frame f →
      exec (.characterArrival l b (evenParityBit b) true) (u g a t) =
        .next (out f (u true (asmTake (.char b false false false) a t).asm (asmTake (.char b false false false) a t).tallies)))
    (bs : List Byte) (hb : bs ≠ []) (g : Bool) (a : Assembler) (t t' : Tallies) (f : Frame)
    (last : assembleBytes bs a t = ⟨.hunting, .frame f, t'⟩)
    (before : ∀ n, n < bs.length → (assembleBytes (bs.take n) a t).event = .none) :
    execAll (bs.map fun b => .characterArrival l b (evenParityBit b) true) (u g a t) = .next (out f (u true .hunting t')) := by
  induction bs generalizing g a t with
  | nil => exact absurd rfl hb
  | cons b bs ih =>
    rw [List.map_cons, execAll]
    by_cases he : bs = []
    · subst he
      have e : asmTake (.char b false false false) a t = ⟨.hunting, .frame f, t'⟩ := last
      rw [done g a t b f (by rw [e]), e]
      rfl
    · have hn : (asmTake (.char b false false false) a t).event = .none := by
        have := List.length_pos_of_ne_nil he
        exact before 1 (by rw [List.length_cons]; omega)
      rw [kept g a t b hn]
      refine ih he true _ _ ?_ fun n hl => ?_
      · rw [← assembleBytes_cons b bs a t he]; exact last
      · cases n with
        | zero => rfl
        | succ n =>
          have := before (n + 1 + 1) (by rw [List.length_cons]; omega)
          rwa [List.take_succ_cons, assembleBytes_cons _ _ _ _ (by simp [he])] at this

/-- The C-line with an empty FIFO, its gap timer, its assembler and its tallies put. -/
def State.withC (s : State) (g : Bool) (a : Assembler) (t : Tallies) : State := { s with cRx := ⟨[], false, g, a, t⟩ }

/-- The M-line with an empty FIFO, its gap timer, its assembler and its tallies put. -/
def State.withM (s : State) (g : Bool) (a : Assembler) (t : Tallies) : State := { s with mRx := ⟨[], false, g, a, t⟩ }

theorem State.withC_self {s : State} (hq : s.cRx.fifo = []) (ho : s.cRx.overrunNext = false) (ha : s.cRx.asm = .hunting) :
    s.withC s.cRx.gapRunning .hunting s.cRx.tallies = s ∧
      s.withC true .hunting s.cRx.tallies = { s with cRx := { s.cRx with gapRunning := true } } := by
  unfold State.withC
  constructor
  all_goals
    rw [← hq, ← ho, ← ha]

theorem State.withM_self {s : State} (hq : s.mRx.fifo = []) (ho : s.mRx.overrunNext = false) (ha : s.mRx.asm = .hunting) :
    s.withM s.mRx.gapRunning .hunting s.mRx.tallies = s ∧
      s.withM true .hunting s.mRx.tallies = { s with mRx := { s.mRx with gapRunning := true } } := by
  unfold State.withM
  constructor
  all_goals
    rw [← hq, ← ho, ← ha]

/-- A character as its sender puts it on a line arrives without an error (R1). -/
theorem exec_characterArrival_clean (l : Line) (b : Byte) (s : State) :
    exec (.characterArrival l b (evenParityBit b) true) s = s.event (State.onReceiver l (Receiver.store b false false)) := by
  show s.event (State.onReceiver l (Receiver.store b (!evenParity b (evenParityBit b)) (!true))) = _
  rw [evenParity_bit]
  rfl

/-- The characters of a frame, one by one, do what the whole frame does on the C-line. -/
theorem execAll_cLine (f : Frame) (s : State) (hf : f.wf = true) (ht : TakesFrames s) (hq : s.cRx.fifo = [])
    (ho : s.cRx.overrunNext = false) (ha : s.cRx.asm = .hunting) (hn : NoneWaits s) :
    execAll (frameCharacters .cLine f) s = exec (.cLineFrame f) { s with cRx := { s.cRx with gapRunning := true } } := by
  have taken (g a t b) : TakenOnC (.char b false false false) ⟨[], false, true, a, t⟩ (s.withC g a t)
      (exec (.characterArrival .cLine b (evenParityBit b) true) (s.withC g a t)) := by
    rw [exec_characterArrival_clean]
    exact State.event_cLine_one (Receiver.store b false false) (s := s.withC g a t) ht.1 ht.2 rfl
  have all := execAll_characters (u := s.withC) (out := fun f u => (u.onCLine f (State.disposeFrame f)).transmit)
    (fun g a t b h => ((taken g a t b).1 fun f e => by rw [h] at e; cases e).trans
      (congrArg Host.Outcome.next (State.transmit_of_noneWaits hn)))
    (fun g a t b f h => (taken g a t b).2 f h) (frameBytes f) (by simp [frameBytes]) s.cRx.gapRunning .hunting
    s.cRx.tallies s.cRx.tallies f (assembleBytes_frame f _ hf) fun n hl => (assembleBytes_frame_take f _ hf n hl).1
  obtain ⟨hs, ht⟩ := State.withC_self hq ho ha
  rw [hs, ht] at all
  exact all

/-- The characters of a frame, one by one, do what MODULE_ANSWER of the frame does on an M-line that accepts. -/
theorem execAll_mLine (f : Frame) (s : State) (hf : f.wf = true) (hr : s.running = true) (hm : s.mAccepts = true)
    (hq : s.mRx.fifo = []) (ho : s.mRx.overrunNext = false) (ha : s.mRx.asm = .hunting) (hn : NoneWaits s) :
    execAll (frameCharacters .mLine f) s = exec (.moduleAnswer f) { s with mRx := { s.mRx with gapRunning := true } } := by
  have taken (g a t b) : TakenOnM (.char b false false false) ⟨[], false, true, a, t⟩ (s.withM g a t)
      (exec (.characterArrival .mLine b (evenParityBit b) true) (s.withM g a t)) := by
    rw [exec_characterArrival_clean]
    exact State.event_mLine_one (Receiver.store b false false) (s := s.withM g a t) hr hm rfl
  have all := execAll_characters (u := s.withM) (out := fun f u => (u.moduleFrame f).transmit)
    (fun g a t b h => ((taken g a t b).1 h).trans (congrArg Host.Outcome.next (State.transmit_of_noneWaits hn)))
    (fun g a t b f h => ((taken g a t b).2.2 f h).trans (State.event_running _ hr)) (frameBytes f) (by simp [frameBytes])
    s.mRx.gapRunning .hunting s.mRx.tallies s.mRx.tallies f (assembleBytes_frame f _ hf)
    fun n hl => (assembleBytes_frame_take f _ hf n hl).1
  obtain ⟨hs, ht⟩ := State.withM_self hq ho ha
  rw [hs, ht] at all
  exact all.trans (State.event_running (State.moduleFrame f) (s := { s with mRx := { s.mRx with gapRunning := true } }) hr).symm

/-- Settles O13: a request's payload reads back as the request, and the characters of a frame complete it at the last. -/
theorem framesCarryRequests : Obligations.FramesCarryRequests := by
  refine ⟨fun i f s hi hf => ?_, execAll_cLine, execAll_mLine⟩
  rw [exec_onCLine hf s]
  show (s.onCLine f (State.disposeFrame f)).done = _
  rw [funext fun u => State.disposeFrame_request hi hf u]

end Sys2Proof.Machine
end

section
/-! PROOFS. The disposition of frames (R5, R8 to R10) and the requests of the part state and the queries (R16 to R19, R29). -/

namespace Sys2Proof.Machine

/-! ## Addresses -/

@[simp] theorem slotOf_slotAddress (i : Fin 6) : slotOf (slotAddress i) = some i := by revert i; decide

theorem slotAddress_ne_zero (i : Fin 6) : slotAddress i ≠ 0 := by revert i; decide

theorem isDownwardDest_slotAddress (i : Fin 6) : isDownwardDest (slotAddress i) = true := by revert i; decide

/-- The downward destinations are the slots and the group (R8). -/
theorem isDownwardDest_iff (d : BitVec 4) : isDownwardDest d = true ↔ (1 ≤ d.toNat ∧ d.toNat ≤ 6) ∨ d = 15 := by
  revert d; decide

/-! ## Misaddressed frames (R5) -/

/-- A frame with a wrong source or destination is refused. -/
theorem State.disposeFrame_misaddressed (f : Frame) (s : State)
    (h : f.src ≠ 14 ∨ (f.dest ≠ 0 ∧ ¬(1 ≤ f.dest.toNat ∧ f.dest.toNat ≤ 6) ∧ f.dest ≠ 15)) :
    s.disposeFrame f = s.refuse f.kind .format := by
  unfold State.disposeFrame
  by_cases hs : f.src = terminal
  · obtain ⟨h0, hn, h15⟩ := h.resolve_left (not_not.2 hs)
    have hd : ¬isDownwardDest f.dest = true := fun hd => ((isDownwardDest_iff f.dest).1 hd).elim hn h15
    rw [if_neg (not_not.2 hs), if_neg h0, if_neg hd]
  · rw [if_pos hs]

/-- Settles O18: the disposition of a misaddressed frame. -/
theorem misaddressedFrameRefused : Obligations.MisaddressedFrameRefused := by
  intro f s ht h
  rw [exec_cLineFrame f ht, State.disposeFrame_misaddressed f _ h]

/-! ## Downward frames (R8 to R10) -/

/-- A downward frame that is taken at once goes to the passage decision, and in UNSET it is refused (R5, R8). -/
theorem exec_downwardFrame {s : State} (d : BitVec 4) (kind : Byte) (p : List Byte) (h : TakesFrames s) (h0 : d ≠ 0)
    (hd : isDownwardDest d = true) :
    exec (.downwardFrame d kind p) s = .next (s.frameSeen.disposeDownward ⟨d, terminal, kind, p⟩).transmit := by
  have e : exec (.downwardFrame d kind p) s = exec (.cLineFrame ⟨d, terminal, kind, p⟩) s := rfl
  rw [e, exec_cLineFrame _ h, State.disposeFrame, if_neg (not_not.2 rfl), if_neg h0, if_pos hd]

theorem State.passes_of_none {s : State} (h : s.retained.passage = none) (row : Nat) (kind : Byte) : s.passes row kind = false := by
  unfold State.passes
  rw [h]

@[simp] theorem State.frameSeen_passes (s : State) (row : Nat) (kind : Byte) : s.frameSeen.passes row kind = s.passes row kind := by
  simp [State.passes]

@[simp] theorem State.frameSeen_otherPresent (s : State) : s.frameSeen.otherPresent = s.otherPresent := by
  simp [State.otherPresent]

theorem State.otherPresent_iff (s : State) :
    s.otherPresent = true ↔ ∃ i, (s.slots.get i).role = .other ∧ (s.slots.get i).present = true := by
  simp [State.otherPresent]

/-- The checks of a downward frame to a slot, in order (R8). -/
theorem State.downRefusal_slot (i : Fin 6) (src : BitVec 4) (kind : Byte) (p : List Byte) (s : State) :
    s.downRefusal ⟨slotAddress i, src, kind, p⟩ =
      if (s.slots.get i).role = .none ∨ (s.slots.get i).present = false then some .absent
      else if guardedDown (s.slots.get i).role kind = true ∨ s.passes i.val kind = false then some .guarded
      else if 8 ≤ s.forwardQ.length then some .queue else none := by
  unfold State.downRefusal
  rw [slotOf_slotAddress]
  simp only [Bool.not_eq_true', Config.frameQueueDepth]
  split
  · rfl
  · by_cases hg : guardedDown (s.slots.get i).role kind = true
    · rw [if_pos hg, if_pos (.inl hg)]
    · rw [if_neg hg]
      by_cases hp : s.passes i.val kind = false
      · rw [if_pos hp, if_pos (.inr hp)]
      · rw [if_neg hp, if_neg (not_or.2 ⟨hg, hp⟩)]
        rfl

/-- The checks of a downward frame to the group, in order (R8). -/
theorem State.downRefusal_group (src : BitVec 4) (kind : Byte) (p : List Byte) (s : State) :
    s.downRefusal ⟨15, src, kind, p⟩ =
      if s.otherPresent = false then some .absent
      else if kind = Kind.poll ∨ kind = Kind.nil ∨ s.passes 6 kind = false then some .guarded
      else if 8 ≤ s.forwardQ.length then some .queue else none := by
  have hs : slotOf 15 = none := rfl
  have hg : guardedDown .none kind = true ↔ kind = Kind.poll ∨ kind = Kind.nil := by simp [guardedDown]
  unfold State.downRefusal
  rw [hs]
  simp only [Bool.not_eq_true', Config.frameQueueDepth, hg]
  split
  · rfl
  · by_cases hk : kind = Kind.poll ∨ kind = Kind.nil
    · rw [if_pos hk, if_pos (or_assoc.1 (.inl hk))]
    · rw [if_neg hk]
      by_cases hp : s.passes 6 kind = false
      · rw [if_pos hp, if_pos (.inr (.inr hp))]
      · rw [if_neg hp, if_neg (fun h => (or_assoc.2 h).elim hk hp)]
        rfl

/-- A frame that is refused leaves its refusal alone. -/
theorem State.passDown_refused {s : State} {f : Frame} {r : Reason} (h : s.downRefusal f = some r) :
    s.passDown f = s.refuse f.kind r := by
  unfold State.passDown
  rw [h]

/-- A frame that is not refused joins the forward queue. -/
theorem State.passDown_queued {s : State} {f : Frame} (h : s.downRefusal f = none) :
    s.passDown f = { s with forwardQ := s.forwardQ ++ [f] } := by
  unfold State.passDown
  rw [h]

/-- Settles O22: the passage decision by its checks in order. -/
theorem downwardFramePassage : Obligations.DownwardFramePassage := by
  intro kind payload s ht hu refused queued
  have taken (d : BitVec 4) (h0 : d ≠ 0) (hd : isDownwardDest d = true) :
      exec (.downwardFrame d kind payload) s = .next (s.frameSeen.passDown ⟨d, 14, kind, payload⟩).transmit := by
    rw [exec_downwardFrame d kind payload ht h0 hd, State.disposeDownward, if_neg (by simpa using hu)]
    rfl
  have isRefused (d : BitVec 4) (h0 : d ≠ 0) (hd : isDownwardDest d = true) (r : Reason)
      (h : s.frameSeen.downRefusal ⟨d, 14, kind, payload⟩ = some r) : refused d r := by
    show exec _ s = _
    rw [taken d h0 hd, State.passDown_refused h]
  have isQueued (d : BitVec 4) (h0 : d ≠ 0) (hd : isDownwardDest d = true)
      (h : s.frameSeen.downRefusal ⟨d, 14, kind, payload⟩ = none) : queued d := by
    show exec _ s = _
    rw [taken d h0 hd, State.passDown_queued h, State.frameSeen_forwardQ]
  have group := s.frameSeen.downRefusal_group 14 kind payload
  simp only [State.frameSeen_otherPresent, State.frameSeen_passes, State.frameSeen_forwardQ] at group
  refine ⟨fun i => ?_, fun h => ?_, fun h => ?_, fun h row => State.passes_of_none h row kind,
    fun a ha row => s.passes_iff a ha row kind,
    fun r => ⟨guardedDown_iff r kind, consumedUp_iff r kind⟩⟩
  · have slot := s.frameSeen.downRefusal_slot i 14 kind payload
    simp only [State.frameSeen_slots, State.frameSeen_passes, State.frameSeen_forwardQ] at slot
    have h0 := slotAddress_ne_zero i
    have hd := isDownwardDest_slotAddress i
    dsimp only
    split
    · next h1 => exact isRefused _ h0 hd _ (slot.trans (if_pos h1))
    · next h1 =>
      rw [if_neg h1] at slot
      split
      · next h2 => exact isRefused _ h0 hd _ (slot.trans (if_pos h2))
      · next h2 =>
        rw [if_neg h2] at slot
        split
        · next h3 => exact isRefused _ h0 hd _ (slot.trans (if_pos h3))
        · next h3 => exact isQueued _ h0 hd (slot.trans (if_neg h3))
  · have ho : s.otherPresent = false := Bool.eq_false_iff.2 fun hp => by
      obtain ⟨i, hr, hp⟩ := s.otherPresent_iff.1 hp
      rw [h i hr] at hp
      cases hp
    exact isRefused 15 (by decide) rfl _ (group.trans (if_pos ho))
  · rw [if_neg (by rw [s.otherPresent_iff.2 h]; decide)] at group
    split
    · next h2 => exact isRefused 15 (by decide) rfl _ (group.trans (if_pos h2))
    · next h2 =>
      rw [if_neg h2] at group
      split
      · next h3 => exact isRefused 15 (by decide) rfl _ (group.trans (if_pos h3))
      · next h3 => exact isQueued 15 (by decide) rfl (group.trans (if_neg h3))

/-! ## UNSET (R18) -/

/-- In UNSET a request that SETUP must precede is refused. -/
theorem State.takeRequest_unset {i : Instr} {f : Frame} {s : State} (hf : frameOfRequest i = some f) (hu : s.part = .unset)
    (h2 : f.kind ≠ Kind.setup) (h3 : f.kind ≠ Kind.alive) (h4 : f.kind ≠ Kind.query) (h7 : f.kind ≠ Kind.load) :
    s.takeRequest i = s.refuse f.kind .setup := by
  have gated (k : Byte) (serve : State → State) : s.gated k serve = s.refuse k .setup := if_pos hu
  cases i
  case setup => cases hf; exact absurd rfl h2
  case alive => cases hf; exact absurd rfl h3
  case query => cases hf; exact absurd rfl h4
  case load => cases hf; exact absurd rfl h7
  all_goals first
    | (cases hf; exact gated _ _)
    | cases hf

/-- A LOAD that keeps the format is refused in UNSET. -/
theorem State.takeLoad_unset (k : TableKind) (g : Word16) (index total : Byte) (check count : Word16) (es : List Byte) {s : State}
    (hu : s.part = .unset) (hl : loadFormatOk k g.toNat index.toNat es (s.loads.get k) = true) :
    s.takeLoad k g index total check count es = s.refuseLoad k .setup := by
  unfold State.takeLoad
  rw [hl, if_neg (by decide), if_pos hu]

/-- Settles O23: the gate of UNSET, for requests and for downward frames. -/
theorem unsetRefusesRequests : Obligations.UnsetRefusesRequests := by
  intro s ht hu
  have hu' : s.frameSeen.part = .unset := by simpa using hu
  refine ⟨fun i f hf h2 h3 h4 h7 => ?_, fun k g index total check count es hl => ?_, fun i kind p => ?_, fun kind p => ?_⟩
  · rw [exec_request hf ht, State.takeRequest_unset hf hu' h2 h3 h4 h7]
  · rw [exec_request rfl ht]
    show Host.Outcome.next (State.transmit (State.takeLoad _ _ _ _ _ _ _ _)) = _
    rw [State.takeLoad_unset k g index total check count es hu' (by simpa using hl), State.refuseLoad, State.frameSeen_loads]
  · rw [exec_downwardFrame _ kind p ht (slotAddress_ne_zero i) (isDownwardDest_slotAddress i), State.disposeDownward, if_pos hu']
  · rw [exec_downwardFrame 15 kind p ht (by decide) rfl, State.disposeDownward, if_pos hu']

end Sys2Proof.Machine
end

section
/-! PROOFS. SETUP (R16, R19), the queries (R29), and the requests that break the format (R5, R177, R178). -/

namespace Sys2Proof.Machine

/-! ## SETUP (R16, R19) -/

/-- At most one element passes exactly if no two places pass. -/
theorem filter_length_le_one_iff {α : Type} (p : α → Bool) (l : List α) :
    (l.filter p).length ≤ 1 ↔ l.Pairwise fun a b => ¬(p a = true ∧ p b = true) := by
  induction l with
  | nil => simp
  | cons x xs ih =>
    rw [List.pairwise_cons, ← ih]
    by_cases hx : p x = true
    · rw [List.filter_cons_of_pos hx, List.length_cons, Nat.succ_le_succ_iff, Nat.le_zero,
        List.length_eq_zero_iff, List.filter_eq_nil_iff]
      constructor
      · intro h
        exact ⟨fun b hb hp => h b hb hp.2, by rw [List.filter_eq_nil_iff.2 h]; exact Nat.zero_le 1⟩
      · exact fun h b hb hp => h.1 b hb ⟨hx, hp⟩
    · rw [List.filter_cons_of_neg hx]
      exact ⟨fun h => ⟨fun b _ hp => hx hp.1, h⟩, fun h => h.2⟩

/-- At most one of six codes passes exactly if no two slots' codes do. -/
theorem vector_filter_le_one_iff {α : Type} (p : α → Bool) (v : Vector α 6) :
    (v.toList.filter p).length ≤ 1 ↔ ∀ i j, p (v.get i) = true → p (v.get j) = true → i = j := by
  rw [filter_length_le_one_iff, List.pairwise_iff_getElem]
  simp only [Vector.getElem_toList, Vector.length_toList, Vector.get_eq_getElem]
  constructor
  · intro h i j hi hj
    rcases Nat.lt_trichotomy i.val j.val with hlt | heq | hgt
    · exact absurd ⟨hi, hj⟩ (h i.val j.val i.isLt j.isLt hlt)
    · exact Fin.ext heq
    · exact absurd ⟨hj, hi⟩ (h j.val i.val j.isLt i.isLt hgt)
  · intro h i j hi hj hlt hp
    exact absurd (congrArg Fin.val (h ⟨i, hi⟩ ⟨j, hj⟩ hp.1 hp.2)) (Nat.ne_of_lt hlt)

/-- The M-line rates (R1, R177). -/
theorem mRateOf_eq (b : Byte) : mRateOf b = if b.toNat ≤ 2 then some (9600 * 2 ^ b.toNat) else none := by
  revert b; decide +kernel

/-- The role of a code that names one (R177). -/
def roleNamed (b : Byte) : Role := if b = 0 then .none else if b = 1 then .card else if b = 2 then .printer else .other

theorem roleOf_eq (b : Byte) : roleOf b = if b.toNat ≤ 3 then some (roleNamed b) else none := by
  revert b; decide +kernel

theorem rolesOf_eq (codes : Vector Byte 6) :
    rolesOf codes = if ∀ i, (codes.get i).toNat ≤ 3 then some (codes.map roleNamed) else none := by
  have named (b : Byte) (h : b.toNat ≤ 3) : (roleOf b).getD .none = roleNamed b := by rw [roleOf_eq, if_pos h]; rfl
  have isNamed (b : Byte) : (roleOf b).isSome = true ↔ b.toNat ≤ 3 := by
    rw [roleOf_eq]
    split <;> simp_all
  have all : (codes.toList.all fun c => (roleOf c).isSome) = true ↔ ∀ i, (codes.get i).toNat ≤ 3 := by
    rw [List.all_eq_true]
    simp only [isNamed, Vector.mem_toList_iff, Vector.mem_iff_getElem, Vector.get_eq_getElem]
    exact ⟨fun h i => h _ ⟨i.val, i.isLt, rfl⟩, fun h x ⟨i, hi, e⟩ => e ▸ h ⟨i, hi⟩⟩
  unfold rolesOf
  by_cases h : ∀ i, (codes.get i).toNat ≤ 3
  · rw [if_pos (all.2 h), if_pos h]
    congr 1
    ext i hi
    simp only [Vector.getElem_map]
    exact named _ (h ⟨i, hi⟩)
  · rw [if_neg (fun hc => h (all.1 hc)), if_neg h]

/-- No two slots have a role exactly if no two codes name it. -/
theorem roleCount_le_one_iff {r : Role} {c : Byte} (hr : ∀ b, (roleNamed b == r) = true ↔ b = c) (codes : Vector Byte 6) :
    roleCount r (codes.map roleNamed) ≤ 1 ↔ ∀ i j, codes.get i = c → codes.get j = c → i = j := by
  unfold roleCount
  rw [vector_filter_le_one_iff]
  simp only [Vector.get_eq_getElem, Vector.getElem_map, hr]

theorem silenceOk_iff (n : Nat) : silenceOk n = true ↔ n ≠ 1 ∧ n ≤ 60 := by
  simp only [silenceOk, Bool.or_eq_true, Bool.and_eq_true, beq_iff_eq, decide_eq_true_iff]
  omega

/-- What makes a SETUP acceptable (R19, R177). -/
structure SetupInRange (machine : Word16) (rate : Byte) (codes : Vector Byte 6) (silence : Byte) : Prop where
  machine_ne : machine ≠ 0
  rate_le : rate.toNat ≤ 2
  codes_le : ∀ i, (codes.get i).toNat ≤ 3
  oneCard : ∀ i j, codes.get i = 1 → codes.get j = 1 → i = j
  onePrinter : ∀ i j, codes.get i = 2 → codes.get j = 2 → i = j
  silence_ok : silence.toNat ≠ 1 ∧ silence.toNat ≤ 60

theorem roleNamed_card (b : Byte) : (roleNamed b == .card) = true ↔ b = 1 := by revert b; decide +kernel

theorem roleNamed_printer (b : Byte) : (roleNamed b == .printer) = true ↔ b = 2 := by revert b; decide +kernel

theorem State.serveSetup_state {s : State} (id : Word16) (rate : Byte) (codes : Vector Byte 6) (silence : Byte)
    (h : s.part ≠ .unset) : s.serveSetup id rate codes silence = s.refuse Kind.setup .state := if_pos h

/-- A SETUP in range in UNSET is accepted. -/
theorem State.serveSetup_accepted {s : State} {id : Word16} {rate : Byte} {codes : Vector Byte 6} {silence : Byte}
    (h : s.part = .unset) (hr : SetupInRange id rate codes silence) :
    s.serveSetup id rate codes silence =
      (s.setUp id.toNat (9600 * 2 ^ rate.toNat) (codes.map roleNamed) silence.toNat).reply Kind.setup .accepted := by
  unfold State.serveSetup
  rw [if_neg (not_not.2 h), mRateOf_eq, if_pos hr.rate_le, rolesOf_eq, if_pos hr.codes_le]
  have hc := (roleCount_le_one_iff roleNamed_card codes).2 hr.oneCard
  have hp := (roleCount_le_one_iff roleNamed_printer codes).2 hr.onePrinter
  have hs := (silenceOk_iff silence.toNat).2 hr.silence_ok
  refine if_neg ?_
  rw [hs]
  rintro (h | h | h | h)
  · exact hr.machine_ne h
  · omega
  · omega
  · cases h

/-- A SETUP out of range in UNSET is refused. -/
theorem State.serveSetup_range {s : State} {id : Word16} {rate : Byte} {codes : Vector Byte 6} {silence : Byte}
    (h : s.part = .unset) (hr : ¬SetupInRange id rate codes silence) :
    s.serveSetup id rate codes silence = s.refuse Kind.setup .range := by
  unfold State.serveSetup
  rw [if_neg (not_not.2 h), mRateOf_eq, rolesOf_eq]
  by_cases h1 : rate.toNat ≤ 2
  · by_cases h2 : ∀ i, (codes.get i).toNat ≤ 3
    · rw [if_pos h1, if_pos h2]
      refine if_pos ?_
      by_contra hc
      simp only [not_or, Nat.not_lt, Bool.not_eq_true', Bool.not_eq_false] at hc
      obtain ⟨h3, h4, h5, h6⟩ := hc
      exact hr ⟨h3, h1, h2, (roleCount_le_one_iff roleNamed_card codes).1 h4, (roleCount_le_one_iff roleNamed_printer codes).1 h5,
        (silenceOk_iff _).1 h6⟩
    · rw [if_pos h1, if_neg h2]
  · rw [if_neg h1]

/-- A slot as its code has SETUP leave it. -/
theorem assigned_roleNamed {b : Byte} :
    Slot.assigned (roleNamed b) = if b = 0 then ⟨.none, false, 0, .off⟩
      else ⟨if b = 1 then .card else if b = 2 then .printer else .other, false, 0, .due⟩ := by
  revert b; decide +kernel

/-- Settles O24: the three outcomes of SETUP. -/
theorem setupMakesReady : Obligations.SetupMakesReady := by
  intro id rate codes silence s ht inRange
  have hr : inRange ↔ SetupInRange id rate codes silence :=
    ⟨fun ⟨h1, h2, h3, h4, h5, h6⟩ => ⟨h1, h2, h3, h4, h5, h6⟩,
      fun h => ⟨h.machine_ne, h.rate_le, h.codes_le, h.oneCard, h.onePrinter, h.silence_ok⟩⟩
  have taken : exec (.setup id rate codes silence) s = .next (s.frameSeen.serveSetup id rate codes silence).transmit :=
    exec_request rfl ht
  rw [hr, taken]
  have hp := s.frameSeen_part
  have hslots : (s.frameSeen.setUp id.toNat (9600 * 2 ^ rate.toNat) (codes.map roleNamed) silence.toNat).slots =
      (codes.map roleNamed).map Slot.assigned := State.entryTest_slots _
  refine ⟨fun hu => ?_, fun hu h => ?_, fun hu h =>
    ⟨s.frameSeen.setUp id.toNat (9600 * 2 ^ rate.toNat) (codes.map roleNamed) silence.toNat, ?_, ?_, fun i => ?_⟩⟩
  · rw [State.serveSetup_state _ _ _ _ (by rwa [hp])]
  · rw [State.serveSetup_range (by rwa [hp]) h]
  · rw [State.serveSetup_accepted (by rwa [hp]) h]
  · have hsilence : decide (silence ≠ 0) = (silence.toNat != 0) := by
      rw [bne_zero_eq_decide, decide_eq_decide, ne_eq, ne_eq, BitVec.toNat_eq]
      rfl
    rw [hslots, hsilence]
    exact State.entryTest_tested _
  · rw [hslots, ← assigned_roleNamed]
    simp [Vector.get_eq_getElem]

/-! ## Queries (R29) -/

/-- A valid frame leaves what a QUERY shows as it is. -/
theorem State.frameSeen_queryBody (topic index : Nat) (s : State) :
    s.frameSeen.queryBody topic index = s.queryBody topic index := by
  unfold State.queryBody
  simp [State.tubesView, State.tubeCount, State.tubeCapacity, State.tubeLowMark, State.tubeEntry, State.coinTable, State.tableView,
    State.purchaseView]

/-- The state header after a valid frame. -/
theorem State.frameSeen_header (s : State) :
    s.frameSeen.header = ⟨s.part, false, s.inhibit, 11 - generalCount s.frameSeen.reports - s.reserved⟩ := by
  simp [State.header, State.freeSlots, Config.generalSlots]

/-- A query with an answer, of another topic than LINES, changes nothing. -/
theorem State.serveQuery_answer {topic index : Byte} {s : State} {b : QueryBody} (ht : topic ≠ 3)
    (h : s.queryBody topic.toNat index.toNat = some b) :
    s.serveQuery topic index = s.reply Kind.query (.query s.header b) := by
  unfold State.serveQuery
  rw [h, if_neg ht]

theorem State.serveQuery_range {topic index : Byte} {s : State} (h : s.queryBody topic.toNat index.toNat = none) :
    s.serveQuery topic index = s.refuse Kind.query .range := by
  unfold State.serveQuery
  rw [h]

/-- LINES answers the ten tallies and clears them (R4). -/
theorem State.serveQuery_lines (s : State) : s.serveQuery 3 0 =
    s.clearTallies.reply Kind.query (.query s.header (.lines s.cRx.tallies s.mRx.tallies)) := rfl

/-- A topic or an index outside its range has no answer (R29). -/
theorem State.queryBody_none {topic index : Nat} (s : State) (h : 6 < topic ∨ (topic = 0 ∧ 1 < index) ∨ (topic = 2 ∧ 7 < index) ∨
    (topic = 4 ∧ 4 < index) ∨ ((topic = 1 ∨ topic = 3 ∨ topic = 5 ∨ topic = 6) ∧ index ≠ 0)) : s.queryBody topic index = none := by
  unfold State.queryBody
  split
  case h_4 => exact if_neg (by omega)
  case h_13 => rfl
  all_goals omega

/-- The snapshot of a table kind stands under its code. -/
theorem State.queryBody_table (k : TableKind) (s : State) :
    s.queryBody 4 (TableKind.code k).toNat = some (.tables (s.tableView k)) := by
  cases k <;> rfl

/-- Settles O25: the answer of each topic, and the refusal outside their ranges. -/
theorem queryAnswers : Obligations.QueryAnswers := by
  intro s ht u answer
  have taken (topic index : Byte) : exec (.query topic index) s = .next (u.serveQuery topic index).transmit := exec_request rfl ht
  have answered (topic index : Byte) (b : QueryBody) (hn : topic ≠ 3) (h : s.queryBody topic.toNat index.toNat = some b) :
      exec (.query topic index) s = .next (answer b).transmit := by
    rw [taken, State.serveQuery_answer hn ((State.frameSeen_queryBody _ _ s).trans h), State.frameSeen_header]
  refine ⟨exec_request rfl ht, answered 0 0 _ (by decide) rfl, answered 0 1 _ (by decide) rfl, answered 1 0 _ (by decide) rfl,
    fun i hi => answered 2 i _ (by decide) (if_pos hi), ?_, fun k => answered 4 _ _ (by decide) (s.queryBody_table k),
    answered 5 0 _ (by decide) rfl, answered 6 0 _ (by decide) rfl, fun topic index h => ?_⟩
  · have hc : u.clearTallies = { u with cRx := { s.cRx with tallies := .zero }, mRx := { s.mRx with tallies := .zero } } := by
      unfold State.clearTallies
      rw [State.frameSeen_cRx, State.frameSeen_mRx]
    rw [taken, State.serveQuery_lines, hc, State.frameSeen_header, State.frameSeen_cRx, State.frameSeen_mRx]
    rfl
  · rw [taken, State.serveQuery_range]
    refine u.queryBody_none ?_
    simp only [BitVec.toNat_eq, ne_eq] at h
    exact h

end Sys2Proof.Machine
end

section
/-! PROOFS. The requests that break the format (R5, R102, R177, R178). -/

namespace Sys2Proof.Machine

/-! ## Bytes without a meaning -/

theorem tableKindOf_none {b : Byte} (h : 4 < b.toNat) : tableKindOf b = none := by
  unfold tableKindOf
  split <;> first
    | omega
    | rfl

/-- A code names one table kind. -/
theorem tableKindOf_eq_some {b : Byte} {k : TableKind} (h : tableKindOf b = some k) : b = TableKind.code k := by
  revert h
  revert b k
  have all : ∀ b : Byte, ∀ k ∈ [TableKind.coin, .fare, .hotlist, .passage, .template],
      tableKindOf b = some k → b = TableKind.code k := by
    decide +kernel
  exact fun {b k} => all b k (by cases k <;> decide)

theorem flagOf_none {b : Byte} (h : 1 < b.toNat) : flagOf b = none := by
  revert h; revert b; decide +kernel

theorem mediumOf_none {b : Byte} (h : 1 < b.toNat) : mediumOf b = none := by
  revert h; revert b; decide +kernel

/-! ## Lengths of requests (R177) -/

theorem setupOf_length {p : List Byte} {i : Instr} (h : setupOf p = some i) : p.length = 10 := by
  unfold setupOf at h
  split at h
  · rfl
  · cases h

theorem activateOf_length {p : List Byte} {i : Instr} (h : activateOf p = some i) : p.length = 10 := by
  unfold activateOf at h
  split at h
  · rfl
  · cases h

theorem sellOf_length {p : List Byte} {i : Instr} (h : sellOf p = some i) : p.length = 5 := by
  unfold sellOf at h
  split at h
  · rfl
  · cases h

theorem flagRequest_length {f : Bool → Instr} {p : List Byte} {i : Instr} (h : flagRequest f p = some i) : p.length = 1 := by
  unfold flagRequest at h
  split at h
  · rfl
  · cases h

theorem bare_length {j : Instr} {p : List Byte} {i : Instr} (h : bare j p = some i) : p.length = 0 := by
  unfold bare at h
  split at h
  · next he => rw [List.isEmpty_iff.1 he]; rfl
  · cases h

theorem shortOf_length {k : Nat} {p : List Byte} {i : Instr} (h : shortOf k p = some i) : requestLength k = some p.length := by
  unfold shortOf at h
  split at h
  all_goals first
    | rfl
    | cases h

/-- A request has its KIND's length, but for LOAD. -/
theorem requestOf_length {kind : Byte} {p : List Byte} {i : Instr} (h : requestOf kind p = some i) :
    kind.toNat = 7 ∨ requestLength kind.toNat = some p.length := by
  unfold requestOf at h
  split at h
  case h_2 hk | h_8 hk | h_9 hk | h_10 hk | h_11 hk | h_12 hk | h_13 hk | h_14 hk => right; rw [hk, bare_length h]; rfl
  case h_3 hk | h_4 hk => right; rw [hk, flagRequest_length h]; rfl
  · next hk => right; rw [hk, setupOf_length h]; rfl
  · next hk => left; exact hk
  · next hk => right; rw [hk, activateOf_length h]; rfl
  · next hk => right; rw [hk, sellOf_length h]; rfl
  · right; exact shortOf_length h

/-- The KINDs of requests that have a length of their own are 2 to 21 but 7 (R177). -/
theorem requestLength_range {k n : Nat} (h : requestLength k = some n) : 2 ≤ k ∧ k ≤ 21 ∧ k ≠ 7 := by
  unfold requestLength at h
  split at h
  all_goals first
    | exact ⟨by decide, by decide, by decide⟩
    | cases h

/-- A KIND that no request has spells none. -/
theorem requestOf_unknown {kind : Byte} (p : List Byte) (h : kind.toNat < 2 ∨ 21 < kind.toNat) : requestOf kind p = none := by
  rw [Option.eq_none_iff_forall_ne_some]
  intro i hi
  rcases requestOf_length hi with h7 | hn
  · omega
  · have := requestLength_range hn
    omega

/-- A frame of another length than its KIND's spells none. -/
theorem requestOf_count {kind : Byte} {p : List Byte} {n : Nat} (hn : requestLength kind.toNat = some n) (hl : p.length ≠ n) :
    requestOf kind p = none := by
  rw [Option.eq_none_iff_forall_ne_some]
  intro i hi
  have h7 := (requestLength_range hn).2.2
  rw [(requestOf_length hi).resolve_left h7] at hn
  exact hl (Option.some.inj hn)

/-- Malformed frames spell no request (R5, R177). -/
theorem requestOf_malformed {kind : Byte} {p : List Byte} (h : Malformed kind p) : requestOf kind p = none := by
  cases h with
  | unknown _ _ h => exact requestOf_unknown p h
  | count _ _ n hn hl => exact requestOf_count hn hl
  | loadShort _ h =>
    show loadOf p = none
    unfold loadOf
    split
    · simp only [List.length_cons] at h; omega
    · rfl
  | firstShort k a b total rest h =>
    show (tableKindOf k).bind _ = none
    rw [Option.bind_eq_none_iff]
    intro kind hk
    match rest, h with
    | [], _ | [_], _ | [_, _], _ | [_, _, _], _ => rfl
  | table _ k rest hk h =>
    have hkind : kind.toNat = 7 ∨ kind.toNat = 8 ∨ kind.toNat = 9 := by omega
    unfold requestOf
    rcases hkind with hkind | hkind | hkind
    all_goals rw [hkind]
    · show loadOf (k :: rest) = none
      unfold loadOf
      split
      · next heq => cases heq; rw [tableKindOf_none h]; rfl
      · rfl
    · show shortOf 8 (k :: rest) = none
      unfold shortOf
      split
      all_goals first
        | rfl
        | (next heq _ => cases heq)
        | (next heq => cases heq; rw [tableKindOf_none h]; rfl)
    · show activateOf (k :: rest) = none
      unfold activateOf
      split
      · next heq => cases heq; rw [tableKindOf_none h]; rfl
      · rfl
  | switch _ b hk h =>
    unfold requestOf
    rcases hk with hk | hk
    all_goals
      rw [hk]
      show (flagOf b).map _ = none
      rw [flagOf_none h]
      rfl
  | receipt a b r h =>
    show (flagOf r).map _ = none
    rw [flagOf_none h]
    rfl
  | sale product zones concession medium keep h =>
    show (if h : concession.toNat < 8 then (mediumOf medium).bind fun m => (flagOf keep).map fun k =>
      Instr.sell product zones ⟨concession.toNat, h⟩ m k else none) = none
    split
    · rcases h with h | h | h
      · omega
      · rw [mediumOf_none h]; rfl
      · rw [flagOf_none h]; simp
    · rfl
  | due k a b x rest h =>
    show activateOf (k :: a :: b :: x :: rest) = none
    unfold activateOf
    split
    · next heq =>
      cases heq
      have h0 : x ≠ 0 := fun e => by rw [e] at h; exact absurd h (by decide)
      have h1 : x ≠ 1 := fun e => by rw [e] at h; exact absurd h (by decide)
      simp only [if_neg h0, if_neg h1]
      simp
    · rfl
  | point k a b y rest hy h0 =>
    have hz : ¬List.all rest (· == 0) = true := fun hz => h0 (by simpa using List.all_eq_true.1 hz y hy)
    show activateOf (k :: a :: b :: 0 :: rest) = none
    unfold activateOf
    split
    · next heq =>
      cases heq
      rw [Option.bind_eq_none_iff]
      intro kind _
      rw [if_pos rfl, if_neg hz]
    · rfl

/-! ## Refusals for the format (R5, R177) -/

/-- A frame to the part that spells no request is refused with its own KIND. -/
theorem exec_malformed {s : State} {kind : Byte} {p : List Byte} (ht : TakesFrames s) (h : Malformed kind p) :
    exec (.cLineFrame ⟨0, 14, kind, p⟩) s = .next (s.frameSeen.refuseFormat kind p).transmit := by
  have e : s.frameSeen.disposeFrame ⟨0, 14, kind, p⟩ = s.frameSeen.disposeRequest kind p := rfl
  rw [exec_cLineFrame _ ht, e, State.disposeRequest, requestOf_malformed h]

theorem State.refuseFormat_load {p : List Byte} {k : TableKind} (s : State) (h : p.head? = some (TableKind.code k)) :
    s.refuseFormat Kind.load p = s.refuseLoad k .format := by
  have hk : p.head?.bind tableKindOf = some k := by rw [h]; exact tableKindOf_code k
  unfold State.refuseFormat
  rw [if_pos rfl, hk]

theorem State.refuseFormat_plain {kind : Byte} {p : List Byte} (s : State)
    (h : kind ≠ Kind.load ∨ ∀ k : TableKind, p.head? ≠ some (TableKind.code k)) :
    s.refuseFormat kind p = s.refuse kind .format := by
  have hn : (if kind = Kind.load then p.head?.bind tableKindOf else none) = none := by
    split
    · next hk =>
      rw [Option.bind_eq_none_iff]
      intro b hb
      rw [Option.eq_none_iff_forall_ne_some]
      intro k hc
      exact h.resolve_left (not_not.2 hk) k (by rw [hb, tableKindOf_eq_some hc])
    · rfl
  unfold State.refuseFormat
  rw [hn]

/-- A LOAD whose entries break the format is refused, whatever the part state. -/
theorem exec_load_format {s : State} {k : TableKind} {g : Word16} {index : Byte} {es : List Byte} (total : Byte)
    (check count : Word16)
    (ht : TakesFrames s) (h : loadFormatOk k g.toNat index.toNat es (s.loads.get k) = false) :
    exec (.load k g index total check count es) s =
      .next (s.frameSeen.reply Kind.load (.refusedLoad .format (s.loads.get k).view)).transmit := by
  rw [exec_request rfl ht]
  show Host.Outcome.next (State.transmit (State.takeLoad _ _ _ _ _ _ _ _)) = _
  unfold State.takeLoad
  rw [State.frameSeen_loads, h, if_pos (by decide), State.refuseLoad, State.frameSeen_loads]

/-! ## Entries that break their layout (R178) -/

theorem allZero_eq_false {bs : List Byte} (h : ∃ b ∈ bs, b ≠ 0) : allZero bs = false := by
  obtain ⟨b, hb, h0⟩ := h
  unfold allZero
  rw [List.all_eq_false]
  exact ⟨b, hb, by simpa using h0⟩

/-- Entry bytes that are no whole number of entries break the format. -/
theorem loadFormatOk_length {k : TableKind} (g index : Nat) {es : List Byte} (l : Load) (h : es.length % entrySize k ≠ 0) :
    loadFormatOk k g index es l = false := by
  unfold loadFormatOk
  rw [beq_false_of_ne h, Bool.false_and]

/-- An entry that breaks the layout its position gives it breaks the LOAD's format. -/
theorem loadFormatOk_entry {k : TableKind} {g index : Nat} {es : List Byte} {l : Load} {n : Nat} {e : List Byte}
    (he : (entriesOf k es)[n]? = some e)
    (h : formatOk (layoutAt k (headerFor (l.heldFor g) index (entriesOf k es)) (basePosition (l.heldFor g) index + n)) e = false) :
    loadFormatOk k g index es l = false := by
  have hmem : (e, n) ∈ (entriesOf k es).zipIdx := List.mem_zipIdx_iff_getElem?.2 he
  unfold loadFormatOk
  rw [Bool.and_eq_false_iff]
  exact .inr (List.all_eq_false.2 ⟨(e, n), hmem, by simpa using h⟩)

/-- A template line with text beyond its length breaks the format. -/
theorem loadFormatOk_line {g index : Nat} {es : List Byte} {l : Load} {e : List Byte} (he : e ∈ entriesOf .template es)
    (h : ∃ b ∈ e.drop (3 + byteAt e 2), b ≠ 0) : loadFormatOk .template g index es l = false := by
  obtain ⟨n, hn⟩ := List.mem_iff_getElem?.1 he
  exact loadFormatOk_entry hn (allZero_eq_false h)

/-- What breaks each layout. -/
theorem formatOk_broken (e : List Byte) :
    ((1 < byteAt e 0 ∨ ∃ b ∈ e.drop 15, b ≠ 0) → formatOk .coinEntry e = false) ∧
      ((∃ b ∈ e.drop 3, b ≠ 0) → formatOk .tubeEntry e = false) ∧
      ((∃ b ∈ e.drop 13, b ≠ 0) → formatOk .fareHeader e = false) ∧ ((∃ b ∈ e.drop 1, b ≠ 0) → formatOk .fareClass e = false) ∧
      ((2 < byteAt e 17 ∨ 2 < byteAt e 29 ∨ 1 < byteAt e 32 ∨ (byteAt e 32 = 0 ∧ field 33 4 e ≠ 0) ∨ 4 ≤ byteAt e 38) →
        formatOk .product e = false) ∧
      ((128 ≤ byteAt e 0 ∨ ∃ b ∈ e.drop 10, b ≠ 0) → formatOk .band e = false) := by
  refine ⟨fun h => ?_, allZero_eq_false, allZero_eq_false, allZero_eq_false, fun h => ?_, fun h => ?_⟩
  · show (decide (byteAt e 0 ≤ 1) && allZero (e.drop 15)) = false
    rcases h with h | h
    · rw [decide_eq_false (Nat.not_le.2 h), Bool.false_and]
    · rw [allZero_eq_false h, Bool.and_false]
  · rw [← Bool.not_eq_true]
    intro hc
    simp only [formatOk, productFormatOk, Bool.and_eq_true, Bool.or_eq_true, decide_eq_true_eq, beq_iff_eq] at hc
    omega
  · show (allZero (e.drop 10) && decide (byteAt e 0 < 128)) = false
    rcases h with h | h
    · rw [decide_eq_false (Nat.not_lt.2 h), Bool.and_false]
    · rw [allZero_eq_false h, Bool.false_and]

/-- Past the classes, with no product count held, an entry that is neither a product nor a band breaks the format. -/
theorem formatOk_unknown {pos : Nat} {e : List Byte} (h : 9 ≤ pos) (hp : formatOk .product e = false)
    (hb : formatOk .band e = false) :
    formatOk (layoutAt .fare none pos) e = false := by
  have hl : layoutAt .fare none pos = .unknown := by
    unfold layoutAt
    dsimp only
    rw [if_neg (by omega), if_neg (by omega)]
  rw [hl]
  show (formatOk .product e || formatOk .band e) = false
  rw [hp, hb]
  rfl

/-- Settles O19: the readings that fail, and the entries that break a layout. -/
theorem malformedRequestRefused : Obligations.MalformedRequestRefused := by
  intro s ht
  refine ⟨fun kind p h => ⟨fun k hk hc => ?_, fun hk => ?_⟩, fun k g index total check count es h => exec_load_format _ _ _ ht h,
    fun k g index es l h => loadFormatOk_length g index l h, fun g index es l e he h => loadFormatOk_line he h,
    fun k g index es l n e he h => loadFormatOk_entry he h, formatOk_broken, fun pos e h hp hb => formatOk_unknown h hp hb,
    fun held index es i hi hj => ⟨fun e rest he => ?_, fun hn => ?_⟩⟩
  · subst hk
    rw [exec_malformed ht h, State.refuseFormat_load _ hc, State.refuseLoad, State.frameSeen_loads]
  · rw [exec_malformed ht h, State.refuseFormat_plain _ hk]
  · rw [headerFor_at held index es i hi hj (by rw [he]; simp), he]
    rfl
  · rw [headerFor_at held index es i hi hj (by rw [hn]; simp), hn]
    rfl

end Sys2Proof.Machine
end

section
/-! PROOFS. The starts (R101, R172 to R175) and the reset state. -/

namespace Sys2Proof.Machine

/-! ## What a start leaves -/

/-- The first period moves the coils alone. -/
theorem State.firstPeriod_frame (s : State) : s.firstPeriod = { s with coils := s.firstPeriod.coils } := by
  unfold State.firstPeriod
  split <;> rfl

/-- With DVK as target and the quiet count 15, a period start begins DVK's pull-in where the non-overlap is at most 15
(R75, R83). -/
theorem periodStart_reset (h : CoinHeader) (hn : h.nonOverlap ≤ 15) : State.reset.coils.periodStart h = { State.reset.coils with
    coils := { State.reset.coils.coils with dvk := ⟨.pullIn, true, pullInCount h .dvk, false⟩ }
    target := none, quiet := 0, driven := true } := by
  have hq : (false || decide (15 < h.nonOverlap)) = false := decide_eq_false (Nat.not_lt.2 hn)
  have hc : State.reset.coils.changeover h = { State.reset.coils with
      coils := { State.reset.coils.coils with dvk := ⟨.pullIn, true, pullInCount h .dvk, false⟩ }
      target := none, quiet := 0, driven := true } := by
    show (if (false || decide (15 < h.nonOverlap)) = true then _ else _) = _
    rw [hq]
    rfl
  show { State.reset.coils.changeover h with driven := (State.reset.coils.changeover h).sideOn } = _
  rw [hc]
  rfl

/-- The start values with their low flags and the coils put. -/
def State.startedWith (r : Resolved) (c : Clock) (pins : Pins) (k : CoilDriver) (s : State) : State :=
  { (s.startValues r c pins).withLows with coils := k }

/-- The coils after a start. -/
def State.startedCoils (r : Resolved) (c : Clock) (pins : Pins) (s : State) : CoilDriver :=
  (s.startValues r c pins).withLows.firstPeriod.coils

theorem State.startedCoils_noTable {r : Resolved} (c : Clock) (pins : Pins) (s : State) (h : r.retained.coin = none) :
    s.startedCoils r c pins = State.reset.coils := by
  have ht : (s.startValues r c pins).withLows.coinTable = none := congrArg (Option.map Active.content) h
  unfold State.startedCoils State.firstPeriod
  rw [ht]
  rfl

theorem State.startedCoils_table {r : Resolved} {a : Active CoinTable} (c : Clock) (pins : Pins) (s : State)
    (h : r.retained.coin = some a) : s.startedCoils r c pins = State.reset.coils.periodStart a.content.header := by
  have ht : (s.startValues r c pins).withLows.coinTable = some a.content := congrArg (Option.map Active.content) h
  unfold State.startedCoils State.firstPeriod
  rw [ht]
  rfl

/-- The failing entry conditions are derived, and a report is issued into the empty queue (R64, R175). -/
def State.withStart (q : Report) (w : State) : State := { w with causes := w.failing, reports := [q] }

/-- A start's state before the transmitter's turn. -/
theorem State.boot_eq (cold : Bool) (cause : StartCause) (pins : Pins) (s : State) :
    s.boot cold cause pins =
      let r := if cold then coldResolve else warmResolve s.retained
      let c := if cold then s.clock.cold else s.clock.warm
      (s.startedWith r c pins (s.startedCoils r c pins)).withStart (.start (startReport cold cause r c)) :=
  congrArg (State.withStart _) (State.firstPeriod_frame _)

/-- The idle transmitter takes START at once. -/
theorem State.transmit_start {w : State} (q : Report) (hr : w.running = true) (hs : w.sending = none)
    (h1 : w.replies = []) (h2 : w.upwardQ = []) (hf : w.cRx.fifo = []) :
    (w.withStart q).transmit = { w with causes := w.failing, reports := [], sending := some ⟨q.frame, none⟩ } := by
  have idle := State.transmit_idle (s := w.withStart q) hr hs (by unfold State.frameWaits State.withStart; simp)
  have next : (w.withStart q).takeNext = { w with causes := w.failing, reports := [], sending := some ⟨q.frame, none⟩ } := by
    unfold State.takeNext State.withStart
    dsimp only
    rw [h1, h2]
  rw [idle, next]
  unfold State.runC
  rw [hf]
  rfl

/-- What a start over a resolved content leaves, once the idle transmitter has taken START. -/
theorem State.boot_started (cold : Bool) (cause : StartCause) (pins : Pins) (s : State) (hr : s.running = true) :
    Started (startReport cold cause (if cold then coldResolve else warmResolve s.retained)
        (if cold then s.clock.cold else s.clock.warm))
      (if cold then coldResolve else warmResolve s.retained).retained (if cold then s.clock.cold else s.clock.warm) pins s
      (s.boot cold cause pins).transmit := by
  rw [State.boot_eq]
  dsimp only
  generalize (if cold then coldResolve else warmResolve s.retained) = r
  generalize (if cold then s.clock.cold else s.clock.warm) = c
  rw [State.transmit_start (w := s.startedWith r c pins (s.startedCoils r c pins)) _ hr rfl rfl rfl rfl]
  refine ⟨rfl, fun i => ?_, rfl, fun hn => s.startedCoils_noTable c pins hn, fun a ha hl => ?_⟩
  · show (Vector.ofFn fun i : Fin 4 => { State.reset.tubes.get i with low := (s.startValues r c pins).isLow i }).get i = _
    simp only [Vector.get_eq_getElem, Vector.getElem_ofFn, State.reset, Vector.getElem_replicate]
    rfl
  · exact (s.startedCoils_table c pins ha).trans (periodStart_reset _ hl)

/-! ## The warm resolution (R101, R173) -/

/-- The content after the interrupted operation's resolution (R101, R173). -/
def operationResolved (r : Retained) : Retained :=
  match r.op with
  | none => r
  | some o =>
    if o.kind = .printedSale ∨ o.kind = .voucher then
      { r with ledger := { r.ledger with c := r.ledger.c + r.ledger.k, k := 0 }, op := none }
    else
      { r with ledger := { r.ledger with h := r.ledger.h + r.ledger.k, k := 0 }, op := none
               journal := r.journal.map fun j => if j.txn = o.txn then { j with state := .uncertain } else j }

theorem resolved_eq (r : Retained) : resolved r = { operationResolved r with
    ledger := { (operationResolved r).ledger with c := (operationResolved r).ledger.c + (operationResolved r).ledger.pp, pp := 0 }
    receiptMarker := none } := rfl

/-- The interrupted operation is voided or held by its kind, and the payout and the receipt marker wait. -/
theorem resolveOp_eq (r : Retained) : resolveOp r = (operationResolved r,
    r.op.map fun o => (o.kind, o.txn, if o.kind = .printedSale ∨ o.kind = .voucher then .voided else .uncertain)) := by
  unfold resolveOp operationResolved
  cases r.op with
  | none => rfl
  | some o =>
    dsimp only [Option.map_some]
    cases o.kind <;> rfl

theorem operationResolved_keeps (r : Retained) :
    (operationResolved r).ledger.pp = r.ledger.pp ∧ (operationResolved r).receiptMarker = r.receiptMarker := by
  unfold operationResolved
  split
  · exact ⟨rfl, rfl⟩
  · split <;> exact ⟨rfl, rfl⟩

/-- The whole of Pp goes to C, which is nothing where it is 0. -/
theorem resolvePayout_eq (r : Retained) : resolvePayout r =
    ({ r with ledger := { r.ledger with c := r.ledger.c + r.ledger.pp, pp := 0 } },
      if r.ledger.pp = 0 then none else some r.ledger.pp) := by
  unfold resolvePayout
  split
  · next h =>
    have hc : r.ledger.c + r.ledger.pp = r.ledger.c := by rw [h]; exact BitVec.add_zero _
    rw [hc, ← h]
  · rfl

/-- The warm start's resolution is what R101 and R173 say. -/
theorem warmResolve_eq (r : Retained) : warmResolve r = ⟨resolved r,
    r.op.map fun o => (o.kind, o.txn, if o.kind = .printedSale ∨ o.kind = .voucher then .voided else .uncertain),
    if r.ledger.pp = 0 then none else some r.ledger.pp, r.receiptMarker⟩ := by
  obtain ⟨hp, hm⟩ := operationResolved_keeps r
  unfold warmResolve
  rw [resolveOp_eq]
  dsimp only
  rw [resolvePayout_eq, resolved_eq]
  dsimp only
  rw [hm, hp]

/-- A warm start of a running part is what WarmStarted says. -/
theorem State.boot_warm (cause : StartCause) (pins : Pins) (s : State) (hr : s.running = true) :
    WarmStarted cause pins s (s.boot false cause pins).transmit := by
  have h := s.boot_started false cause pins hr
  rw [if_neg Bool.false_ne_true, if_neg Bool.false_ne_true, warmResolve_eq] at h
  exact h

/-- A cold start of a running part is what ColdStarted says. -/
theorem State.boot_cold (cause : StartCause) (pins : Pins) (s : State) (hr : s.running = true) :
    ColdStarted cause pins s (s.boot true cause pins).transmit := s.boot_started true cause pins hr

/-- A start that the retained check decides. -/
theorem State.checkedStart_started (cause : StartCause) (pins : Pins) (s : State) (hr : s.running = true) :
    (s.retainedGood = true → WarmStarted cause pins s (s.checkedStart cause pins).transmit) ∧
      (s.retainedGood = false → ColdStarted .check pins s (s.checkedStart cause pins).transmit) := by
  unfold State.checkedStart
  refine ⟨fun h => ?_, fun h => ?_⟩
  · rw [if_pos h]; exact s.boot_warm cause pins hr
  · rw [if_neg (by rw [h]; exact Bool.false_ne_true)]; exact s.boot_cold .check pins hr

/-- The return of main power, RESET not held, starts. -/
theorem exec_powerReturn {s : State} (pins : Pins) (h1 : s.power = false) (h2 : s.resetHeld = false) :
    exec (.powerReturn pins) s = .next (({ s with power := true } : State).checkedStart .power pins).transmit := by
  show (s.powerReturns pins).done = _
  unfold State.powerReturns
  rw [h1, if_neg Bool.false_ne_true]
  dsimp only
  rw [h2, if_neg Bool.false_ne_true]
  rfl

/-- The release of RESET, main power on, starts. -/
theorem exec_resetRelease {s : State} (pins : Pins) (h1 : s.power = true) (h2 : s.resetHeld = true) :
    exec (.resetRelease pins) s = .next (({ s with resetHeld := false } : State).checkedStart .reset pins).transmit := by
  show (s.resetReleases pins).done = _
  unfold State.resetReleases
  rw [h2, if_neg (by decide)]
  dsimp only
  rw [h1, if_pos rfl]
  rfl

/-- Settles O43: every start is a start over a resolved content, and the warm resolution is R173's. -/
theorem startsResolveAndClear : Obligations.StartsResolveAndClear := by
  intro pins s
  refine ⟨fun h1 h2 => ⟨_, exec_powerReturn pins h1 h2, ?_⟩, fun h1 h2 => ⟨_, exec_resetRelease pins h1 h2, ?_⟩,
    fun hr h => ⟨_, State.event_running _ hr, ?_⟩, fun hr h => ⟨_, State.event_running _ hr, ?_⟩⟩
  · exact State.checkedStart_started .power pins { s with power := true } (by simp [State.running, h2])
  · exact State.checkedStart_started .reset pins { s with resetHeld := false } (by simp [State.running, h1])
  · unfold State.startAfterReply
    rw [h]
    exact s.boot_warm .restart pins hr
  · unfold State.startAfterReply
    rw [h]
    exact s.boot_cold .clearAll pins hr

/-! ## The reset state -/

/-- The pins of the reset state: every level low, the sensors idle and the door closed. -/
def quietPins : Pins := ⟨false, false, ⟨false, false, false, false⟩, false⟩

/-- A cold start of cause CHECK with the pins of the reset state leaves the reset state. -/
theorem ColdStarted.reset {s t : State} (h : ColdStarted .check quietPins s t) (hp : s.power = true) (hr : s.resetHeld = false)
    (hc : s.clock.running = true) : t = { State.reset with pending := s.pending } := by
  obtain ⟨frame, tubes, causes, noTable, -⟩ := h
  have hlow (i : Fin 4) : t.isLow i = false := congrArg (fun u => u.isLow i) frame
  have htubes : t.tubes = State.reset.tubes := by
    have rest (i : Fin 4) : t.tubes.get i = Tube.rest := by rw [tubes i, hlow i]; rfl
    ext1 i hi
    rw [show State.reset.tubes[i] = Tube.rest from Vector.getElem_replicate hi]
    exact rest ⟨i, hi⟩
  have hcauses : t.causes = State.reset.causes := causes.trans (congrArg State.failing frame)
  rw [frame, htubes, hcauses, noTable rfl, hp, hr, hc]
  rfl

/-- Settles O3: the first power-up is a cold start. -/
theorem firstPowerUpIsReset : Obligations.FirstPowerUpIsReset := by
  intro s h1 h2 hg hc
  rw [exec_powerReturn _ h1 h2]
  exact congrArg _ (((State.checkedStart_started .power quietPins { s with power := true } (by simp [State.running, h2])).2 hg).reset
    rfl h2 hc)

theorem reset_lineQueues : LineQueues State.reset :=
  ⟨Nat.zero_le _, Nat.zero_le _, Nat.zero_le _, fun h => absurd rfl h, fun _ h => by cases h⟩

theorem reset_driveSafe : DriveSafe State.reset.coils State.reset.chute.state :=
  ⟨rfl, fun h => (by cases h), fun _ => rfl, fun h => (by cases h)⟩

theorem reset_moneyState : MoneyState State.reset.retained.op State.reset.retained.ledger.k State.reset.retained.ledger.pp
    State.reset.purchase State.reset.payout := by
  constructor
  · decide
  · decide
  · exact fun _ => rfl
  · exact fun _ => rfl

theorem reset_journalKept : JournalKept State.reset where
  depth := Nat.zero_le _
  cards := List.nodup_nil
  numbers := List.nodup_nil
  given := fun r h => by cases h
  held := rfl
  committed := fun o h => by cases h
  issued := fun r h => by cases h
  writes := fun o h => by cases h
  written := fun h => absurd rfl h
  prints := fun j h => by cases h

theorem reset_chuteKept : ChuteKept State.reset.chute State.reset.retained.ledger where
  fault := by decide
  stopped := fun _ => rfl
  runs := fun h => absurd rfl h
  idleWait := fun k h => by cases h
  flight := by decide
  decided := fun x h => by cases h
  within := fun x a h => by cases h

/-- Settles O4: each invariant of the reset state's own values. -/
theorem resetKeepsInvariants : Obligations.ResetKeepsInvariants :=
  ⟨rfl, ⟨Nat.zero_le _, fun _ _ _ => Nat.zero_le _⟩, reset_lineQueues, fun _ => ⟨rfl, rfl⟩, reset_driveSafe, reset_moneyState,
    reset_journalKept, rfl, reset_chuteKept⟩

end Sys2Proof.Machine
end

section
/-! PROOFS. Grants of the M-line (R13, R14). -/

namespace Sys2Proof.Machine

/-! ## The candidates (R13) -/

theorem State.mayGrant_iff (s : State) : s.mayGrant = true ↔ s.exchange = none ∧ s.part ≠ .unset ∧ s.upwardQ.length < 8 := by
  unfold State.mayGrant
  rw [Bool.and_eq_true, Bool.and_eq_true, decide_eq_true_iff, Option.isNone_iff_eq_none, bne_iff_ne]
  exact and_assoc

/-- Where the line may carry no exchange nothing is granted. -/
theorem State.grant_closed {s : State} (h : s.exchange ≠ none ∨ s.part = .unset ∨ 8 ≤ s.upwardQ.length) : s.grant = s := by
  have hn : ¬s.mayGrant = true := fun hm => by
    obtain ⟨hx, hp, hu⟩ := s.mayGrant_iff.1 hm
    rcases h with h | h | h
    · exact h hx
    · exact hp h
    · omega
  unfold State.grant
  rw [if_neg hn]

/-- No card write is owed that may go out: none owed, no CARD slot PRESENT, or a HOLD first (R137). -/
def State.noWrite (s : State) : Prop := (∀ w, s.card.write ≠ .owed w) ∨ s.presentOfRole .card = none ∨ s.card.owed = .hold

/-- The print unit owes no frame that may go out. -/
def State.noPrint (s : State) : Prop := s.presentOfRole .printer = none ∨ s.printer.owed = .none

/-- The card unit owes no HOLD or RELEASE that may go out. -/
def State.noCard (s : State) : Prop := s.presentOfRole .card = none ∨ s.card.owed = .none

/-- The forward queue has no head that may go out. -/
def State.noForward (s : State) : Prop := ∀ f rest, s.forwardQ = f :: rest →
  (∃ i : Fin 6, f.dest = slotAddress i ∧ (s.slots.get i).present = false) ∨ (f.dest = 15 ∧ s.otherPresent = false)

theorem State.grantWrite_none {s : State} (h : s.noWrite) : s.grantWrite = none := by
  unfold State.grantWrite
  split
  · next w i hw hc =>
    have : s.card.owed = .hold := by
      rcases h with h | h | h
      · exact absurd hw (h w)
      · rw [hc] at h; cases h
      · exact h
    rw [if_pos this]
  all_goals rfl

theorem State.grantWrite_some {s : State} {w : CardWrite} {i : Fin 6} (hw : s.card.write = .owed w)
    (hc : s.presentOfRole .card = some i) (hh : s.card.owed ≠ .hold) :
    s.grantWrite = some { s with
      card := { s.card with write := .sent w }, exchange := some ⟨.slot i, .cardWrite, cardWriteFrame i w⟩ } := by
  unfold State.grantWrite
  rw [hw, hc]
  dsimp only
  rw [if_neg hh]
  unfold State.onCard CardUnit.writeBegins
  rw [hw]
  rfl

theorem State.grantPrint_none {s : State} (h : s.noPrint) : s.grantPrint = none := by
  unfold State.grantPrint
  rcases h with h | h
  · rw [h]
  · rw [h]
    split <;> rfl

theorem State.grantClass3_none {s : State} (h : s.noCard) : s.grantClass3 = none := by
  unfold State.grantClass3
  rcases h with h | h
  · rw [h]
  · rw [h]
    split <;> rfl

theorem slotOf_group : slotOf 15 = none := rfl

theorem State.grantForward_none {s : State} (h : s.noForward) : s.grantForward = none := by
  unfold State.grantForward
  split
  · rfl
  · next f rest hq =>
    rcases h f rest hq with ⟨i, hd, hp⟩ | ⟨hd, hp⟩
    · rw [hd, slotOf_slotAddress]
      dsimp only
      rw [hp, if_neg Bool.false_ne_true]
    · rw [hd, slotOf_group]
      dsimp only
      rw [hp, if_neg Bool.false_ne_true]

/-- The forward queue's head goes to its PRESENT slot. -/
theorem State.grantForward_slot {s : State} {f : Frame} {rest : List Frame} {i : Fin 6} (hq : s.forwardQ = f :: rest)
    (hd : f.dest = slotAddress i) (hp : (s.slots.get i).present = true) :
    s.grantForward = some { s with forwardQ := rest, exchange := some ⟨.slot i, .forward, f⟩ } := by
  unfold State.grantForward
  rw [hq]
  dsimp only
  rw [hd, slotOf_slotAddress]
  exact if_pos hp

/-- The forward queue's head goes to the group while a slot of role OTHER is PRESENT. -/
theorem State.grantForward_group {s : State} {f : Frame} {rest : List Frame} (hq : s.forwardQ = f :: rest) (hd : f.dest = 15)
    (hp : s.otherPresent = true) :
    s.grantForward = some { s with forwardQ := rest, exchange := some ⟨.group, .forward, f⟩ } := by
  unfold State.grantForward
  rw [hq]
  dsimp only
  rw [hd, slotOf_group]
  exact if_pos hp

/-! ## Polls (R14) -/

/-- A slot whose re-probe is due. -/
def State.dueAt (s : State) (i : Fin 6) : Prop :=
  (s.slots.get i).role ≠ .none ∧ (s.slots.get i).present = false ∧ (s.slots.get i).reprobe = .due

/-- A slot that polls go round. -/
def State.polledAt (s : State) (i : Fin 6) : Prop := (s.slots.get i).role ≠ .none ∧ (s.slots.get i).present = true

theorem State.dueReprobe_eq_some {s : State} {i : Fin 6} (h : s.dueAt i) (hn : ∀ j, j < i → ¬s.dueAt j) :
    s.dueReprobe = some i := by
  refine (find?_finRange_iff _ i).2 ⟨?_, fun j hj => ?_⟩
  · simpa [State.dueAt, and_assoc] using h
  · have := hn j hj
    rw [← Bool.not_eq_true]
    simpa [State.dueAt, and_assoc] using this

theorem State.dueReprobe_eq_none {s : State} (h : ∀ j, ¬s.dueAt j) : s.dueReprobe = none := by
  refine List.find?_eq_none.2 fun j _ => ?_
  simpa [State.dueAt, and_assoc] using h j

theorem State.nextPolled_eq_some {s : State} {k : Fin 6} (h : s.polledAt (s.lastPolled + k + 1))
    (hn : ∀ m, m < k → ¬s.polledAt (s.lastPolled + m + 1)) : s.nextPolled = some (s.lastPolled + k + 1) := by
  unfold State.nextPolled
  rw [List.find?_map, (find?_finRange_iff _ k).2 ⟨?_, fun m hm => ?_⟩]
  · rfl
  · simpa [State.polledAt] using h
  · have := hn m hm
    rw [← Bool.not_eq_true]
    simpa [State.polledAt] using this

theorem State.nextPolled_eq_none {s : State} (h : ∀ j, ¬s.polledAt j) : s.nextPolled = none := by
  unfold State.nextPolled
  refine List.find?_eq_none.2 fun j _ => ?_
  simpa [State.polledAt] using h j

theorem State.grantPoll_due {s : State} {i : Fin 6} (h : s.dueReprobe = some i) : s.grantPoll = some { s with
    slots := s.slots.set i { s.slots.get i with reprobe := .off }
    exchange := some ⟨.slot i, .poll, slotFrame i Kind.poll []⟩ } := by
  unfold State.grantPoll
  rw [h]
  rfl

theorem State.grantPoll_next {s : State} (h : s.dueReprobe = none) : s.grantPoll = s.nextPolled.map fun i => { s with
    lastPolled := i, exchange := some ⟨.slot i, .poll, slotFrame i Kind.poll []⟩ } := by
  unfold State.grantPoll
  rw [h]
  rfl

/-! ## The order of the candidates (R13) -/

section
variable {s t : State} (hm : s.mayGrant = true)
include hm

theorem State.grant_of_write (h : s.grantWrite = some t) : s.grant = t := by
  unfold State.grant
  rw [if_pos hm, h]
  rfl

theorem State.grant_of_print (h1 : s.noWrite) (h : s.grantPrint = some t) : s.grant = t := by
  unfold State.grant
  rw [if_pos hm, State.grantWrite_none h1, h]
  rfl

theorem State.grant_of_class3 (h1 : s.noWrite) (h2 : s.noPrint) (h : s.grantClass3 = some t) : s.grant = t := by
  unfold State.grant
  rw [if_pos hm, State.grantWrite_none h1, State.grantPrint_none h2, h]
  rfl

theorem State.grant_of_forward (h1 : s.noWrite) (h2 : s.noPrint) (h3 : s.noCard) (h : s.grantForward = some t) : s.grant = t := by
  unfold State.grant
  rw [if_pos hm, State.grantWrite_none h1, State.grantPrint_none h2, State.grantClass3_none h3, h]
  rfl

theorem State.grant_of_poll (h1 : s.noWrite) (h2 : s.noPrint) (h3 : s.noCard) (h4 : s.noForward) :
    s.grant = s.grantPoll.getD s := by
  unfold State.grant
  rw [if_pos hm, State.grantWrite_none h1, State.grantPrint_none h2, State.grantClass3_none h3, State.grantForward_none h4]
  rfl

end

/-- The print unit's frame, by what it owes. -/
theorem State.grantPrint_some {s : State} {i : Fin 6} (hi : s.presentOfRole .printer = some i) :
    (∀ b, s.printer.owed = .ask b → s.grantPrint = some { s with
      printer := { s.printer with owed := .none }, exchange := some ⟨.slot i, .printAsk b, slotFrame i Kind.printAsk []⟩ }) ∧
    (∀ j, s.printer.owed = .line → s.printer.job = some j → s.grantPrint = some { s with
      printer := { s.printer with owed := .none, room := s.printer.room - 1 }
      exchange := some ⟨.slot i, .printLine j.tag, printLineFrame i j.tag (j.next + 1) (j.lines.getD j.next [])⟩ }) ∧
    ∀ j, s.printer.owed = .cut → s.printer.job = some j → s.grantPrint = some { s with
      printer := { s.printer with owed := .none, job := some { j with awaitCut := true } }
      exchange := some ⟨.slot i, .printCut j.tag, slotFrame i Kind.printCut [BitVec.ofNat 8 j.tag]⟩ } := by
  unfold State.grantPrint
  rw [hi]
  refine ⟨fun b ho => ?_, fun j ho hj => ?_, fun j ho hj => ?_⟩
  · rw [ho]; rfl
  · rw [ho, hj]; rfl
  · rw [ho, hj]
    simp only [Option.map_some, State.onPrinter, Printer.cutBegins, hj]
    rfl

/-- The card unit's HOLD or RELEASE. -/
theorem State.grantClass3_some {s : State} {i : Fin 6} (hi : s.presentOfRole .card = some i) :
    (∀ b, s.card.owed = .hold → s.card.binding = some b → s.grantClass3 = some { s with
      card := { s.card with owed := .none }
      exchange := some ⟨.slot i, .hold, slotFrame i Kind.cardHold (leBytes 4 b.card)⟩ }) ∧
    (s.card.owed = .release → s.grantClass3 = some { s with
      card := { s.card with owed := .none }, exchange := some ⟨.slot i, .release, slotFrame i Kind.cardRelease []⟩ }) := by
  unfold State.grantClass3
  rw [hi]
  refine ⟨fun b ho hb => ?_, fun ho => ?_⟩
  · rw [ho, hb]; rfl
  · rw [ho]; rfl

/-- Settles O45: the candidates of R13 in their order. -/
theorem exchangeGrantOrder : Obligations.ExchangeGrantOrder := by
  intro s hr
  have granted {t : State} (h : s.grant = t) : exec .exchangeGrant s = .next t.transmit :=
    (State.event_running _ hr).trans (by rw [h])
  refine ⟨fun h => granted (State.grant_closed h), fun hx hp hu => ?_⟩
  have hm := s.mayGrant_iff.2 ⟨hx, hp, hu⟩
  refine ⟨fun w i hw hc hh => granted (State.grant_of_write hm (State.grantWrite_some hw hc hh)), fun h1 i hi => ?_,
    fun ⟨h1, h2⟩ i hi => ?_, fun ⟨⟨h1, h2⟩, h3⟩ f rest hq => ⟨fun i hd hp => ?_, fun hd hp => ?_⟩,
    fun ⟨⟨⟨h1, h2⟩, h3⟩, h4⟩ => ?_⟩
  · obtain ⟨ask, line, cut⟩ := State.grantPrint_some hi
    exact ⟨fun b ho => granted (State.grant_of_print hm h1 (ask b ho)),
      fun j ho hj => granted (State.grant_of_print hm h1 (line j ho hj)),
      fun j ho hj => granted (State.grant_of_print hm h1 (cut j ho hj))⟩
  · obtain ⟨hold, release⟩ := State.grantClass3_some hi
    exact ⟨fun b ho hb => granted (State.grant_of_class3 hm h1 h2 (hold b ho hb)),
      fun ho => granted (State.grant_of_class3 hm h1 h2 (release ho))⟩
  · exact granted (State.grant_of_forward hm h1 h2 h3 (State.grantForward_slot hq hd hp))
  · exact granted (State.grant_of_forward hm h1 h2 h3 (State.grantForward_group hq hd hp))
  · have poll := State.grant_of_poll hm h1 h2 h3 h4
    refine ⟨fun i hd hn => granted ?_, fun k hd hk hn => granted ?_, fun hd hn => granted ?_⟩
    · rw [poll, State.grantPoll_due (State.dueReprobe_eq_some hd hn)]
      rfl
    · rw [poll, State.grantPoll_next (State.dueReprobe_eq_none hd), State.nextPolled_eq_some hk hn]
      rfl
    · rw [poll, State.grantPoll_next (State.dueReprobe_eq_none hd), State.nextPolled_eq_none hn]
      rfl

end Sys2Proof.Machine
end

section
/-! PROOFS. The ends of exchanges (R11, R12, R15): an answer's disposition, and what follows from none. -/

namespace Sys2Proof.Machine

/-! ## The owner told (R12) -/

/-- The owner's notice moves the card unit's owed frame and the print unit alone. -/
theorem Told.frame {o : Owner} {valid : Bool} {u t : State} (h : Told o valid u t) :
    t = { u with card := { u.card with owed := t.card.owed }, printer := t.printer } := by
  cases o with
  | cardWrite | forward | poll => cases h; rfl
  | hold =>
    replace h : t = if valid = true ∨ u.card.binding = none then u else { u with card := { u.card with owed := .hold } } := h
    split at h <;> cases h <;> rfl
  | release =>
    replace h : t = if valid = true then u else { u with card := { u.card with owed := .release } } := h
    split at h <;> cases h <;> rfl
  | printLine _ | printCut _ | printAsk _ =>
    obtain ⟨q, h, -⟩ := h
    cases h
    rfl

/-- The owner's notice keeps the print job and its kind. -/
theorem Told.job {o : Owner} {valid : Bool} {u t : State} (h : Told o valid u t) (j : Job) (hj : t.printer.job = some j) :
    ∃ i, u.printer.job = some i ∧ i.kind = j.kind := by
  cases o with
  | cardWrite | forward | poll => cases h; exact ⟨j, hj, rfl⟩
  | hold =>
    replace h : t = if valid = true ∨ u.card.binding = none then u else { u with card := { u.card with owed := .hold } } := h
    split at h <;> cases h <;> exact ⟨j, hj, rfl⟩
  | release =>
    replace h : t = if valid = true then u else { u with card := { u.card with owed := .release } } := h
    split at h <;> cases h <;> exact ⟨j, hj, rfl⟩
  | printLine tag =>
    obtain ⟨q, h, ho⟩ := h
    cases h
    rw [show q.job = _ from congrArg Printer.job ho.frame] at hj
    obtain ⟨i, hi, rfl⟩ := Option.map_eq_some_iff.1 hj
    refine ⟨i, hi, ?_⟩
    split <;> rfl
  | printCut _ | printAsk _ =>
    obtain ⟨q, h, ho⟩ := h
    cases h
    rw [show q.job = _ from congrArg Printer.job ho.frame] at hj
    exact ⟨j, hj, rfl⟩

theorem Told.job_none {o : Owner} {valid : Bool} {u t : State} (h : Told o valid u t) (hn : u.printer.job = none) :
    t.printer.job = none := by
  rw [Option.eq_none_iff_forall_ne_some]
  intro j hj
  obtain ⟨i, hi, -⟩ := h.job j hj
  rw [hn] at hi
  cases hi

/-! ## Answers (R11, R12, R15) -/

/-- A valid answer's source is the slot, its destination the part or the terminal processor (R12). -/
theorem isAnswer_iff (i : Fin 6) (f : Frame) : isAnswer i f = true ↔ f.src = slotAddress i ∧ (f.dest = 0 ∨ f.dest = 14) := by
  simp [isAnswer, terminal]

theorem State.moduleFrame_answer {s : State} {i : Fin 6} {o : Owner} {g f : Frame} (hx : s.exchange = some ⟨.slot i, o, g⟩)
    (h : isAnswer i f = true) : s.moduleFrame f = s.endValid i o f := by
  unfold State.moduleFrame
  rw [hx]
  exact if_pos h

theorem State.moduleFrame_noAnswer {s : State} {i : Fin 6} {o : Owner} {g f : Frame} (hx : s.exchange = some ⟨.slot i, o, g⟩)
    (h : ¬isAnswer i f = true) : s.moduleFrame f = s.endInvalid i o := by
  unfold State.moduleFrame
  rw [hx]
  exact if_neg h

/-- Outside a single-slot exchange no frame is accepted (R12). -/
theorem State.moduleFrame_closed {s : State} (f : Frame) (h : ∀ i o g, s.exchange ≠ some ⟨.slot i, o, g⟩) :
    s.moduleFrame f = s := by
  unfold State.moduleFrame
  split
  · next hx => exact absurd hx (h _ _ _)
  · rfl
  · rfl

/-- A single-slot exchange in which nothing valid came. -/
theorem State.noAnswer_slot {s : State} {i : Fin 6} {o : Owner} {g : Frame} (hx : s.exchange = some ⟨.slot i, o, g⟩) :
    s.noAnswer = s.endInvalid i o := by
  unfold State.noAnswer
  rw [hx]

theorem State.noAnswer_closed {s : State} (h : ∀ i o g, s.exchange ≠ some ⟨.slot i, o, g⟩) : s.noAnswer = s := by
  unfold State.noAnswer
  split
  · next hx => exact absurd hx (h _ _ _)
  · rfl
  · rfl

/-- A slot that becomes PRESENT, before the unit of its role is told (R15). -/
def State.slotBack (i : Fin 6) (s : State) : State :=
  { s with slots := s.slots.set i { s.slots.get i with present := true, miss := 0, reprobe := .off } }

/-- The presence rule after a valid answer, by the slot's role (R15, R130, R163). -/
theorem State.answered_eq (i : Fin 6) (s : State) : s.answered i =
    if (s.slots.get i).present = true then s.heard i
    else match (s.slots.get i).role with
      | .none => s.slotBack i
      | .other => (s.slotBack i).cardReported
      | .card => ({ s.slotBack i with card := { s.card with owed := .release } } : State).cardReported
      | .printer => { s.slotBack i with
          printer := { s.printer with owed := .ask false }
          reports := putFixed (.printer ⟨s.printer.paper, s.printer.head, s.printer.fault, false, false, false,
            (s.slotBack i).slots.map Slot.present, 0⟩) s.reports } := by
  unfold State.answered
  split
  · rfl
  · unfold State.slotPresent State.tellPresent State.issuePresence
    cases (s.slots.get i).role <;> rfl

/-- The presence rule keeps the slot's role, the tables and the upward queue. -/
theorem State.answered_keeps (i : Fin 6) (s : State) : ((s.answered i).slots.get i).role = (s.slots.get i).role ∧
    (s.answered i).retained = s.retained ∧ (s.answered i).upwardQ = s.upwardQ := by
  rw [State.answered_eq]
  split
  · simp [State.heard, Vector.get_eq_getElem]
  · split <;> simp [State.slotBack, State.cardReported, Vector.get_eq_getElem]

theorem State.answered_passes (i : Fin 6) (s : State) (row : Nat) (kind : Byte) :
    (s.answered i).passes row kind = s.passes row kind := by
  unfold State.passes
  rw [(s.answered_keeps i).2.1]

theorem State.disposeAnswer_nil {i : Fin 6} {f : Frame} (s : State) (hk : f.kind = 0) (hp : f.payload = []) :
    s.disposeAnswer i f = s := if_pos ⟨hk, hp⟩

/-- A kind of the slot's upward vocabulary goes to the unit of its role (R10, R11). -/
theorem State.disposeAnswer_consumed {i : Fin 6} {f : Frame} {s : State} (hn : f.kind ≠ 0 ∨ f.payload ≠ [])
    (hc : consumedUp (s.slots.get i).role f.kind = true) : s.disposeAnswer i f = s.consume (s.slots.get i).role f := by
  unfold State.disposeAnswer
  exact (if_neg fun h : f.kind = 0 ∧ f.payload = [] => hn.elim (absurd h.1) (absurd h.2)).trans (if_pos hc)

/-- Any other kind goes up where its row passes it, and is dropped elsewhere (R11). -/
theorem State.disposeAnswer_passed {i : Fin 6} {f : Frame} {s : State} (hn : f.kind ≠ 0 ∨ f.payload ≠ [])
    (hc : consumedUp (s.slots.get i).role f.kind = false) : s.disposeAnswer i f =
      if f.dest = 14 ∧ s.passes (7 + i.val) f.kind = true then { s with upwardQ := s.upwardQ ++ [f] } else s := by
  unfold State.disposeAnswer
  exact (if_neg fun h : f.kind = 0 ∧ f.payload = [] => hn.elim (absurd h.1) (absurd h.2)).trans
    (if_neg (by rw [hc]; exact Bool.false_ne_true))

/-- ANSWER_WINDOW_EXPIRY with no frame in assembly ends a single-slot exchange with no valid answer (R12). -/
theorem exec_answerWindowExpiry {s : State} {i : Fin 6} {o : Owner} {g : Frame} (hr : s.running = true)
    (hx : s.exchange = some ⟨.slot i, o, g⟩) (ha : s.mRx.asm = .hunting) :
    exec .answerWindowExpiry s = .next (s.endInvalid i o).transmit := by
  refine (State.event_running _ hr).trans ?_
  unfold State.windowPasses
  rw [if_pos ha, State.noAnswer_slot hx]

/-- With a frame in assembly, or outside a single-slot exchange, it changes nothing. -/
theorem exec_answerWindowExpiry_closed {s : State} (hr : s.running = true)
    (h : s.mRx.asm ≠ .hunting ∨ ∀ i o g, s.exchange ≠ some ⟨.slot i, o, g⟩) : exec .answerWindowExpiry s = .next s.transmit := by
  refine (State.event_running _ hr).trans ?_
  unfold State.windowPasses
  rcases h with h | h
  · rw [if_neg h]
  · rw [State.noAnswer_closed h, ite_self]

/-- Settles O46: the presence rule, the disposition of the answer and the notice of its owner, one after another. -/
theorem moduleAnswerDisposed : Obligations.ModuleAnswerDisposed := by
  intro f s hr
  have taken : exec (.moduleAnswer f) s = .next (s.moduleFrame f).transmit := State.event_running _ hr
  refine ⟨fun h => by rw [State.moduleFrame_closed f h] at taken; exact taken, fun i o g hx => ?_⟩
  intro slot valid back met
  refine ⟨fun hv => ?_, fun hv => ?_⟩
  · have hn : ¬isAnswer i f = true := fun h => hv ((isAnswer_iff i f).1 h)
    rw [State.moduleFrame_noAnswer hx hn] at taken
    exact taken.trans (exec_answerWindowExpiry (s := { s with mRx := { s.mRx with asm := .hunting } }) hr hx rfl).symm
  · have hmet : s.answered i = met := s.answered_eq i
    obtain ⟨hrole, -, hup⟩ := s.answered_keeps i
    have hpass := s.answered_passes i (7 + i.val) f.kind
    rw [hmet] at hrole hup hpass
    have ends {d : State} (h : met.disposeAnswer i f = d) : EndsWith o d (exec (.moduleAnswer f) s) := by
      refine ⟨_, State.tellOutcome_told o true d.endExchange rfl, ?_⟩
      rw [taken, State.moduleFrame_answer hx ((isAnswer_iff i f).2 hv), State.endValid, hmet, h]
    refine ⟨fun hk hp => ends (State.disposeAnswer_nil met hk hp), fun hn hc hd hp => ends ?_, fun hn hc hd => ends ?_,
      fun hs hk => ends ?_, fun hs hk => ends ?_⟩
    · rw [State.disposeAnswer_passed hn (by rw [hrole]; exact hc), if_pos ⟨hd, by rw [hpass]; exact hp⟩, hup]
    · rw [State.disposeAnswer_passed hn (by rw [hrole]; exact hc), if_neg]
      rintro ⟨h14, hp⟩
      rcases hd with hd | hd
      · rw [hd] at h14; exact absurd h14 (by decide)
      · rw [hpass, hd] at hp; cases hp
    · have hc : consumedUp .card f.kind = true := (consumedUp_iff _ _).2 (.inl ⟨rfl, by simpa using hk⟩)
      have hn : f.kind ≠ 0 := by rcases hk with h | h | h <;> rw [h] <;> decide
      rw [State.disposeAnswer_consumed (.inl hn) (by rw [hrole, hs]; exact hc), hrole, hs]
      rfl
    · have hc : consumedUp .printer f.kind = true := (consumedUp_iff _ _).2 (.inr ⟨rfl, by simpa using hk⟩)
      have hn : f.kind ≠ 0 := by rcases hk with h | h | h <;> rw [h] <;> decide
      rw [State.disposeAnswer_consumed (.inl hn) (by rw [hrole, hs]; exact hc), hrole, hs]
      rfl

/-! ## No valid answer (R12, R15) -/

theorem State.missed_absent {i : Fin 6} {s : State} (h : (s.slots.get i).present = false) :
    s.missed i = { s with slots := s.slots.set i { s.slots.get i with reprobe := .waiting } } := by
  unfold State.missed
  dsimp only
  rw [h]
  rfl

theorem State.missed_counted {i : Fin 6} {s : State} (h : (s.slots.get i).present = true) (hm : (s.slots.get i).miss < 2) :
    s.missed i = { s with slots := s.slots.set i { s.slots.get i with miss := (s.slots.get i).miss + 1 } } := by
  unfold State.missed
  dsimp only
  rw [h, if_neg (by decide), if_pos hm]

theorem State.missed_third {i : Fin 6} {s : State} (h : (s.slots.get i).present = true) (hm : 2 ≤ (s.slots.get i).miss) :
    s.missed i = s.slotAbsent i := by
  unfold State.missed
  dsimp only
  rw [h, if_neg (by decide), if_neg (Nat.not_lt.2 hm)]

/-- A slot that becomes ABSENT, before the unit of its role is told (R15). -/
def State.slotDown (i : Fin 6) (s : State) : State :=
  { s with slots := s.slots.set i { s.slots.get i with present := false, miss := 0, reprobe := .waiting } }

/-- The forward frames that stay when a slot becomes ABSENT (R15). -/
def State.keptFrames (i : Fin 6) (s : State) : List Frame :=
  s.forwardQ.filter fun f => !(f.dest == slotAddress i ||
    (decide ((s.slots.get i).role = .other ∧ ¬∃ j, j ≠ i ∧ (s.slots.get j).role = .other ∧ (s.slots.get j).present = true) &&
      f.dest == 15))

/-- After a slot has become ABSENT, a slot of role OTHER is PRESENT exactly if another one is. -/
theorem State.slotDown_otherPresent (i : Fin 6) (s : State) : (s.slotDown i).otherPresent = true ↔
    ∃ j, j ≠ i ∧ (s.slots.get j).role = .other ∧ (s.slots.get j).present = true := by
  rw [State.otherPresent_iff]
  refine exists_congr fun j => ?_
  by_cases hj : j = i
  · subst hj
    simp [State.slotDown, Vector.get_eq_getElem]
  · have hne : i.val ≠ j.val := fun h => hj (Fin.ext h.symm)
    simp [State.slotDown, Vector.get_eq_getElem, hne, hj]

/-- The frames that go with the slot are those that are not kept. -/
theorem State.slotDown_losesFrame (i : Fin 6) (s : State) (f : Frame) : (s.slotDown i).losesFrame i f =
    (f.dest == slotAddress i || (decide ((s.slots.get i).role = .other ∧
      ¬∃ j, j ≠ i ∧ (s.slots.get j).role = .other ∧ (s.slots.get j).present = true) && f.dest == 15)) := by
  have hrole : ((s.slotDown i).slots.get i).role = (s.slots.get i).role := by simp [State.slotDown, Vector.get_eq_getElem]
  have ho : (s.slotDown i).otherPresent =
      decide (∃ j, j ≠ i ∧ (s.slots.get j).role = .other ∧ (s.slots.get j).present = true) := by
    exact Bool.eq_iff_iff.2 ((s.slotDown_otherPresent i).trans decide_eq_true_iff.symm)
  unfold State.losesFrame
  rw [hrole, ho, Bool.decide_and, decide_not, ← beq_eq_decide, Bool.and_assoc, Bool.and_assoc]
  congr 2
  exact Bool.and_comm _ _

/-- Those that a test takes are the list less those it leaves. -/
theorem length_filter_eq_sub {α : Type} (p : α → Bool) (l : List α) :
    (l.filter p).length = l.length - (l.filter fun x => !p x).length := by
  have := List.length_eq_length_filter_add (l := l) p
  omega

/-- A slot ABSENT with its forward frames gone (R15). -/
def State.slotLost (i : Fin 6) (s : State) : State := { s.slotDown i with forwardQ := s.keptFrames i }

/-- The forward frames that go with a slot. -/
def State.lostFrames (i : Fin 6) (s : State) : Nat := s.forwardQ.length - (s.keptFrames i).length

/-- A slot becomes ABSENT: its forward frames go, the unit of its role is told, and a report shows it (R15). -/
theorem State.slotAbsent_eq (i : Fin 6) (s : State) : s.slotAbsent i =
    ((s.slotLost i).tellAbsent (s.slots.get i).role).issuePresence (s.slots.get i).role (s.lostFrames i) := by
  have hk : s.keptFrames i = s.forwardQ.filter fun f => !(s.slotDown i).losesFrame i f := by
    unfold State.keptFrames
    simp only [State.slotDown_losesFrame]
  unfold State.slotLost State.lostFrames
  rw [hk, ← length_filter_eq_sub]
  rfl

theorem State.slotAbsent_other {i : Fin 6} {s : State} (h : (s.slots.get i).role = .other) :
    s.slotAbsent i = (s.slotLost i).issueCard (s.lostFrames i) := by
  rw [State.slotAbsent_eq, h]
  rfl

theorem State.slotAbsent_card {i : Fin 6} {s : State} (h : (s.slots.get i).role = .card) :
    s.slotAbsent i = (s.slotLost i).cardAbsent.issueCard (s.lostFrames i) := by
  rw [State.slotAbsent_eq, h]
  rfl

theorem State.slotAbsent_printer {i : Fin 6} {s : State} (h : (s.slots.get i).role = .printer) :
    s.slotAbsent i = (s.slotLost i).printerAbsent.issuePrinter false false false (s.lostFrames i) := by
  rw [State.slotAbsent_eq, h]
  rfl

theorem State.issueCard_eq (n : Nat) (s : State) : s.issueCard n =
    { s with reports := putFixed (.card ⟨s.bindingReport, s.slots.map Slot.present, min n 65535⟩) s.reports } := by
  unfold State.issueCard satAdd
  rw [Nat.zero_add]
  rfl

theorem State.issuePrinter_eq (n : Nat) (s : State) : s.issuePrinter false false false n =
    { s with reports := putFixed (.printer ⟨s.printer.paper, s.printer.head, s.printer.fault, false, false, false,
      s.slots.map Slot.present, min n 65535⟩) s.reports } := by
  unfold State.issuePrinter satAdd
  rw [Nat.zero_add]
  rfl

/-! ### The CARD slot ABSENT (R132) -/

/-- The card unit with nothing owed. -/
def State.cardless (s : State) : State := { s with card := { s.card with owed := .none } }

theorem State.writeInFlight_none {s : State} (h : s.card.write = .none) : s.writeInFlight = none := by
  unfold State.writeInFlight
  rw [h]
  cases s.retained.op <;> rfl

theorem State.writeInFlight_some {s : State} {o : OpRecord} {w : CardWrite} (ho : s.retained.op = some o)
    (hw : s.card.write = .owed w ∨ s.card.write = .sent w) : s.writeInFlight = some (o, w) := by
  unfold State.writeInFlight
  rw [ho]
  rcases hw with hw | hw <;> rw [hw]

/-- With no write in flight a binding ends (R132). -/
theorem State.cardAbsent_of_none {s : State} (h : s.cardless.writeInFlight = none) :
    s.cardAbsent = if s.card.binding.isSome then s.cardless.unbind.afterUnbind else s.cardless := by
  unfold State.cardAbsent
  dsimp only
  rw [show (s.onCard fun c => { c with owed := .none }).writeInFlight = none from h]
  rfl

/-- A write in flight ends uncertain (R132). -/
theorem State.cardAbsent_of_some {s : State} {o : OpRecord} {w : CardWrite} (h : s.cardless.writeInFlight = some (o, w)) :
    s.cardAbsent = s.cardless.writeUncertain o w .absent := by
  unfold State.cardAbsent
  dsimp only
  rw [show (s.onCard fun c => { c with owed := .none }).writeInFlight = some (o, w) from h]
  rfl

theorem State.cardAbsent_idle {s : State} (hw : s.card.write = .none) (hb : s.card.binding = none) : s.cardAbsent = s.cardless := by
  rw [State.cardAbsent_of_none (State.writeInFlight_none hw), hb]
  rfl

theorem State.cardAbsent_bound {s : State} (hw : s.card.write = .none) (hb : s.card.binding ≠ none) :
    s.cardAbsent = s.cardless.unbind.afterUnbind := by
  rw [State.cardAbsent_of_none (State.writeInFlight_none hw), if_pos (Option.isSome_iff_ne_none.2 hb)]

/-! ### The PRINTER slot ABSENT (R163, R168) -/

/-- The printer's state forgotten, nothing owed. -/
def State.printless (s : State) : State := { s with printer := { s.printer with
  paper := .unknown, head := .unknown, fault := .unknown, room := 0, owed := .none, askWait := false } }

theorem State.printerAbsent_eq (s : State) : s.printerAbsent = s.printless.jobEnds (some .printerAbsent) := rfl

/-! ### The outcomes -/

/-- Told leaves the state as it was but for the card unit's owed frame and the print unit. -/
theorem Told.shape {o : Owner} {valid : Bool} {u t : State} (h : Told o valid u t) :
    ∃ c p, t = { u with card := { u.card with owed := c }, printer := p } := ⟨_, _, h.frame⟩

/-- The reservations of a print job are by its kind alone. -/
theorem Told.jobReserved {o : Owner} {valid : Bool} {u t : State} (h : Told o valid u t) (hr : u.jobReserved) : t.jobReserved := by
  intro j hj
  obtain ⟨i, hi, hk⟩ := h.job j hj
  have hres : t.reserved = u.reserved := by obtain ⟨c, p, rfl⟩ := h.shape; rfl
  rw [hres, ← hk]
  exact hr i hi

/-- A group exchange ends by its own command alone (R12). -/
theorem State.groupEnds_group {s : State} {o : Owner} {g : Frame} (hx : s.exchange = some ⟨.group, o, g⟩) :
    s.groupEnds = s.exchangeEnded := by
  unfold State.groupEnds
  rw [hx]
  rfl

theorem State.groupEnds_closed {s : State} (h : ∀ o g, s.exchange ≠ some ⟨.group, o, g⟩) : s.groupEnds = s := by
  unfold State.groupEnds
  split
  · next hx => exact absurd hx (h _ _)
  · rfl
  · rfl

/-- Settles O47: the owner told, then the presence rule by the slot's misses and its role. -/
theorem noAnswerAndReprobe : Obligations.NoAnswerAndReprobe := by
  intro s hr
  refine ⟨exec_answerWindowExpiry_closed hr, fun i o g hx ha => ?_, fun o g hx => ?_, fun h => ?_,
    fun i => State.event_running _ hr⟩
  · have taken := exec_answerWindowExpiry hr hx ha
    have told := State.tellOutcome_told o false s.endExchange rfl
    intro slot
    refine ⟨_, told, ?_⟩
    rw [State.endInvalid] at taken
    generalize s.endExchange.tellOutcome o false = u at taken told
    have hjobs (hj : s.jobReserved) : u.jobReserved := told.jobReserved hj
    have hnone (hj : s.printer.job = none) : u.printer.job = none := told.job_none hj
    have outcome {v : State} (h : u.missed i = v) : exec .answerWindowExpiry s = .next v.transmit := taken.trans (by rw [h])
    have other (hp : (u.slots.get i).present = true) (hm : 2 ≤ (u.slots.get i).miss) (hs : (u.slots.get i).role = .other) :=
      outcome ((State.missed_third hp hm).trans ((State.slotAbsent_other hs).trans (State.issueCard_eq _ _)))
    have card {v : State} (hp : (u.slots.get i).present = true) (hm : 2 ≤ (u.slots.get i).miss) (hs : (u.slots.get i).role = .card)
        (h : (u.slotLost i).cardAbsent = v) := outcome ((State.missed_third hp hm).trans ((State.slotAbsent_card hs).trans
      ((congrArg (State.issueCard _) h).trans (State.issueCard_eq _ _))))
    have print {v : State} (hp : (u.slots.get i).present = true) (hm : 2 ≤ (u.slots.get i).miss)
        (hs : (u.slots.get i).role = .printer) (h : (u.slotLost i).printerAbsent = v) :=
      outcome ((State.missed_third hp hm).trans ((State.slotAbsent_printer hs).trans
        ((congrArg (State.issuePrinter false false false _) h).trans (State.issuePrinter_eq _ _))))
    obtain ⟨c, p, rfl⟩ := told.shape
    intro down others kept discards lost carded cardless printless printed
    refine ⟨fun hp => outcome (State.missed_absent hp), fun hp hm => outcome (State.missed_counted hp hm), other,
      fun hp hm hs => ⟨fun hw hb => ?_, fun hw hb => ?_, fun op w ho hw h2 => ?_⟩,
      fun hp hm hs => ⟨fun hj => ?_, fun j hj h2 => ?_⟩⟩
    · exact card hp hm hs (State.cardAbsent_idle hw hb)
    · exact ⟨_, State.afterUnbind_departed _, card hp hm hs (State.cardAbsent_bound hw hb)⟩
    · exact ⟨_, State.writeUncertain_uncertain op w .absent _ h2,
        card hp hm hs (State.cardAbsent_of_some (State.writeInFlight_some ho hw))⟩
    · exact print hp hm hs (State.jobEnds_none _ _ (hnone hj))
    · exact ⟨_, State.jobEnds_ended j (some .printerAbsent) _ hj (hjobs h2), print hp hm hs (State.printerAbsent_eq _)⟩
  · exact (State.event_running _ hr).trans (by rw [State.groupEnds_group hx])
  · exact (State.event_running _ hr).trans (by rw [State.groupEnds_closed h])

end Sys2Proof.Machine
end

section
/-! PROOFS. The depot clock (R33 to R36, R43): CLOCK, and the counting, the stop and the restart of the time base. -/

namespace Sys2Proof.Machine

/-! ## CLOCK (R36) -/

/-- Past SETUP a request goes on to its own checks (R18). -/
theorem State.gated_set {s : State} (kind : Byte) (serve : State → State) (h : s.part ≠ .unset) : s.gated kind serve = serve s :=
  if_neg h

theorem State.serveClock_range {s : State} {day second dow : Nat} (h : ¬(second ≤ 86399 ∧ 1 ≤ dow ∧ dow ≤ 7)) :
    s.serveClock day second dow = s.refuse Kind.clock .range :=
  if_pos (by omega)

theorem State.serveClock_accepted {s : State} {day second dow : Nat} (h : second ≤ 86399 ∧ 1 ≤ dow ∧ dow ≤ 7) :
    s.serveClock day second dow =
      let tested := ({ s with clock := s.clock.setTo day second dow } : State).testSchedules
      tested.2.reply Kind.clock (.clock s.clock tested.1) :=
  if_neg (by omega)

/-- Past SETUP, CLOCK is served in the state its frame leaves. -/
theorem exec_clock {s : State} (day : Word16) (second : Word32) (dow : Byte) (ht : TakesFrames s) (hp : s.part ≠ .unset) :
    exec (.clock day second dow) s = .next (s.frameSeen.serveClock day.toNat second.toNat dow.toNat).transmit := by
  rw [exec_request rfl ht]
  exact congrArg (fun t => Host.Outcome.next (State.transmit t)) (State.gated_set _ _ (by rwa [State.frameSeen_part]))

/-- Settles O31: a refusal for the range, or the clock set and the schedules tested under it. -/
theorem clockIsSet : Obligations.ClockIsSet := by
  intro day second dow s ht hp inRange clock
  rw [exec_clock day second dow ht hp]
  refine ⟨fun h => by rw [State.serveClock_range h], fun h => ?_⟩
  have hclock : s.frameSeen.clock.setTo day.toNat second.toNat dow.toNat = clock := by rw [State.frameSeen_clock]; rfl
  refine ⟨_, _, State.testSchedules_tested _, ?_⟩
  rw [State.serveClock_accepted h, hclock, State.frameSeen_clock]

/-! ## The time base (R33 to R35) -/

/-- The clock one second on, by whether the second stays within the day. -/
theorem Clock.nextSecond_eq (c : Clock) : c.nextSecond =
    if c.second < 86399 then { c with second := c.second + 1, hundredth := 0 }
    else { c with second := 0, hundredth := 0, day := if c.day < 65535 then c.day + 1 else 0
                  dayOfWeek := if c.dayOfWeek < 7 then c.dayOfWeek + 1 else 1, valid := c.valid && decide (c.day < 65535) } := by
  simp only [Clock.nextSecond, Clock.dayRoll, ← Nat.not_lt, ite_not]

/-- While the part takes events the schedules are tested on the advanced clock. -/
theorem State.secondAdvances_running {s : State} (hc : s.clock.running = true) (hr : s.running = true) :
    s.secondAdvances = ({ s with clock := s.clock.nextSecond } : State).testSchedules.2 := by
  unfold State.secondAdvances
  rw [hc]
  exact if_pos hr

/-- A part that takes no events only counts. -/
theorem State.secondAdvances_closed {s : State} (hc : s.clock.running = true) (hr : s.running = false) :
    s.secondAdvances = { s with clock := s.clock.nextSecond } := by
  unfold State.secondAdvances
  rw [hc]
  exact if_neg (ne_true_of_eq_false hr)

theorem State.secondAdvances_held {s : State} (hc : s.clock.running = false) : s.secondAdvances = s := by
  unfold State.secondAdvances
  rw [hc]
  rfl

theorem State.hundredthAdvances_within {s : State} (hc : s.clock.running = true) (h : s.clock.hundredth < 99) :
    s.hundredthAdvances = { s with clock := { s.clock with hundredth := s.clock.hundredth + 1 } } := by
  unfold State.hundredthAdvances
  rw [hc]
  exact if_pos h

theorem State.hundredthAdvances_last {s : State} (hc : s.clock.running = true) (h : 99 ≤ s.clock.hundredth) :
    s.hundredthAdvances = s.secondAdvances := by
  unfold State.hundredthAdvances
  rw [hc]
  exact if_neg (Nat.not_lt.2 h)

theorem State.hundredthAdvances_held {s : State} (hc : s.clock.running = false) : s.hundredthAdvances = s := by
  unfold State.hundredthAdvances
  rw [hc]
  rfl

theorem State.oscillatorStops_running {s : State} (hc : s.clock.running = true) :
    s.oscillatorStops = { s with clock := s.clock.stop s.power } := if_pos hc

theorem State.oscillatorStops_held {s : State} (hc : s.clock.running = false) : s.oscillatorStops = s :=
  if_neg (ne_true_of_eq_false hc)

/-- An advance of the second, whichever command brings it: tested schedules while the part takes events, otherwise the clock
alone. -/
theorem exec_secondAdvances {o : Instr} {s : State} (he : exec o s = .next s.secondAdvances.transmit) (hc : s.clock.running = true) :
    (s.running = true → ∃ n v, SchedulesTested n { s with clock := s.clock.nextSecond } v ∧ exec o s = .next v.transmit) ∧
      (s.running = false → exec o s = .next { s with clock := s.clock.nextSecond }) := by
  refine ⟨fun hr => ⟨_, _, State.testSchedules_tested _, ?_⟩, fun hr => ?_⟩
  · rw [he, State.secondAdvances_running hc hr]
  · rw [he, State.secondAdvances_closed hc hr]
    exact congrArg Host.Outcome.next (State.transmit_stopped hr)

/-- Settles O32: the counting of a running time base, its stop on each supply, and the events of a stopped one. -/
theorem depotClockCounts : Obligations.DepotClockCounts := by
  intro s c next advances
  have second : exec .secondAdvance s = .next s.secondAdvances.transmit := rfl
  have hundredth : exec .hundredthAdvance s = .next s.hundredthAdvances.transmit := rfl
  have stop : exec .oscillatorStop s = .next s.oscillatorStops := rfl
  have advanced {o : Instr} (he : exec o s = .next s.secondAdvances.transmit) (hc : c.running = true) : advances o := by
    have h := exec_secondAdvances he hc
    rwa [show s.clock.nextSecond = next from Clock.nextSecond_eq c] at h
  refine ⟨fun hc => ⟨advanced second hc, fun h => ?_, fun h => ?_⟩, fun hc hp => ?_, fun hc hp => ?_, rfl,
    fun hc => ⟨?_, ?_, ?_⟩⟩
  · exact advanced (hundredth.trans (by rw [State.hundredthAdvances_last hc h])) hc
  · rw [hundredth, State.hundredthAdvances_within hc h]
  · rw [stop, State.oscillatorStops_running hc, hp]
    rfl
  · rw [stop, State.oscillatorStops_running hc, hp]
    rfl
  · rw [stop, State.oscillatorStops_held hc]
  · rw [second, State.secondAdvances_held hc]
  · rw [hundredth, State.hundredthAdvances_held hc]

end Sys2Proof.Machine
end

section
/-! PROOFS. The coil drives and the chute record under every command (R46, R54, R62, R74, R75, R77). -/

namespace Sys2Proof.Machine

/-- Every command keeps the coil drives safe (R74, R75, R77). -/
theorem exec_driveSafe (c : Instr) (s t : State) (h : DriveSafe s.coils s.chute.state) (e : exec c s = .next t) :
    DriveSafe t.coils t.chute.state := by
  refine exec_keeps (fun u => DriveSafe u.coils u.chute.state)
    (fun f s => s.onCLine_drive f _ (State.disposeFrame_drive f)) (fun i s => s.onRequest_drive i _ (State.takeRequest_drive i))
    State.characterArrives_drive State.breakArrives_drive State.gapExpires_drive State.silenceExpires_drive
    State.transmitEnds_drive State.transmit_drive (fun p s _ => s.startAfterReply_drive p) State.grant_drive
    State.moduleFrame_drive State.windowPasses_drive State.groupEnds_drive State.reprobeDue_drive State.secondAdvances_drive
    State.oscillatorStops_drive State.sensorRise_drive State.sensorFall_drive State.aLimitPasses_drive State.gapLimitPasses_drive
    State.acceptWaitPasses_drive State.returnWaitPasses_drive State.idleWaitPasses_drive State.doorChange_drive
    State.leverPress_drive State.pwmPeriod_drive State.pullInCheck_drive State.diverterChangeover_drive State.exitPulse_drive
    State.jamTimeout_drive State.trailingEnds_drive State.writeTimeout_drive State.cutTimeout_drive State.roomAskDelay_drive
    State.powerReturns_drive State.powerFails_drive State.resetHolds_drive State.resetReleases_drive State.hundredthAdvances_drive
    State.timeBaseRuns_drive State.backupFails_drive c s t h e

/-- Every command keeps the chute record with the customer's money (R46, R54, R62). -/
theorem exec_chuteKept (c : Instr) (s t : State) (h : ChuteKept s.chute s.retained.ledger) (e : exec c s = .next t) :
    ChuteKept t.chute t.retained.ledger := by
  refine exec_keeps (fun u => ChuteKept u.chute u.retained.ledger)
    (fun f s => s.onCLine_kept f _ (State.disposeFrame_kept f)) (fun i s => s.onRequest_kept i _ (State.takeRequest_kept i))
    State.characterArrives_kept State.breakArrives_kept State.gapExpires_kept State.silenceExpires_kept
    State.transmitEnds_kept State.transmit_kept (fun p s _ => s.startAfterReply_kept p) State.grant_kept
    State.moduleFrame_kept State.windowPasses_kept State.groupEnds_kept State.reprobeDue_kept State.secondAdvances_kept
    State.oscillatorStops_kept State.sensorRise_kept State.sensorFall_kept State.aLimitPasses_kept State.gapLimitPasses_kept
    State.acceptWaitPasses_kept State.returnWaitPasses_kept State.idleWaitPasses_kept State.doorChange_kept
    State.leverPress_kept State.pwmPeriod_kept State.pullInCheck_kept State.diverterChangeover_kept State.exitPulse_kept
    State.jamTimeout_kept State.trailingEnds_kept State.writeTimeout_kept State.cutTimeout_kept State.roomAskDelay_kept
    State.powerReturns_kept State.powerFails_kept State.resetHolds_kept State.resetReleases_kept State.hundredthAdvances_kept
    State.timeBaseRuns_kept State.backupFails_kept c s t h e

/-- Settles O8: each command keeps both parts by what every operation does to the coils and to the chute record. -/
theorem coilDrivesStaySafe : Obligations.CoilDrivesStaySafe := by
  refine ⟨fun s t h e => ?_, fun s t h e => ?_⟩
  · rcases step_exec e with rfl | ⟨c, rest, e⟩
    · exact h
    · exact exec_driveSafe c { s with pending := rest } t h e
  · rcases step_exec e with rfl | ⟨c, rest, e⟩
    · exact h
    · exact exec_chuteKept c { s with pending := rest } t h e

end Sys2Proof.Machine
end

section
/-! PROOFS. The coin entry under every command (R64): while the part takes events, each command leaves the failing conditions as last
tested, a start derives them anew, and a loss of power or RESET ends the taking of events. -/

namespace Sys2Proof.Machine

/-! ## The entry and the part's running (R64, R172) -/

theorem entryTested_iff (s : State) : EntryTested s ↔ (s.running = true → s.Entry) := by
  refine ⟨fun h hr => ?_, fun h hr => ?_⟩
  · obtain ⟨tested, eb⟩ := h hr
    exact ⟨tested, eb.trans (congrArg Causes.clear tested.symm)⟩
  · obtain ⟨tested, eb⟩ := h hr
    exact ⟨tested, eb.trans (congrArg Causes.clear tested)⟩

/-- A request changes nothing while the part takes no event. -/
theorem State.onRequest_stopped (i : Instr) (serve : State → State) {s : State} (h : s.running = false) :
    s.onRequest i serve = s := by
  unfold State.onRequest State.onCLine
  split <;> simp [h]

theorem State.powerFails_running (s : State) : s.powerFails.running = false := by
  unfold State.powerFails
  split
  · rfl
  · next h => simp [State.running, h]

theorem State.resetHolds_running (s : State) : s.resetHolds.running = false := by simp [State.resetHolds, State.running]

theorem State.backupFails_entry {s : State} (h : s.Entry) : s.backupFails.Entry := by
  unfold State.backupFails
  split <;> exact h

/-! ## Starts (R64, R172) -/

/-- A start leaves the part UNSET, so the conditions it derives fail, and EB is off (R16, R64, R83). -/
theorem State.boot_entry (cold : Bool) (cause : StartCause) (pins : Pins) (s : State) : (s.boot cold cause pins).Entry := by
  refine ⟨rfl, ?_⟩
  unfold State.boot
  generalize (if cold then coldResolve else warmResolve s.retained) = r
  generalize (if cold then s.clock.cold else s.clock.warm) = c
  have started : EbAgrees (s.startValues r c pins).withLows.firstPeriod.coils.coils.eb State.reset.causes := by
    unfold State.firstPeriod
    split
    · rfl
    · exact CoilDriver.periodStart_eb _ _ _ rfl
  have closed : (s.startValues r c pins).withLows.firstPeriod.failing.clear = false := by
    rw [State.firstPeriod_frame]
    simp [State.failing, Causes.clear, State.startValues, State.withLows, State.reset]
  exact started.trans closed.symm

theorem State.checkedStart_entry (cause : StartCause) (pins : Pins) (s : State) : (s.checkedStart cause pins).Entry := by
  unfold State.checkedStart
  split <;> exact State.boot_entry _ _ _ _

theorem State.startAfterReply_entry (pins : Pins) {s : State} (h : s.Entry) : (s.startAfterReply pins).Entry := by
  unfold State.startAfterReply
  split
  · exact h
  · exact State.boot_entry _ _ _ _
  · exact State.boot_entry _ _ _ _

/-- A return of power leaves the part as it was, waiting for RESET, or started. -/
theorem State.powerReturns_entryTested (pins : Pins) {s : State} (h : EntryTested s) : EntryTested (s.powerReturns pins) := by
  unfold State.powerReturns
  split
  · exact h
  · dsimp only
    split
    · next hheld => exact fun hr => by simp [State.running, hheld] at hr
    · exact (entryTested_iff _).2 fun _ => State.checkedStart_entry _ _ _

/-- A release of RESET leaves the part as it was, waiting for power, or started. -/
theorem State.resetReleases_entryTested (pins : Pins) {s : State} (h : EntryTested s) : EntryTested (s.resetReleases pins) := by
  unfold State.resetReleases
  split
  · exact h
  · dsimp only
    split
    · exact (entryTested_iff _).2 fun _ => State.checkedStart_entry _ _ _
    · next hoff => exact fun hr => by simp [State.running, hoff] at hr

/-! ## Commands -/

theorem State.transmit_entryTested {s : State} (h : EntryTested s) : EntryTested s.transmit := by
  cases hr : s.running with
  | true => exact (entryTested_iff _).2 fun _ => State.transmit_entry s ((entryTested_iff s).1 h hr)
  | false => rwa [State.transmit_stopped hr]

/-- An operation that keeps the entry as tested and the lines as they are keeps it so whether or not the part takes events. -/
theorem EntryTested.of_line {s t : State} (h : EntryTested s) (hl : t.lineView = s.lineView) (ht : s.Entry → t.Entry) :
    EntryTested t :=
  (entryTested_iff t).2 fun hr => ht ((entryTested_iff s).1 h ((congrArg LineView.running hl).symm.trans hr))

/-- Every command leaves the entry as last tested while the part takes events (R64). -/
theorem exec_entryTested (c : Instr) (s t : State) (h : EntryTested s) (e : exec c s = .next t) : EntryTested t := by
  have ev {f : State → State} (hf : ∀ u, u.Entry → (f u).Entry) (he : s.event f = .next t) : EntryTested t := by
    cases hr : s.running with
    | true =>
      rw [State.event_running f hr] at he
      cases he
      exact (entryTested_iff _).2 fun _ => State.transmit_entry _ (hf s ((entryTested_iff s).1 h hr))
    | false => rw [State.event_stopped f hr] at he; cases he; exact h
  have dn {u : State} (hu : EntryTested u) (he : u.done = .next t) : EntryTested t := by
    cases he; exact State.transmit_entryTested hu
  have rq (i : Instr) (he : (s.onRequest i (State.takeRequest i)).done = .next t) : EntryTested t := by
    refine dn ?_ he
    cases hr : s.running with
    | true =>
      exact (entryTested_iff _).2 fun _ => State.onRequest_entry i _ s (State.takeRequest_entry i) ((entryTested_iff s).1 h hr)
    | false => rwa [State.onRequest_stopped i _ hr]
  have cl {f : Frame} (he : (s.onCLine f (State.disposeFrame f)).done = .next t) : EntryTested t := by
    refine dn ?_ he
    cases hr : s.running with
    | true => exact (entryTested_iff _).2 fun _ => State.onCLine_entry f _ s (State.disposeFrame_entry f) ((entryTested_iff s).1 h hr)
    | false => simpa [State.onCLine, hr] using h
  cases c
  case mainPowerLoss => cases e; exact fun hr => by simp [State.powerFails_running] at hr
  case resetHeld => cases e; exact fun hr => by simp [State.resetHolds_running] at hr
  case powerReturn => exact dn (State.powerReturns_entryTested _ h) e
  case resetRelease => exact dn (State.resetReleases_entryTested _ h) e
  case secondAdvance => exact dn (h.of_line s.secondAdvances_line s.secondAdvances_entry) e
  case hundredthAdvance => exact dn (h.of_line s.hundredthAdvances_line s.hundredthAdvances_entry) e
  case oscillatorStop => cases e; exact h.of_line s.oscillatorStops_line s.oscillatorStops_entry
  case timeBaseRunsAgain => cases e; exact h.of_line rfl s.timeBaseRuns_entry
  case backupSupplyFailure => cases e; exact h.of_line s.backupFails_line State.backupFails_entry
  case cLineFrame => exact cl e
  case downwardFrame => exact cl e
  case startAfterReply => exact ev (fun _ => State.startAfterReply_entry _) e
  case characterArrival => exact ev (State.characterArrives_entry _ _ _ _) e
  case lineBreak => exact ev (State.breakArrives_entry _) e
  case gapExpiry => exact ev (State.gapExpires_entry _) e
  case silenceTimeout => exact ev State.silenceExpires_entry e
  case transmitFrameEnd => exact ev State.transmitEnds_entry e
  case exchangeGrant => exact ev State.grant_entry e
  case moduleAnswer => exact ev (State.moduleFrame_entry _) e
  case answerWindowExpiry => exact ev State.windowPasses_entry e
  case groupExchangeEnd => exact ev State.groupEnds_entry e
  case reprobeDue => exact ev (State.reprobeDue_entry _) e
  case sensorRise => exact ev (State.sensorRise_entry _ _) e
  case sensorFall => exact ev (State.sensorFall_entry _ _) e
  case aLimitExpiry => exact ev State.aLimitPasses_entry e
  case gapLimitExpiry => exact ev State.gapLimitPasses_entry e
  case acceptWaitExpiry => exact ev State.acceptWaitPasses_entry e
  case returnWaitExpiry => exact ev State.returnWaitPasses_entry e
  case idleWaitExpiry => exact ev State.idleWaitPasses_entry e
  case doorChange => exact ev (State.doorChange_entry _) e
  case leverPress => exact ev State.leverPress_entry e
  case pwmPeriod => exact ev (State.pwmPeriod_entry _) e
  case pullInCheck => exact ev (State.pullInCheck_entry _ _) e
  case diverterChangeover => exact ev State.diverterChangeover_entry e
  case exitPulse => exact ev (State.exitPulse_entry _) e
  case jamTimeout => exact ev (State.jamTimeout_entry _) e
  case trailingWindowEnd => exact ev (State.trailingEnds_entry _) e
  case writeTimeout => exact ev State.writeTimeout_entry e
  case cutTimeout => exact ev State.cutTimeout_entry e
  case roomAskDelay => exact ev State.roomAskDelay_entry e
  all_goals exact rq _ e

/-! ## The conditions as R64 lists them -/

/-- Settles O7: the entry as tested by what every operation leaves of it, and each condition by its own definition. -/
theorem entryFollowsConditions : Obligations.EntryFollowsConditions := by
  refine ⟨fun s t h e => ?_, fun s => ⟨?_, ?_, ?_, rfl, rfl, rfl, ?_, ?_, ?_⟩⟩
  · rcases step_exec e with rfl | ⟨c, rest, e⟩
    · exact h
    · exact exec_entryTested c { s with pending := rest } t h e
  · exact bne_iff_ne
  · simp [State.failing]
  · exact bne_iff_ne
  · simp only [State.failing, Bool.not_eq_true', Bool.and_eq_false_iff, Option.isSome_eq_false_iff, Option.isNone_iff_eq_none]
  · simp only [State.failing, Bool.not_eq_false', State.ceilingRoom_iff]
  · simp only [Causes.clear, Bool.not_eq_true', Bool.or_eq_false_iff, and_assoc]

end Sys2Proof.Machine
end

section
/-! PROOFS. The door and the refund lever (R64 to R66, R94, R151, R156). -/

namespace Sys2Proof.Machine

/-! ## The door and the payout entry that waits for it (R65, R151) -/

/-- With the door open, or no entry waiting, no entry starts. -/
theorem State.startEntry_idle {s : State}
    (h : s.doorOpen = true ∨ ∀ p, s.payout = some p → p.started = true ∨ p.current = none) : s.startEntry = s := by
  unfold State.startEntry
  split
  · rfl
  · next p hp =>
    split
    · rfl
    · next e hc =>
      refine if_pos ?_
      rcases h with hd | hn
      · exact .inl hd
      · rcases hn p hp with hs | hc'
        · exact .inr hs
        · rw [hc] at hc'; cases hc'

/-- With the door closed, the entry that waits starts: its dispenser runs, and its value is its tube's last (R151). -/
theorem State.startEntry_waiting {s : State} {p : Payout} {e : PlanEntry} (hd : s.doorOpen = false) (hp : s.payout = some p)
    (hc : p.current = some e) (hs : p.started = false) : s.startEntry = { s with
      payout := some { p with started := true }
      tubes := s.tubes.set e.tube { s.tubes.get e.tube with dispenser := .running, lastValue := e.value } } := by
  unfold State.startEntry
  simp only [hp, hc]
  exact if_neg (by simp [hd, hs])

theorem State.doorChange_moved {s : State} {isOpen : Bool} (h : s.doorOpen ≠ isOpen) :
    s.doorChange isOpen = ({ s with doorOpen := isOpen } : State).entryTest.startEntry := if_neg h

theorem State.doorChange_held (s : State) : s.doorChange s.doorOpen = s := if_pos rfl

/-! ## The lever (R66) -/

/-- A press is taken in READY, with the purchase OPEN and credit, the chute IDLE and a general slot free (R66). -/
theorem State.leverTaken_iff (s : State) : s.leverTaken = true ↔ s.part = .ready ∧ s.purchase = .opened ∧
    s.retained.ledger.c ≠ 0 ∧ s.chute.state = .idle ∧ generalCount s.reports + s.reserved < 11 := by
  have slots : 0 < s.freeSlots ↔ generalCount s.reports + s.reserved < 11 := by
    unfold State.freeSlots Config.generalSlots
    omega
  simp [State.leverTaken, slots, and_assoc]

/-- Settles O52: the door by whether an entry waits for it, and the lever by whether its press is taken. -/
theorem doorAndLever : Obligations.DoorAndLever := by
  intro s hr
  have door (isOpen : Bool) : exec (.doorChange isOpen) s = .next (s.doorChange isOpen).transmit := State.event_running _ hr
  have lever : exec .leverPress s = .next s.leverPress.transmit := State.event_running _ hr
  have tested (isOpen : Bool) : Tested { s with doorOpen := isOpen } ({ s with doorOpen := isOpen } : State).entryTest :=
    State.entryTest_tested _
  refine ⟨?_, fun hd => ⟨_, ?_, tested true⟩, fun hd hn => ⟨_, ?_, tested false⟩,
    fun hd p e hp hc hs => ⟨_, tested false, ?_⟩, ?_⟩
  · rw [door, State.doorChange_held]
  · rw [door, State.doorChange_moved (by simp [hd]), State.startEntry_idle (.inl (by simp))]
  · rw [door, State.doorChange_moved (by simp [hd]), State.startEntry_idle (.inr (by simpa using hn))]
  · rw [door, State.doorChange_moved (by simp [hd]), State.startEntry_waiting (by simp) (by simpa using hp) hc hs,
      State.entryTest_tubes]
  · intro taken
    refine ⟨fun ht => ⟨_, ?_, State.startPayout_paidOut _ _ (Nat.succ_pos _)⟩, fun hn => ?_⟩
    · rw [lever, State.leverPress, if_pos (s.leverTaken_iff.2 ht)]
      rfl
    · rw [lever, State.leverPress, if_neg (fun ht => hn (s.leverTaken_iff.1 ht))]

end Sys2Proof.Machine
end

section
/-! PROOFS. The classification of a coin and the decision on it (R49, R57 to R61, R67, R69, R74). -/

namespace Sys2Proof.Machine

/-! ## Classification (R57, R58) -/

/-- The result that the kinds of the matching entries give (R58). -/
def resultOf : List Nat → CoinResult
  | [] => .none
  | [k] => .kind k
  | _ => .ambiguous

theorem resultOf_kind {l : List Nat} (hl : l.Nodup) (k : Nat) : resultOf l = .kind k ↔ k ∈ l ∧ ∀ j ∈ l, j = k := by
  match l, hl with
  | [], _ => simp [resultOf]
  | [a], _ => simp [resultOf, eq_comm]
  | a :: b :: l, hl =>
    have hab : a ≠ b := by rintro rfl; simp at hl
    simp only [resultOf, reduceCtorEq, false_iff]
    rintro ⟨-, h⟩
    exact hab ((h a (by simp)).trans (h b (by simp)).symm)

theorem resultOf_none (l : List Nat) : resultOf l = .none ↔ ∀ k, k ∉ l := by
  match l with
  | [] => simp [resultOf]
  | [a] => simp [resultOf]
  | a :: b :: l =>
    simp only [resultOf, reduceCtorEq, false_iff, not_forall, not_not]
    exact ⟨a, by simp⟩

theorem resultOf_ambiguous {l : List Nat} (hl : l.Nodup) : resultOf l = .ambiguous ↔ ∃ j k, j ≠ k ∧ j ∈ l ∧ k ∈ l := by
  match l, hl with
  | [], _ => simp [resultOf]
  | [a], _ =>
    simp only [resultOf, reduceCtorEq, List.mem_singleton, false_iff]
    rintro ⟨j, k, hjk, rfl, rfl⟩
    exact hjk rfl
  | a :: b :: l, hl =>
    have hab : a ≠ b := by rintro rfl; simp at hl
    exact iff_of_true rfl ⟨a, b, hab, by simp, by simp⟩

/-- Three measurements below 65535 are classified by the entries that match them. -/
theorem classify_unsaturated (t : CoinTable) {wA fAB wB : Nat} (hA : wA < 65535) (hF : fAB < 65535) (hB : wB < 65535) :
    classify (some t) wA fAB wB = resultOf (matchingKinds t (ratio wA fAB) (ratio wB fAB) fAB) := by
  have hs : ¬saturated wA fAB wB = true := by rw [saturated_iff]; omega
  unfold classify
  dsimp only
  rw [if_neg hs]
  rfl

theorem classify_saturated (t : CoinTable) {wA fAB wB : Nat} (h : 65535 ≤ wA ∨ 65535 ≤ fAB ∨ 65535 ≤ wB) :
    classify (some t) wA fAB wB = .none := if_pos ((saturated_iff _ _ _).2 h)

theorem CoinEntry.fits_iff (e : CoinEntry) (rA rB f : Nat) : e.fits rA rB f = true ↔ e.enabled = true ∧ e.loA ≤ rA ∧ rA ≤ e.hiA ∧
    e.loB ≤ rB ∧ rB ≤ e.hiB ∧ e.fmin ≤ f ∧ f ≤ e.fmax := by
  simp [CoinEntry.fits, and_assoc]

/-- The ratio as recorded, of counts that stay within 16 bits (R57). -/
theorem recordedRatio_eq {wA fAB wB : Nat} (hA : wA ≤ 65535) (hF : fAB ≤ 65535) (hB : wB ≤ 65535) (w : Nat) :
    recordedRatio wA fAB wB w = if wA = 65535 ∨ fAB = 65535 ∨ wB = 65535 then 1023 else min (w * 256 / max fAB 1) 1023 := by
  have hs : saturated wA fAB wB = true ↔ wA = 65535 ∨ fAB = 65535 ∨ wB = 65535 := by rw [saturated_iff]; omega
  simp only [recordedRatio, ratio_eq, hs]

/-! ## The table's entries of a kind (R60, R67, R69) -/

/-- A tube's entry names a kind (R69). -/
theorem State.tubeEntry_names (s : State) (i : Fin 4) (k : Nat) : (∃ t, s.tubeEntry i = some t ∧ t.coinKind = k) ↔
    ∃ a t, s.retained.coin = some a ∧ a.content.tubes[i.val]? = some t ∧ t.coinKind ≠ 0 ∧ t.coinKind = k := by
  simp only [State.tubeEntry_some]
  constructor
  · rintro ⟨t, ⟨a, ha, ht, h0⟩, hk⟩
    exact ⟨a, t, ha, ht, h0, hk⟩
  · rintro ⟨a, t, ha, ht, h0, hk⟩
    exact ⟨t, ⟨a, ha, ht, h0⟩, hk⟩

theorem State.coinValue_entry {s : State} {a : Active CoinTable} {k : Nat} {e : CoinEntry} (ha : s.retained.coin = some a)
    (hk : 1 ≤ k) (he : a.content.coins[k - 1]? = some e) : s.coinValue k = e.value := by
  simp [State.coinValue, State.coinTable, CoinTable.coin?, ha, he, Nat.ne_of_gt hk]

theorem State.routeOf_eq (s : State) (k : Nat) : s.routeOf k = match s.tubeNaming k with
    | none => .cashBox
    | some i => if s.tubeCount i < s.tubeCapacity i ∧ (s.tubes.get i).faulted = false then .tube i else .cashBox := by
  unfold State.routeOf
  cases s.tubeNaming k <;> simp

/-! ## The decision (R59 to R61) -/

/-- The conditions of R59 for a coin of kind k, under an active FARE table. -/
def State.Acceptable (s : State) (r : CoinResult) (f : Active FareTable) (k : Nat) : Prop :=
  s.retained.fare = some f ∧ r = .kind k ∧
    s.retained.ledger.c.toNat + s.retained.ledger.k.toNat + s.retained.ledger.pp.toNat + s.coinValue k ≤ f.content.header.ceiling ∧
    s.doorOpen = false

theorem State.acceptance_some {s : State} {r : CoinResult} {f : Active FareTable} {k : Nat} (h : s.Acceptable r f k) :
    s.acceptance r = some ⟨k, s.coinValue k, s.routeOf k, f.content.header.ceiling⟩ := by
  obtain ⟨hf, rfl, hle, hd⟩ := h
  simp only [State.acceptance, State.fareTable, hf, Option.map_some]
  exact if_pos ⟨hle, by simp [hd]⟩

theorem State.acceptance_none {s : State} {r : CoinResult} (h : ∀ f k, ¬s.Acceptable r f k) : s.acceptance r = none := by
  unfold State.acceptance
  split
  · next k f hf =>
    obtain ⟨a, ha, rfl⟩ := Option.map_eq_some_iff.1 hf
    exact if_neg fun ⟨hle, hd⟩ => h a k ⟨ha, rfl, hle, by simpa using hd⟩
  · rfl

/-- The coils with the diverter commanded to a route's side and AG energised (R61, R74). -/
theorem CoilDriver.divert_route (d : CoilDriver) (r : Route) : (d.divert r.command).drive .ag true = match r with
    | .tube _ => { d with
        coils := { d.coils with ag := d.coils.ag.energise, dvk := d.coils.dvk.release }
        command := .tubes, target := if d.coils.dvt.phase = .off then some true else none }
    | .cashBox => { d with
        coils := { d.coils with ag := d.coils.ag.energise, dvt := d.coils.dvt.release }
        command := .cashBox, target := if d.coils.dvk.phase = .off then some false else none } := by
  cases r <;>
    simp [Route.command, CoilDriver.divert, CoilDriver.drive, PerCoil.get, PerCoil.set, Coil.on]

/-- An accept decision (R61). -/
theorem State.acceptCoin_tested (a : AcceptedCoin) (m : Measurement) (s : State) :
    ∃ v, s.acceptCoin a m = v.chuteReported ∧ Tested { s with
      chute := { s.chute with state := .accepting, timer := some s.acceptWait, coin := some ⟨m.result, some a⟩, last := some m }
      coils := (s.coils.divert a.route.command).drive .ag true } v :=
  ⟨_, rfl, State.entryTest_tested _⟩

/-- The returned counts after a coin of a result is returned (R61, R97). -/
def returnedAfter (r : CoinResult) (v : Vector Nat 12) : Vector Nat 12 :=
  Vector.ofFn fun i : Fin 12 => if r = .kind (i.val + 1) then min (v.get i + 1) 65535 else v.get i

theorem returnedAfter_uncounted {r : CoinResult} (h : ∀ k, r ≠ .kind k) (v : Vector Nat 12) : returnedAfter r v = v := by
  ext i hi
  simp [returnedAfter, h, Vector.get_eq_getElem]

theorem returnedAfter_kind (k : Nat) (v : Vector Nat 12) : returnedAfter (.kind k) v = countKind k v := by
  simp [returnedAfter, countKind_eq]

/-- A return decision (R61). -/
theorem State.returnCoin_tested (m : Measurement) (s : State) :
    ∃ v, s.returnCoin m = v.chuteReported ∧ Tested { s with
      chute := { s.chute with state := .returning, timer := some s.returnWait, coin := some ⟨m.result, none⟩, last := some m }
      retained := { s.retained with returned := returnedAfter m.result s.retained.returned }
      reports := putFixed (.credit ⟨s.retained.ledger.c, s.purchase, 0, 1, 0⟩) s.reports } v := by
  refine ⟨_, rfl, ?_⟩
  convert State.entryTest_tested _ using 1
  cases hm : m.result with
  | none => rw [returnedAfter_uncounted (by simp)]; rfl
  | ambiguous => rw [returnedAfter_uncounted (by simp)]; rfl
  | kind k => rw [returnedAfter_kind]; rfl

/-! ## The fall of B (R49) -/

/-- The chute record at the fall of B in ON_B, before the decision: its last ticks counted, B idle (R45, R49). -/
def Chute.atFallOfB (n : Nat) (c : Chute) : Chute :=
  { c with wB := min (c.wB + n) 65535, active := { c.active with b := false } }

theorem Chute.fallOfB_eq {c : Chute} (n : Nat) (h : c.state = .onB) :
    { c.advance n with active := c.active.set false .b } = c.atFallOfB n := by
  simp only [Chute.advance, h, Chute.atFallOfB, PerSensor.set, satAdd, Config.saturation]

theorem State.sensorFall_onB {s : State} (n : Nat) (h : s.chute.state = .onB) (hb : s.chute.active.b = true) :
    s.sensorFall .b n = ({ s with chute := s.chute.atFallOfB n } : State).decideCoin := by
  rw [← Chute.fallOfB_eq n h]
  unfold State.sensorFall
  rw [if_pos (by exact hb), h]
  rfl

/-- What the fall of B measures, with the decision on it (R46, R57). -/
def State.measured (s : State) (d : Decision) : Measurement :=
  ⟨s.chute.wA, s.chute.fAB, s.chute.wB, recordedRatio s.chute.wA s.chute.fAB s.chute.wB s.chute.wA,
    recordedRatio s.chute.wA s.chute.fAB s.chute.wB s.chute.wB, classify s.coinTable s.chute.wA s.chute.fAB s.chute.wB, d⟩

theorem State.decideCoin_accepts {s : State} {f : Active FareTable} {k : Nat}
    (h : s.Acceptable (classify s.coinTable s.chute.wA s.chute.fAB s.chute.wB) f k) :
    s.decideCoin = s.acceptCoin ⟨k, s.coinValue k, s.routeOf k, f.content.header.ceiling⟩ (s.measured .accept) := by
  simp only [State.decideCoin, State.acceptance_some h, State.measured]

theorem State.decideCoin_returns {s : State}
    (h : ∀ f k, ¬s.Acceptable (classify s.coinTable s.chute.wA s.chute.fAB s.chute.wB) f k) :
    s.decideCoin = s.returnCoin (s.measured .giveBack) := by
  simp only [State.decideCoin, State.acceptance_none h, State.measured]

/-- Settles O49: the classification by the kinds of the entries that match, the tables' look-ups, and the fall of B by whether the
conditions of R59 hold for the coin. -/
theorem coinDecision : Obligations.CoinDecision := by
  refine ⟨⟨fun _ _ _ => rfl, fun t _ _ _ h => classify_saturated t h, ?_⟩, ?_, ?_⟩
  · intro t wA fAB wB hA hF hB rA rB fits
    have member (k : Nat) : k ∈ matchingKinds t (ratio wA fAB) (ratio wB fAB) fAB ↔ fits k := by
      simp only [mem_matchingKinds, CoinEntry.fits_iff, ratio_eq, fits, rA, rB]
    have nodup := matchingKinds_nodup t (ratio wA fAB) (ratio wB fAB) fAB
    simp only [classify_unsaturated t hA hF hB, resultOf_kind nodup, resultOf_none, resultOf_ambiguous nodup, member]
    exact ⟨fun _ => trivial, trivial, trivial⟩
  · intro s k names
    simp only [State.tubeNaming_some, State.tubeNaming_none, State.tubeEntry_names]
    exact ⟨fun _ => Iff.rfl, Iff.rfl, fun a e ha hk he => State.coinValue_entry ha hk he⟩
  · intro n s hr hs hb c l result recorded measured accepted hA hF
    have fall : exec (.sensorFall .b n) s = .next (State.decideCoin { s with chute := c }).transmit := by
      have event : exec (.sensorFall .b n) s = .next (s.sensorFall .b n).transmit := State.event_running _ hr
      rw [event, State.sensorFall_onB n hs hb]
      rfl
    have hm (d : Decision) : State.measured { s with chute := c } d = measured d := by
      have hw (w : Nat) : recordedRatio c.wA c.fAB c.wB w = recorded w := recordedRatio_eq hA hF (Nat.min_le_right _ _) w
      simp only [State.measured, hw]
      rfl
    refine ⟨fun f k h => ?_, fun h => ?_⟩
    · obtain ⟨v, hv, tested⟩ := State.acceptCoin_tested ⟨k, s.coinValue k, s.routeOf k, f.content.header.ceiling⟩
        (measured .accept) { s with chute := c }
      rw [CoilDriver.divert_route, State.routeOf_eq] at tested
      refine ⟨v, ?_, tested⟩
      rw [fall, State.decideCoin_accepts (s := { s with chute := c }) h, hm, ← hv]
      rfl
    · obtain ⟨v, hv, tested⟩ := State.returnCoin_tested (measured .giveBack) { s with chute := c }
      refine ⟨v, ?_, tested⟩
      rw [fall, State.decideCoin_returns (s := { s with chute := c }) h, hm, ← hv]

end Sys2Proof.Machine
end

section
/-! PROOFS. The coil driver over a PWM period: the period's end, the pull-in checks, the diverter's change-over and the coil fault (R72,
R74, R75, R79, R80). -/

namespace Sys2Proof.Machine

/-! ## Things of the four coils -/

@[simp] theorem PerCoil.get_mapNamed {α β : Type} (f : CoilName → α → β) (p : PerCoil α) (n : CoilName) :
    (p.mapNamed f).get n = f n (p.get n) := by cases n <;> rfl

theorem anyCoil_iff (p : PerCoil Bool) : anyCoil p = true ↔ ∃ n, p.get n = true := by
  constructor
  · intro h
    simp only [anyCoil, Bool.or_eq_true, or_assoc] at h
    obtain h | h | h | h := h
    exacts [⟨.eb, h⟩, ⟨.ag, h⟩, ⟨.dvt, h⟩, ⟨.dvk, h⟩]
  · rintro ⟨n, h⟩
    cases n <;> simp only [PerCoil.get] at h <;> simp [anyCoil, h]

theorem anyCoil_false {p : PerCoil Bool} (h : ∀ n, p.get n = false) : anyCoil p = false := by
  rw [← Bool.not_eq_true, anyCoil_iff]
  simp [h]

/-! ## One coil at a period's boundary (R72, R79) -/

@[simp] theorem Coil.afterPeriod_sensed (h : CoinHeader) (n : CoilName) (x : Sense) (c : Coil) :
    (c.afterPeriod h n x).sensed = sensedIn x := by
  unfold Coil.afterPeriod
  dsimp only
  repeat' split
  all_goals rfl

@[simp] theorem Coil.afterCheck_sensed (checked failed : Bool) (x : Sense) (c : Coil) :
    (c.afterCheck checked failed x).sensed = sensedIn x := by
  cases checked <;> rfl

/-- A coil whose drive waits for a period start begins it; any other is kept (R72). -/
def Coil.startPeriod (h : CoinHeader) (n : CoilName) (c : Coil) : Coil :=
  if c.phase = Phase.pullIn ∧ !c.begun then c.begin h n else c

@[simp] theorem Coil.startPeriod_sensed (h : CoinHeader) (n : CoilName) (c : Coil) : (c.startPeriod h n).sensed = c.sensed := by
  unfold Coil.startPeriod
  split <;> rfl

/-- A coil over the end of a period, in which its check does not fail, and the start of the next. -/
theorem Coil.startPeriod_afterPeriod {h : CoinHeader} {n : CoilName} {x : Sense} {c : Coil}
    (passed : (c.ending && !checkPasses h n x) = false) : (c.afterPeriod h n x).startPeriod h n =
      if c.phase = .pullIn ∧ c.begun = false then ⟨.pullIn, true, pullInCount h n, sensedIn x⟩
      else if c.phase = .pullIn ∧ 1 < c.left then { c with left := c.left - 1, sensed := sensedIn x }
      else if c.phase = .pullIn then { c with phase := .hold, left := 0, sensed := sensedIn x }
      else { c with sensed := sensedIn x } := by
  obtain ⟨phase, begun, left, sensed⟩ := c
  by_cases hp : phase = .pullIn
  · subst hp
    cases begun
    · rfl
    · by_cases hl : left ≤ 1
      · have hc : checkPasses h n x = true := by simpa [Coil.ending, hl] using passed
        simp [Coil.afterPeriod, Coil.startPeriod, hl, hc]
      · simp [Coil.afterPeriod, Coil.startPeriod, hl]
  · simp [Coil.afterPeriod, Coil.startPeriod, hp]

/-- A current in the coil's own pulse is a current in the period (R79). -/
theorem sensedIn_of_checkPasses {h : CoinHeader} {n : CoilName} {x : Sense} (hc : checkPasses h n x = true) : sensedIn x = true := by
  simp only [checkPasses, Bool.and_eq_true] at hc
  simp [sensedIn, hc.1]

/-! ## The change-over and the period start (R72, R75) -/

/-- A diverter side begins its drive at a period start: it is the target, and the quiet count has reached N (R75). -/
def CoilDriver.begins (h : CoinHeader) (d : CoilDriver) (side : Bool) : Bool :=
  !d.faulted && decide (d.target = some side) && decide (h.nonOverlap ≤ d.quiet)

theorem CoilDriver.begins_iff {h : CoinHeader} {d : CoilDriver} {side : Bool} :
    d.begins h side = true ↔ d.faulted = false ∧ d.target = some side ∧ h.nonOverlap ≤ d.quiet := by
  simp [CoilDriver.begins, and_assoc]

theorem CoilDriver.changeover_dvt {h : CoinHeader} {d : CoilDriver} (hb : d.begins h true = true) : d.changeover h = { d with
    coils := { d.coils with dvt := d.coils.dvt.begin h .dvt }, target := none, quiet := 0, driven := true } := by
  obtain ⟨hf, ht, hq⟩ := CoilDriver.begins_iff.1 hb
  simp [CoilDriver.changeover, hf, ht, hq]

theorem CoilDriver.changeover_dvk {h : CoinHeader} {d : CoilDriver} (hb : d.begins h false = true) : d.changeover h = { d with
    coils := { d.coils with dvk := d.coils.dvk.begin h .dvk }, target := none, quiet := 0, driven := true } := by
  obtain ⟨hf, ht, hq⟩ := CoilDriver.begins_iff.1 hb
  simp [CoilDriver.changeover, hf, ht, hq]

theorem CoilDriver.changeover_none {h : CoinHeader} {d : CoilDriver}
    (hn : d.faulted = true ∨ d.quiet < h.nonOverlap ∨ d.target = none) : d.changeover h = d := by
  unfold CoilDriver.changeover
  obtain hf | hq | ht := hn
  · exact if_pos (by simp [hf])
  · exact if_pos (by simp [hq])
  · simp [ht]

/-- Without a side that begins there is no change-over. -/
theorem CoilDriver.changeover_kept {h : CoinHeader} {d : CoilDriver} (ht : d.begins h true = false) (hk : d.begins h false = false) :
    d.changeover h = d := by
  refine CoilDriver.changeover_none ?_
  by_contra hn
  simp only [not_or, Nat.not_lt, Bool.not_eq_true] at hn
  obtain ⟨hf, hq, hs⟩ := hn
  obtain ⟨side, hside⟩ := Option.ne_none_iff_exists'.1 hs
  have hb : d.begins h side = true := CoilDriver.begins_iff.2 ⟨hf, hside, hq⟩
  cases side
  · exact absurd hb (by simp [hk])
  · exact absurd hb (by simp [ht])

/-- The three ways of a period start: DVT begins, DVK begins, or neither does. -/
theorem CoilDriver.begins_cases (h : CoinHeader) (d : CoilDriver) : (d.begins h true = true ∧ d.begins h false = false) ∨
    (d.begins h true = false ∧ d.begins h false = true) ∨ (d.begins h true = false ∧ d.begins h false = false) := by
  cases ht : d.begins h true <;> cases hk : d.begins h false <;> simp
  have hs := (CoilDriver.begins_iff.1 ht).2.1.symm.trans (CoilDriver.begins_iff.1 hk).2.1
  cases hs

/-- The change-over moves the coils, the target, the quiet count and the mark of a driven side. -/
theorem CoilDriver.changeover_frame (h : CoinHeader) (d : CoilDriver) : d.changeover h = { d with
    coils := (d.changeover h).coils
    target := if d.begins h true || d.begins h false then none else d.target
    quiet := if d.begins h true || d.begins h false then 0 else d.quiet
    driven := (d.changeover h).driven } := by
  obtain ⟨ht, hk⟩ | ⟨ht, hk⟩ | ⟨ht, hk⟩ := d.begins_cases h
  · simp [CoilDriver.changeover_dvt ht, ht]
  · simp [CoilDriver.changeover_dvk hk, hk]
  · simp [CoilDriver.changeover_kept ht hk, ht, hk]

/-- The change-over begins the drive of the side that begins, and leaves every other coil. -/
theorem CoilDriver.changeover_get (h : CoinHeader) (d : CoilDriver) (n : CoilName) : (d.changeover h).coils.get n =
    if (n = .dvt ∧ d.begins h true = true) ∨ (n = .dvk ∧ d.begins h false = true) then (d.coils.get n).begin h n
    else d.coils.get n := by
  obtain ⟨ht, hk⟩ | ⟨ht, hk⟩ | ⟨ht, hk⟩ := d.begins_cases h
  · rw [CoilDriver.changeover_dvt ht]
    cases n <;> simp [PerCoil.get, ht, hk]
  · rw [CoilDriver.changeover_dvk hk]
    cases n <;> simp [PerCoil.get, ht, hk]
  · simp [CoilDriver.changeover_kept ht hk, ht, hk]

theorem CoilDriver.periodStart_eq (h : CoinHeader) (d : CoilDriver) : d.periodStart h =
    let w : CoilDriver := { d with coils := d.coils.mapNamed (Coil.startPeriod h) }
    { w.changeover h with driven := (w.changeover h).sideOn } := rfl

/-- A period start moves the coils, the target, the quiet count and the mark of a driven side. -/
theorem CoilDriver.periodStart_frame (h : CoinHeader) (d : CoilDriver) : d.periodStart h = { d with
    coils := (d.periodStart h).coils
    target := if d.begins h true || d.begins h false then none else d.target
    quiet := if d.begins h true || d.begins h false then 0 else d.quiet
    driven := (d.periodStart h).sideOn } := by
  rw [CoilDriver.periodStart_eq]
  dsimp only
  rw [CoilDriver.changeover_frame]
  rfl

/-- A period start begins the side that begins and the coils that wait. -/
theorem CoilDriver.periodStart_get (h : CoinHeader) (d : CoilDriver) (n : CoilName) : (d.periodStart h).coils.get n =
    if (n = .dvt ∧ d.begins h true = true) ∨ (n = .dvk ∧ d.begins h false = true)
    then ⟨.pullIn, true, pullInCount h n, (d.coils.get n).sensed⟩
    else (d.coils.get n).startPeriod h n := by
  rw [CoilDriver.periodStart_eq]
  refine (CoilDriver.changeover_get h _ n).trans ?_
  simp only [PerCoil.get_mapNamed, Coil.begin, Coil.startPeriod_sensed]
  rfl

/-- With a coil fault and every coil in OFF, a period start begins nothing. -/
theorem CoilDriver.periodStart_off (h : CoinHeader) {d : CoilDriver} (hf : d.faulted = true)
    (hoff : ∀ n, (d.coils.get n).phase = .off) : d.periodStart h = { d with driven := false } := by
  have kept : d.coils.mapNamed (Coil.startPeriod h) = d.coils := by
    have same (n : CoilName) : (d.coils.get n).startPeriod h n = d.coils.get n := by simp [Coil.startPeriod, hoff n]
    exact congr (congr (congr (congrArg PerCoil.mk (same .eb)) (same .ag)) (same .dvt)) (same .dvk)
  have ht : d.coils.dvt.phase = .off := hoff .dvt
  have hk : d.coils.dvk.phase = .off := hoff .dvk
  rw [CoilDriver.periodStart_eq, kept]
  simp [CoilDriver.changeover_none (.inl hf), CoilDriver.sideOn, Coil.on, ht, hk]

/-! ## The coil fault (R80) -/

/-- The coil driver of a coil fault: FAULTED with its set, every coil released, no diverter command and no target (R80). -/
def CoilDriver.faultedWith (failed : PerCoil Bool) (d : CoilDriver) : CoilDriver :=
  { d with coils := d.coils.mapNamed fun _ c => ⟨.off, false, 0, c.sensed⟩
           command := .none, target := none, faulted := true, failed := failed }

/-- The coil driver of a coil fault, coil by coil. -/
theorem CoilDriver.faultedWith_eq {d : CoilDriver} {f failed : CoilName → Bool}
    (hs : ∀ n, (d.coils.get n).sensed = f n) (set : PerCoil Bool) (hg : ∀ n, set.get n = failed n) : d.faultedWith set =
      ⟨⟨⟨.off, false, 0, f .eb⟩, ⟨.off, false, 0, f .ag⟩, ⟨.off, false, 0, f .dvt⟩, ⟨.off, false, 0, f .dvk⟩⟩,
        .none, none, d.quiet, d.driven, true, ⟨failed .eb, failed .ag, failed .dvt, failed .dvk⟩⟩ := by
  simp only [← hs, ← hg]
  rfl

/-- The chute in FAULT COIL with the driver of the fault, its entry not yet tested (R53, R80). -/
def State.inCoilFault (failed : PerCoil Bool) (s : State) : State :=
  { s with chute := { s.chute with state := .fault, fault := some .coil, coin := none, timer := none }
           coils := s.coils.faultedWith failed }

theorem State.coilFault_eq (failed : PerCoil Bool) (s : State) :
    s.coilFault failed = (s.inCoilFault failed).entryTest.issueChute := by
  unfold State.coilFault State.enterFault
  congr 2

/-- A coil fault is the chute's entry into FAULT COIL with the driver of the fault. -/
theorem State.coilFault_faulted (failed : PerCoil Bool) (s : State) :
    Faulted .coil (s.coils.faultedWith failed) s (s.coilFault failed) := by
  rw [State.coilFault_eq]
  exact ⟨_, State.entryTest_tested (s.inCoilFault failed), rfl⟩

/-- The entry test of a coil fault finds CHUTE failing, so that EB stays released. -/
theorem State.coilFault_coils (failed : PerCoil Bool) (s : State) : (s.coilFault failed).coils = s.coils.faultedWith failed := by
  have tested := State.entryTest_tested (s.inCoilFault failed)
  have blocked : (s.inCoilFault failed).failing.clear = false := by simp [Causes.clear, State.failing, State.inCoilFault]
  have eb : (s.inCoilFault failed).entryTest.coils.coils.eb = (s.coils.faultedWith failed).coils.eb := by
    by_cases h : (s.inCoilFault failed).failing = (s.inCoilFault failed).causes
    · rw [tested.same h]
      rfl
    · rw [tested.closes h blocked]
      rfl
  calc (s.coilFault failed).coils = (s.inCoilFault failed).entryTest.coils := by rw [State.coilFault_eq]; rfl
    _ = { s.coils.faultedWith failed with coils := { (s.coils.faultedWith failed).coils with
          eb := (s.inCoilFault failed).entryTest.coils.coils.eb } } := State.entryTest_coils _
    _ = s.coils.faultedWith failed := by rw [eb]

/-- No diverter side counts as driven in the period in progress. -/
def CoilDriver.undriven (d : CoilDriver) : CoilDriver := { d with driven := false }

/-- The entry test does not look at the mark of a driven side. -/
theorem State.entryTest_undriven (s : State) :
    (s.onCoils CoilDriver.undriven).entryTest = s.entryTest.onCoils CoilDriver.undriven := by
  by_cases h : s.failing = s.causes
  · rw [State.entryTest, State.entryTest, if_pos h]
    exact if_pos h
  · rw [State.entryTest, State.entryTest, if_neg h]
    exact if_neg h

theorem State.coilFault_undriven (failed : PerCoil Bool) (s : State) :
    (s.onCoils CoilDriver.undriven).coilFault failed = (s.coilFault failed).onCoils CoilDriver.undriven := by
  have inFault : (s.onCoils CoilDriver.undriven).inCoilFault failed = (s.inCoilFault failed).onCoils CoilDriver.undriven := rfl
  rw [State.coilFault_eq, State.coilFault_eq, inFault, State.entryTest_undriven]
  rfl

/-- The period that starts after a coil fault has no coil in drive. -/
theorem State.coilFault_periodStart (h : CoinHeader) (failed : PerCoil Bool) (s : State) :
    (s.coilFault failed).onCoils (·.periodStart h) = (s.onCoils CoilDriver.undriven).coilFault failed := by
  have off : (s.coils.faultedWith failed).periodStart h = (s.coils.faultedWith failed).undriven :=
    CoilDriver.periodStart_off h rfl fun n => by cases n <;> rfl
  rw [State.coilFault_undriven]
  simp only [State.onCoils, State.coilFault_coils, off]

/-! ## The end of a period (R74, R79) -/

theorem CoilDriver.periodEnd_quiet (h : CoinHeader) (sense : PerCoil Sense) (d : CoilDriver) : (d.periodEnd h sense).quiet =
    if d.driven || d.coils.dvt.on || d.coils.dvk.on then 0 else min (d.quiet + 1) 15 := by
  rw [Bool.or_assoc]
  rfl

theorem CoilDriver.periodEnd_get (h : CoinHeader) (sense : PerCoil Sense) (d : CoilDriver) (n : CoilName) :
    (d.periodEnd h sense).coils.get n = (d.coils.get n).afterPeriod h n (sense.get n) := PerCoil.get_mapNamed _ _ _

/-! ## The pull-in checks (R79, R80) -/

theorem checkedCoils_get (ends : PerCoil Bool) (d : CoilDriver) (n : CoilName) : (checkedCoils ends d).get n =
    (ends.get n && decide ((d.coils.get n).phase = .pullIn) && (d.coils.get n).begun && decide ((d.coils.get n).left ≤ 1)) := by
  rw [checkedCoils, PerCoil.get_mapNamed, Bool.and_assoc, Bool.and_assoc, ← Bool.and_assoc (decide _)]
  rfl

/-- The coils whose pull-in check of PULL_IN_CHECK fails (R79, R80). -/
def failedOf (h : CoinHeader) (sense : PerCoil Sense) (checked : PerCoil Bool) : PerCoil Bool :=
  checked.mapNamed fun n b => b && !checkPasses h n (sense.get n)

theorem failedOf_get (h : CoinHeader) (sense : PerCoil Sense) (checked : PerCoil Bool) (n : CoilName) :
    (failedOf h sense checked).get n = (checked.get n && !checkPasses h n (sense.get n)) := PerCoil.get_mapNamed _ _ _

/-- The coils after the period that ends with a pull-in check (R79). -/
def CoilDriver.checkEnd (h : CoinHeader) (sense : PerCoil Sense) (checked : PerCoil Bool) (d : CoilDriver) : CoilDriver :=
  { d with coils := d.coils.mapNamed fun n c =>
      c.afterCheck (checked.get n) ((failedOf h sense checked).get n) (sense.get n) }

theorem CoilDriver.checkEnd_get (h : CoinHeader) (sense : PerCoil Sense) (checked : PerCoil Bool) (d : CoilDriver) (n : CoilName) :
    (d.checkEnd h sense checked).coils.get n =
      (d.coils.get n).afterCheck (checked.get n) ((failedOf h sense checked).get n) (sense.get n) := PerCoil.get_mapNamed _ _ _

/-- A coil after a check that does not fail. -/
theorem Coil.afterCheck_passed {h : CoinHeader} {n : CoilName} {x : Sense} {checked : Bool} (c : Coil)
    (passed : (checked && !checkPasses h n x) = false) : c.afterCheck checked (checked && !checkPasses h n x) x =
      if checked = true then ⟨.hold, true, 0, true⟩ else { c with sensed := sensedIn x } := by
  rw [passed]
  cases checked
  · rfl
  · have hx : sensedIn x = true := sensedIn_of_checkPasses (h := h) (n := n) (by simpa using passed)
    simp [Coil.afterCheck, hx]

/-! ## The commands -/

theorem State.coinTable_some {s : State} {a : Active CoinTable} (ha : s.retained.coin = some a) : s.coinTable = some a.content := by
  simp [State.coinTable, ha]

theorem State.coinTable_none {s : State} (hn : s.retained.coin = none) : s.coinTable = none := by
  simp [State.coinTable, hn]

theorem State.pwmPeriod_passed {sense : PerCoil Sense} {s : State} {t : CoinTable} (ht : s.coinTable = some t)
    (hf : ∀ n, (failedChecks t.header sense s.coils).get n = false) :
    s.pwmPeriod sense = { s with coils := (s.coils.periodEnd t.header sense).periodStart t.header } := by
  simp [State.pwmPeriod, ht, anyCoil_false hf, State.onCoils]

theorem State.pwmPeriod_failed {sense : PerCoil Sense} {s : State} {t : CoinTable} (ht : s.coinTable = some t)
    (hf : ∃ n, (failedChecks t.header sense s.coils).get n = true) : s.pwmPeriod sense =
      State.coilFault (failedChecks t.header sense s.coils) { s with coils := (s.coils.periodEnd t.header sense).undriven } := by
  have someFails := (anyCoil_iff _).2 hf
  simp only [State.pwmPeriod, ht, someFails, if_true]
  exact State.coilFault_periodStart _ _ _

/-- Without a coil to check no period ends. -/
theorem State.pullInCheck_none {ends : PerCoil Bool} {s : State} (sense : PerCoil Sense)
    (hc : anyCoil (checkedCoils ends s.coils) = false) : s.pullInCheck ends sense = s := by
  unfold State.pullInCheck
  split
  · rfl
  · simp [hc]

/-- Where no check fails, PULL_IN_CHECK moves the coils alone: those checked pass to HOLD, and where there is one, every other coil takes
the sensed state of the period that ends with it (R79). -/
theorem State.pullInCheck_passed {ends : PerCoil Bool} {sense : PerCoil Sense} {s : State} {t : CoinTable}
    (ht : s.coinTable = some t) (hf : ∀ n, (failedOf t.header sense (checkedCoils ends s.coils)).get n = false) :
    ∃ d', s.pullInCheck ends sense = { s with coils := d' } ∧ d' = { s.coils with coils := d'.coils } ∧
      ∀ n, d'.coils.get n = if (checkedCoils ends s.coils).get n = true then ⟨.hold, true, 0, true⟩
        else if anyCoil (checkedCoils ends s.coils) then { s.coils.coils.get n with sensed := sensedIn (sense.get n) }
        else s.coils.coils.get n := by
  cases hc : anyCoil (checkedCoils ends s.coils) with
  | false =>
    refine ⟨s.coils, State.pullInCheck_none sense hc, rfl, fun n => ?_⟩
    have unchecked : (checkedCoils ends s.coils).get n = false := by
      by_contra hn
      exact absurd ((anyCoil_iff _).2 ⟨n, by simpa using hn⟩) (by simp [hc])
    simp [unchecked]
  | true =>
    have noneFails := anyCoil_false hf
    unfold failedOf at noneFails
    refine ⟨s.coils.checkEnd t.header sense (checkedCoils ends s.coils), ?_, rfl, fun n => ?_⟩
    · simp only [State.pullInCheck, ht, hc, noneFails, if_true, Bool.false_eq_true, if_false]
      rfl
    · rw [CoilDriver.checkEnd_get, failedOf_get]
      exact Coil.afterCheck_passed _ ((failedOf_get _ _ _ n).symm.trans (hf n))

theorem State.pullInCheck_failed {ends : PerCoil Bool} {sense : PerCoil Sense} {s : State} {t : CoinTable}
    (ht : s.coinTable = some t) (hf : ∃ n, (failedOf t.header sense (checkedCoils ends s.coils)).get n = true) :
    s.pullInCheck ends sense = State.coilFault (failedOf t.header sense (checkedCoils ends s.coils))
      { s with coils := s.coils.checkEnd t.header sense (checkedCoils ends s.coils) } := by
  have someChecked : anyCoil (checkedCoils ends s.coils) = true := by
    obtain ⟨n, hn⟩ := hf
    rw [failedOf_get, Bool.and_eq_true] at hn
    exact (anyCoil_iff _).2 ⟨n, hn.1⟩
  have someFails := (anyCoil_iff _).2 hf
  unfold failedOf at someFails
  simp only [State.pullInCheck, ht, someChecked, someFails, if_true]
  rfl

theorem State.diverterChangeover_table {s : State} {t : CoinTable} (ht : s.coinTable = some t) :
    s.diverterChangeover = { s with coils := s.coils.changeover t.header } := by
  simp only [State.diverterChangeover, ht, State.onCoils]

/-- Settles O53: a whole period by its end and the next start coil by coil, a failed check by the coil fault, and the change-over by the
side that begins. -/
theorem coilPeriods : Obligations.CoilPeriods := by
  intro sense ends s hr d
  have pwm : exec (.pwmPeriod sense) s = .next (s.pwmPeriod sense).transmit := State.event_running _ hr
  have check : exec (.pullInCheck ends sense) s = .next (s.pullInCheck ends sense).transmit := State.event_running _ hr
  have change : exec .diverterChangeover s = .next s.diverterChangeover.transmit := State.event_running _ hr
  rw [pwm, check, change]
  refine ⟨fun hn => ?_, fun a ha => ?_⟩
  · simp only [State.pwmPeriod, State.pullInCheck, State.diverterChangeover, State.coinTable_none hn, and_self]
  have ht := State.coinTable_some ha
  intro h passes sensed fails quiet begins checked begun
  have hfails (n : CoilName) : (failedChecks a.content.header sense s.coils).get n = fails n := PerCoil.get_mapNamed _ _ _
  have hquiet : (s.coils.periodEnd a.content.header sense).quiet = quiet := CoilDriver.periodEnd_quiet _ _ _
  have hbegins (side : Bool) : (s.coils.periodEnd a.content.header sense).begins a.content.header side = begins side := by
    rw [CoilDriver.begins, hquiet]
    rfl
  have hchecked (n : CoilName) : (checkedCoils ends s.coils).get n = checked n := checkedCoils_get _ _ _
  have hfailed (n : CoilName) :
      (failedOf a.content.header sense (checkedCoils ends s.coils)).get n = (checked n && !passes n) := by
    rw [failedOf_get, hchecked]
    rfl
  refine ⟨fun hf => ⟨(s.coils.periodEnd a.content.header sense).periodStart a.content.header, ?_, ?_, fun n => ?_⟩,
    fun ⟨n, hn⟩ => ⟨_, rfl, ?_⟩, fun hp => ?_, fun ⟨n, hn, hp⟩ => ⟨_, rfl, ?_⟩,
    fun hf hq => ⟨fun hs => ?_, fun hs => ?_⟩, fun hn => ?_⟩
  · rw [State.pwmPeriod_passed ht fun n => (hfails n).trans (hf n)]
  · refine (CoilDriver.periodStart_frame a.content.header (s.coils.periodEnd a.content.header sense)).trans ?_
    rw [hbegins, hbegins, hquiet]
    rfl
  · refine (CoilDriver.periodStart_get a.content.header (s.coils.periodEnd a.content.header sense) n).trans ?_
    rw [hbegins, hbegins, CoilDriver.periodEnd_get, Coil.afterPeriod_sensed, Coil.startPeriod_afterPeriod (hf n)]
    rfl
  · have faulted := State.coilFault_faulted (failedChecks a.content.header sense s.coils)
      { s with coils := (s.coils.periodEnd a.content.header sense).undriven }
    rw [CoilDriver.faultedWith_eq (f := sensed) (failed := fails) (fun n => ?_) _ hfails] at faulted
    · rw [State.pwmPeriod_failed ht ⟨n, (hfails n).trans hn⟩, ← hquiet]
      exact faulted
    · exact (congrArg Coil.sensed (CoilDriver.periodEnd_get _ _ _ n)).trans (Coil.afterPeriod_sensed _ _ _ _)
  · have passed (n : CoilName) : (checked n && !passes n) = false := by
      cases hn : checked n
      · rfl
      · rw [hp n hn]
        rfl
    obtain ⟨d', moved, frame, get⟩ := State.pullInCheck_passed ht fun n => (hfailed n).trans (passed n)
    refine ⟨d', by rw [moved], frame, fun n => (get n).trans ?_⟩
    simp only [← hchecked]
    rfl
  · have faulted := State.coilFault_faulted (failedOf a.content.header sense (checkedCoils ends s.coils))
      { s with coils := s.coils.checkEnd a.content.header sense (checkedCoils ends s.coils) }
    rw [CoilDriver.faultedWith_eq (f := sensed) (fun n => ?_) _ hfailed] at faulted
    · rw [State.pullInCheck_failed ht ⟨n, by rw [hfailed, hn, hp]; rfl⟩]
      exact faulted
    · exact (congrArg Coil.sensed (CoilDriver.checkEnd_get _ _ _ _ n)).trans (Coil.afterCheck_sensed _ _ _ _)
  · rw [State.diverterChangeover_table ht, CoilDriver.changeover_dvt (CoilDriver.begins_iff.2 ⟨hf, hs, hq⟩)]
    rfl
  · rw [State.diverterChangeover_table ht, CoilDriver.changeover_dvk (CoilDriver.begins_iff.2 ⟨hf, hs, hq⟩)]
    rfl
  · rw [State.diverterChangeover_table ht, CoilDriver.changeover_none hn]

end Sys2Proof.Machine
end

section
/-! PROOFS. The money under every command (R85, R88, R89, R98, R149): each command keeps the balance of INSERTED against the nine terms,
and the operation and payout records with the purchase state. -/

namespace Sys2Proof.Machine

/-! ## Conservation (R98) -/

/-- R98's equation is a balance of 0. -/
theorem conserved_iff (s : State) : Conserved s ↔ s.retained.ledger.balance = 0 := by
  unfold Conserved Ledger.balance
  exact sub_eq_zero.symm

/-- Every command keeps a balance of 0 (R98). -/
theorem exec_conserves (c : Instr) (s t : State) (h : s.retained.ledger.balance = 0) (e : exec c s = .next t) :
    t.retained.ledger.balance = 0 := by
  have keeps {f : State → State} (hf : ∀ u, (f u).retained.ledger.balance = u.retained.ledger.balance) (u : State)
      (hu : u.retained.ledger.balance = 0) : (f u).retained.ledger.balance = 0 := (hf u).trans hu
  exact exec_keeps (fun u => u.retained.ledger.balance = 0)
    (fun f s => s.onCLine_conserves f _ (State.disposeFrame_conserves f))
    (fun i s => s.onRequest_conserves i _ (State.takeRequest_conserves i))
    (fun l _ _ _ => State.onReceiver_conserves l _) (fun l => State.onReceiver_conserves l _) State.gapExpires_conserves
    (keeps State.silenceExpires_balance) State.transmitEnds_conserves State.transmit_conserves
    (fun p s _ => s.startAfterReply_conserves p) (keeps State.grant_balance) (fun f => keeps (State.moduleFrame_balance f))
    (keeps State.windowPasses_balance) (keeps State.groupEnds_balance) (fun i => keeps (State.reprobeDue_balance i))
    (keeps State.secondAdvances_balance) (keeps State.oscillatorStops_balance)
    (fun x n => keeps (State.sensorRise_balance x n)) (fun x n => keeps (State.sensorFall_balance x n))
    (keeps State.aLimitPasses_balance) (keeps State.gapLimitPasses_balance) (keeps State.acceptWaitPasses_balance)
    (keeps State.returnWaitPasses_balance) (keeps State.idleWaitPasses_balance) (fun b => keeps (State.doorChange_balance b))
    (keeps State.leverPress_balance) (fun x => keeps (State.pwmPeriod_balance x)) (fun x y => keeps (State.pullInCheck_balance x y))
    (keeps State.diverterChangeover_balance) (fun i => keeps (State.exitPulse_balance i))
    (fun i => keeps (State.jamTimeout_balance i)) (fun i => keeps (State.trailingEnds_balance i))
    (keeps State.writeTimeout_balance) (keeps State.cutTimeout_balance) (keeps State.roomAskDelay_balance)
    State.powerReturns_conserves (keeps State.powerFails_balance) (keeps State.resetHolds_balance) State.resetReleases_conserves
    (keeps State.hundredthAdvances_balance) (keeps State.timeBaseRuns_balance) (keeps State.backupFails_balance) c s t h e

/-- Settles O5: R98's equation as a balance of 0, which every command keeps by what each operation does to it. -/
theorem moneyConserved : Obligations.MoneyConserved := by
  refine ⟨(conserved_iff _).2 rfl, fun s t h e => ?_⟩
  rcases step_exec e with rfl | ⟨c, rest, e⟩
  · exact h
  · exact (conserved_iff t).2 (exec_conserves c { s with pending := rest } t ((conserved_iff s).1 h) e)

/-! ## The money state (R85, R88, R89, R149) -/

/-- The money state of a state. -/
def State.MoneyHeld (s : State) : Prop :=
  MoneyState s.retained.op s.retained.ledger.k s.retained.ledger.pp s.purchase s.payout

/-- Every command keeps the money state (R85, R88, R89, R149). -/
theorem exec_moneyHeld (c : Instr) (s t : State) (h : s.MoneyHeld) (e : exec c s = .next t) : t.MoneyHeld :=
  exec_keeps State.MoneyHeld
    (fun f s => s.onCLine_money f _ (State.disposeFrame_money f)) (fun i s => s.onRequest_money i _ (State.takeRequest_money i))
    State.characterArrives_money State.breakArrives_money State.gapExpires_money State.silenceExpires_money
    State.transmitEnds_money State.transmit_money (fun p s _ => s.startAfterReply_money p) State.grant_money
    State.moduleFrame_money State.windowPasses_money State.groupEnds_money State.reprobeDue_money State.secondAdvances_money
    State.oscillatorStops_money State.sensorRise_money State.sensorFall_money State.aLimitPasses_money State.gapLimitPasses_money
    State.acceptWaitPasses_money State.returnWaitPasses_money State.idleWaitPasses_money State.doorChange_money
    State.leverPress_money State.pwmPeriod_money State.pullInCheck_money State.diverterChangeover_money State.exitPulse_money
    State.jamTimeout_money State.trailingEnds_money State.writeTimeout_money State.cutTimeout_money State.roomAskDelay_money
    State.powerReturns_money State.powerFails_money State.resetHolds_money State.resetReleases_money State.hundredthAdvances_money
    State.timeBaseRuns_money State.backupFails_money c s t h e

/-- Settles O9: each command keeps the money state by what every operation does to it. -/
theorem moneyStateKept : Obligations.MoneyStateKept := by
  intro s t h e
  rcases step_exec e with rfl | ⟨c, rest, e⟩
  · exact h
  · exact exec_moneyHeld c { s with pending := rest } t h e

end Sys2Proof.Machine
end

section
/-! PROOFS. What the journal's invariant rests on (R90, R126, R133), and what may become of it: the acceptance of an operation, the ends of
a print job and of a card write, and the resolution of an UNCERTAIN record. -/

namespace Sys2Proof.Machine

/-! ## The journal's view of a state -/

/-- What the journal's invariant rests on: the retained books, the number of the write in flight and the kind of the print job. -/
structure JournalView where
  journal : List JournalRecord
  txn : Nat
  op : Option OpRecord
  h : Money
  k : Money
  write : Option Nat
  job : Option JobKind

/-- The journal's view of a state. -/
def State.journalView (s : State) : JournalView :=
  ⟨s.retained.journal, s.retained.txn, s.retained.op, s.retained.ledger.h, s.retained.ledger.k, writeTxn s.card.write,
    s.printer.job.map Job.kind⟩

/-- The journal's invariant over its view (R90, R126, R133). -/
structure JournalView.Kept (v : JournalView) : Prop where
  depth : v.journal.length ≤ 8
  cards : (v.journal.map JournalRecord.card).Nodup
  numbers : (v.journal.map JournalRecord.txn).Nodup
  given : ∀ r ∈ v.journal, r.txn ≤ v.txn
  held : v.h = uncertainSum v.journal
  committed : ∀ o, v.op = some o → v.k = o.amount ∧ o.txn ≤ v.txn
  issued : ∀ r ∈ v.journal, r.state = .issued → ∃ o, v.op = some o ∧ o.onCard ∧ o.txn = r.txn
  writes : ∀ o, v.op = some o → o.onCard →
    v.write = some o.txn ∧ ∃ r ∈ v.journal, r.state = .issued ∧ r.txn = o.txn ∧ r.amount = o.amount
  written : v.write ≠ none → ∃ o, v.op = some o ∧ o.onCard
  ticket : v.job = some .ticket → ∃ o, v.op = some o ∧ o.kind = .printedSale
  voucher : v.job = some .voucher → ∃ o, v.op = some o ∧ o.kind = .voucher

theorem writeTxn_eq_none (w : WriteState) : writeTxn w = none ↔ w = .none := by cases w <;> simp [writeTxn]

/-- The journal is kept exactly where its view is. -/
theorem journalKept_iff (s : State) : JournalKept s ↔ s.journalView.Kept := by
  constructor
  · intro h
    refine ⟨h.depth, h.cards, h.numbers, h.given, h.held, h.committed, h.issued, h.writes,
      fun n => h.written fun e => n ((writeTxn_eq_none _).2 e), fun e => ?_, fun e => ?_⟩
    · obtain ⟨j, hj, hk⟩ := Option.map_eq_some_iff.1 e
      exact (h.prints j hj).1 hk
    · obtain ⟨j, hj, hk⟩ := Option.map_eq_some_iff.1 e
      exact (h.prints j hj).2 hk
  · intro h
    refine ⟨h.depth, h.cards, h.numbers, h.given, h.held, h.committed, h.issued, h.writes,
      fun n => h.written fun e => n ((writeTxn_eq_none _).1 e), fun j hj => ⟨fun hk => h.ticket ?_, fun hk => h.voucher ?_⟩⟩
    · exact Option.map_eq_some_iff.2 ⟨j, hj, hk⟩
    · exact Option.map_eq_some_iff.2 ⟨j, hj, hk⟩

/-! ## Records and their sum (R133) -/

theorem uncertainSum_append (a b : List JournalRecord) : uncertainSum (a ++ b) = uncertainSum a + uncertainSum b := by
  simp [uncertainSum]

theorem uncertainSum_cons_uncertain {r : JournalRecord} (h : r.state = .uncertain) (j : List JournalRecord) :
    uncertainSum (r :: j) = r.amount + uncertainSum j := by
  simp [uncertainSum, h]

theorem uncertainSum_cons_issued {r : JournalRecord} (h : r.state = .issued) (j : List JournalRecord) :
    uncertainSum (r :: j) = uncertainSum j := by
  simp [uncertainSum, h]

/-- A record stands between records of other numbers (R133). -/
theorem exists_split_of_numbers {j : List JournalRecord} (hn : (j.map JournalRecord.txn).Nodup) {r : JournalRecord} (hr : r ∈ j) :
    ∃ a b, j = a ++ r :: b ∧ ∀ x ∈ a ++ b, x.txn ≠ r.txn := by
  obtain ⟨a, b, rfl⟩ := List.append_of_mem hr
  refine ⟨a, b, rfl, fun x hx e => ?_⟩
  have hp : ((r :: (a ++ b)).map JournalRecord.txn).Nodup := (List.perm_middle.map _).nodup_iff.1 hn
  rw [List.map_cons, List.nodup_cons] at hp
  exact hp.1 (e ▸ List.mem_map_of_mem hx)

theorem dropRecord_absent {n : Nat} {j : List JournalRecord} (h : ∀ x ∈ j, x.txn ≠ n) : dropRecord n j = j :=
  List.filter_eq_self.2 fun x hx => bne_iff_ne.2 (h x hx)

/-- The record of a number removed from among others. -/
theorem dropRecord_split {r : JournalRecord} {a b : List JournalRecord} (h : ∀ x ∈ a ++ b, x.txn ≠ r.txn) :
    dropRecord r.txn (a ++ r :: b) = a ++ b := by
  refine Eq.trans ?_ (dropRecord_absent h)
  simp [dropRecord]

theorem mark_absent {n : Nat} {j : List JournalRecord} (h : ∀ x ∈ j, x.txn ≠ n) : j.map (JournalRecord.mark n) = j :=
  (List.map_congr_left fun x hx => if_neg (h x hx)).trans (List.map_id j)

/-- The record of a number marked UNCERTAIN in its place among others. -/
theorem mark_split {r : JournalRecord} {a b : List JournalRecord} (h : ∀ x ∈ a ++ b, x.txn ≠ r.txn) :
    (a ++ r :: b).map (JournalRecord.mark r.txn) = a ++ { r with state := .uncertain } :: b := by
  rw [List.map_append, List.map_cons, mark_absent fun x hx => h x (List.mem_append_left b hx),
    mark_absent fun x hx => h x (List.mem_append_right a hx), JournalRecord.mark, if_pos rfl]

/-! ## What may become of the journal -/

namespace JournalView.Kept

variable {v : JournalView}

/-- Without a card operation no write is in flight and every record is UNCERTAIN (R90, R126). -/
theorem cardIdle (h : v.Kept) (ho : ∀ o, v.op = some o → ¬o.onCard) : v.write = none ∧ ∀ r ∈ v.journal, r.state ≠ .issued := by
  refine ⟨by_contra fun n => ?_, fun r hr hi => ?_⟩
  · obtain ⟨o, e, hc⟩ := h.written n
    exact ho o e hc
  · obtain ⟨o, e, hc, -⟩ := h.issued r hr hi
    exact ho o e hc

/-- During a card operation no TICKET or VOUCHER prints (R165). -/
theorem printsNone (h : v.Kept) {o : OpRecord} (e : v.op = some o) (hc : o.onCard) :
    v.job ≠ some .ticket ∧ v.job ≠ some .voucher := by
  refine ⟨fun n => ?_, fun n => ?_⟩
  · obtain ⟨p, hp, hk⟩ := h.ticket n
    rw [e] at hp
    cases hp
    rcases hc with hc | hc <;> rw [hk] at hc <;> cases hc
  · obtain ⟨p, hp, hk⟩ := h.voucher n
    rw [e] at hp
    cases hp
    rcases hc with hc | hc <;> rw [hk] at hc <;> cases hc

/-- A print job that belongs to no operation starts, or a job ends (R165). -/
theorem withJob (h : v.Kept) {k : Option JobKind} (hk : k ≠ some .ticket ∧ k ≠ some .voucher) :
    ({ v with job := k } : JournalView).Kept :=
  { h with ticket := fun e => absurd e hk.1, voucher := fun e => absurd e hk.2 }

/-- A printed operation is accepted, and its job starts (R91, R118, R157). -/
theorem printBegun (h : v.Kept) (hop : v.op = none) {o : OpRecord} {k : JobKind} (ht : v.txn ≤ o.txn)
    (hk : (k = .ticket ∧ o.kind = .printedSale) ∨ (k = .voucher ∧ o.kind = .voucher)) :
    ({ v with txn := o.txn, op := some o, k := o.amount, job := some k } : JournalView).Kept := by
  obtain ⟨hw, hi⟩ := h.cardIdle fun p e => by rw [hop] at e; cases e
  have hc : ¬o.onCard := by
    rintro (hc | hc) <;> rcases hk with ⟨-, e⟩ | ⟨-, e⟩ <;> rw [hc] at e <;> cases e
  exact
    { h with
      given := fun r hr => (h.given r hr).trans ht
      committed := fun p e => by cases e; exact ⟨rfl, Nat.le_refl _⟩
      issued := fun r hr e => absurd e (hi r hr)
      writes := fun p e n => by cases e; exact absurd n hc
      written := fun n => absurd hw n
      ticket := fun e => by
        cases e
        rcases hk with ⟨-, hk⟩ | ⟨e, -⟩
        · exact ⟨o, rfl, hk⟩
        · cases e
      voucher := fun e => by
        cases e
        rcases hk with ⟨e, -⟩ | ⟨-, hk⟩
        · cases e
        · exact ⟨o, rfl, hk⟩ }

/-- A card operation is accepted: its ISSUED record joins the journal and its write is owed (R91, R137). -/
theorem writeBegun (h : v.Kept) (hop : v.op = none) {o : OpRecord} {r : JournalRecord} (hc : o.onCard) (ht : v.txn < o.txn)
    (hl : v.journal.length < 8) (hcard : ∀ x ∈ v.journal, x.card ≠ r.card) (hi : r.state = .issued) (hn : r.txn = o.txn)
    (ha : r.amount = o.amount) :
    ({ v with journal := v.journal ++ [r], txn := o.txn, op := some o, k := o.amount, write := some o.txn } : JournalView).Kept := by
  have idle := (h.cardIdle fun p e => by rw [hop] at e; cases e).2
  have free (n : v.job = some .ticket ∨ v.job = some .voucher) : False := by
    rcases n with n | n
    · obtain ⟨p, e, -⟩ := h.ticket n
      rw [hop] at e; cases e
    · obtain ⟨p, e, -⟩ := h.voucher n
      rw [hop] at e; cases e
  have later : ∀ x ∈ v.journal, x.txn ≠ o.txn := fun x hx => Nat.ne_of_lt ((h.given x hx).trans_lt ht)
  refine ⟨by rw [List.length_append]; exact hl, ?_, ?_, fun x hx => ?_, ?_, fun p e => ?_, fun x hx e => ?_, fun p e _ => ?_,
    fun _ => ⟨o, rfl, hc⟩, fun n => (free (.inl n)).elim, fun n => (free (.inr n)).elim⟩
  · rw [List.map_append, List.nodup_append]
    refine ⟨h.cards, by simp, fun a ha b hb => ?_⟩
    obtain ⟨x, hx, rfl⟩ := List.mem_map.1 ha
    rw [List.map_singleton, List.mem_singleton] at hb
    exact hb ▸ hcard x hx
  · rw [List.map_append, List.nodup_append]
    refine ⟨h.numbers, by simp, fun a ha b hb => ?_⟩
    obtain ⟨x, hx, rfl⟩ := List.mem_map.1 ha
    rw [List.map_singleton, List.mem_singleton, hn] at hb
    exact hb ▸ later x hx
  · rcases List.mem_append.1 hx with hx | hx
    · exact (h.given x hx).trans ht.le
    · rw [List.mem_singleton.1 hx, hn]
  · show v.h = uncertainSum (v.journal ++ [r])
    rw [uncertainSum_append, uncertainSum_cons_issued hi, h.held]
    exact (add_zero _).symm
  · cases e
    exact ⟨rfl, Nat.le_refl _⟩
  · rcases List.mem_append.1 hx with hx | hx
    · exact absurd e (idle x hx)
    · rw [List.mem_singleton.1 hx]
      exact ⟨o, rfl, hc, hn.symm⟩
  · cases e
    exact ⟨rfl, r, List.mem_append_right _ (List.mem_singleton.2 rfl), hi, hn, ha⟩

/-- The books without an operation, the job ended with it or of no operation. -/
theorem opCleared (h : v.Kept) (ho : ∀ o, v.op = some o → ¬o.onCard) {k : Option JobKind}
    (hk : k ≠ some .ticket ∧ k ≠ some .voucher) (m : Money) :
    ({ v with op := none, k := m, job := k } : JournalView).Kept := by
  obtain ⟨hw, hi⟩ := h.cardIdle ho
  exact
    { h with
      committed := fun p e => by cases e
      issued := fun r hr e => absurd e (hi r hr)
      writes := fun p e => by cases e
      written := fun n => absurd hw n
      ticket := fun e => absurd e hk.1
      voucher := fun e => absurd e hk.2 }

/-- Of the operation's record and the others: it alone is ISSUED (R90). -/
theorem split (h : v.Kept) {o : OpRecord} (e : v.op = some o) (hc : o.onCard) : ∃ r a b, v.journal = a ++ r :: b ∧ r.state = .issued ∧
    r.txn = o.txn ∧ r.amount = o.amount ∧ ∀ x ∈ a ++ b, x.txn ≠ o.txn ∧ x.state ≠ .issued := by
  obtain ⟨-, r, hr, hi, hn, ha⟩ := h.writes o e hc
  obtain ⟨a, b, hj, hx⟩ := exists_split_of_numbers h.numbers hr
  refine ⟨r, a, b, hj, hi, hn, ha, fun x hm => ⟨hn ▸ hx x hm, fun hs => ?_⟩⟩
  obtain ⟨p, hp, -, hpn⟩ := h.issued x (hj ▸ ((List.sublist_cons_self r b).append_left a).subset hm) hs
  rw [e] at hp
  cases hp
  exact hx x hm (hpn.symm.trans hn.symm)

/-- A journal with one record fewer, the others as they stand. -/
theorem removed {v w : JournalView} (h : v.Kept) {r : JournalRecord} {a b : List JournalRecord} (hj : v.journal = a ++ r :: b)
    (hw : w.journal = a ++ b) (ht : w.txn = v.txn) :
    w.journal.length ≤ 8 ∧ (w.journal.map JournalRecord.card).Nodup ∧ (w.journal.map JournalRecord.txn).Nodup ∧
      ∀ x ∈ w.journal, x.txn ≤ w.txn := by
  have hs : w.journal.Sublist v.journal := by
    rw [hj, hw]
    exact (List.sublist_cons_self r b).append_left a
  exact ⟨hs.length_le.trans h.depth, h.cards.sublist (hs.map _), h.numbers.sublist (hs.map _),
    fun x hx => ht ▸ h.given x (hs.subset hx)⟩

/-- A card write settles or voids its operation: its record is removed (R92, R139). -/
theorem writeEnded (h : v.Kept) {o : OpRecord} (e : v.op = some o) (hc : o.onCard) (m : Money) :
    ({ v with journal := dropRecord o.txn v.journal, op := none, k := m, write := none } : JournalView).Kept := by
  obtain ⟨r, a, b, hj, hi, hn, -, others⟩ := h.split e hc
  have hd : dropRecord o.txn v.journal = a ++ b := by
    rw [hj, ← hn]
    exact dropRecord_split fun x hx => hn ▸ (others x hx).1
  obtain ⟨depth, cards, numbers, given⟩ := h.removed (w := { v with journal := dropRecord o.txn v.journal }) hj hd rfl
  refine ⟨depth, cards, numbers, given, ?_, fun p n => (by cases n), fun x hx n => ?_, fun p n => (by cases n), fun n => absurd rfl n,
    fun n => absurd n (h.printsNone e hc).1, fun n => absurd n (h.printsNone e hc).2⟩
  · show v.h = uncertainSum (dropRecord o.txn v.journal)
    rw [h.held, hd, hj, uncertainSum_append, uncertainSum_cons_issued hi, ← uncertainSum_append]
  · exact absurd n (others x (hd ▸ hx)).2

/-- A card write ends uncertain: its record becomes UNCERTAIN and K goes to H (R92, R140). -/
theorem writeUncertain (h : v.Kept) {o : OpRecord} (e : v.op = some o) (hc : o.onCard) :
    ({ v with journal := v.journal.map (JournalRecord.mark o.txn), op := none, h := v.h + v.k, k := 0, write := none } :
      JournalView).Kept := by
  obtain ⟨r, a, b, hj, hi, hn, ha, others⟩ := h.split e hc
  have hm : v.journal.map (JournalRecord.mark o.txn) = a ++ { r with state := .uncertain } :: b := by
    rw [hj, ← hn]
    exact mark_split fun x hx => hn ▸ (others x hx).1
  have hcard : (v.journal.map (JournalRecord.mark o.txn)).map JournalRecord.card = v.journal.map JournalRecord.card := by
    rw [hm, hj]; simp
  have htxn : (v.journal.map (JournalRecord.mark o.txn)).map JournalRecord.txn = v.journal.map JournalRecord.txn := by
    rw [hm, hj]; simp
  refine ⟨?_, hcard ▸ h.cards, htxn ▸ h.numbers, fun x hx => ?_, ?_, fun p n => (by cases n), fun x hx n => ?_,
    fun p n => (by cases n), fun n => absurd rfl n, fun n => absurd n (h.printsNone e hc).1,
    fun n => absurd n (h.printsNone e hc).2⟩
  · show (v.journal.map _).length ≤ 8
    rw [List.length_map]
    exact h.depth
  · obtain ⟨y, hy, hxy⟩ := List.mem_map.1 (htxn ▸ List.mem_map_of_mem (f := JournalRecord.txn) hx)
    exact hxy ▸ h.given y hy
  · show v.h + v.k = uncertainSum (v.journal.map (JournalRecord.mark o.txn))
    rw [hm, h.held, hj, (h.committed o e).1, ← ha, uncertainSum_append, uncertainSum_append, uncertainSum_cons_issued hi,
      uncertainSum_cons_uncertain rfl, add_assoc, add_comm (uncertainSum b)]
  · have hx' : x ∈ a ++ { r with state := .uncertain } :: b := hm ▸ hx
    rcases List.mem_append.1 hx' with hx' | hx'
    · exact absurd n (others x (List.mem_append_left b hx')).2
    · rcases List.mem_cons.1 hx' with rfl | hx'
      · cases n
      · exact absurd n (others x (List.mem_append_right a hx')).2

/-- An UNCERTAIN record is resolved or written off: it is removed, and H falls by its amount (R96, R127, R141). -/
theorem dropped (h : v.Kept) {r : JournalRecord} (hr : r ∈ v.journal) (hu : r.state = .uncertain) :
    ({ v with journal := dropRecord r.txn v.journal, h := v.h - r.amount } : JournalView).Kept := by
  obtain ⟨a, b, hj, others⟩ := exists_split_of_numbers h.numbers hr
  have hd : dropRecord r.txn v.journal = a ++ b := by
    rw [hj]
    exact dropRecord_split others
  have hs : ∀ x ∈ dropRecord r.txn v.journal, x ∈ v.journal := fun x hx => (List.mem_filter.1 hx).1
  obtain ⟨depth, cards, numbers, given⟩ := h.removed (w := { v with journal := dropRecord r.txn v.journal }) hj hd rfl
  refine ⟨depth, cards, numbers, given, ?_, h.committed, fun x hx => h.issued x (hs x hx), fun o e hc => ?_, h.written, h.ticket,
    h.voucher⟩
  · show v.h - r.amount = uncertainSum (dropRecord r.txn v.journal)
    rw [h.held, hd, hj, uncertainSum_append, uncertainSum_append, uncertainSum_cons_uncertain hu, add_left_comm,
      add_sub_cancel_left]
  · obtain ⟨hw, x, hx, hi, hn, ha⟩ := h.writes o e hc
    refine ⟨hw, x, ?_, hi, hn, ha⟩
    refine List.mem_filter.2 ⟨hx, bne_iff_ne.2 fun n => ?_⟩
    have : x = r := List.inj_on_of_nodup_map h.numbers hx hr n
    rw [this, hu] at hi
    cases hi

end JournalView.Kept

end Sys2Proof.Machine
end

section
/-! PROOFS. The journal's view under every operation (R90, R126, R133): most operations leave it as it is. -/

namespace Sys2Proof.Machine
/-! ## Operations that leave the lines' queues as they are -/

theorem State.issueFree_journalView (r : Report) (s : State) : (s.issueFree r).journalView = s.journalView := by
  unfold State.issueFree
  split <;> rfl

theorem State.issueReserved_journalView (r : Report) (s : State) : (s.issueReserved r).journalView = s.journalView := by
  unfold State.issueReserved
  split
  · rfl
  · exact s.issueFree_journalView r

theorem State.entryTest_journalView (s : State) : s.entryTest.journalView = s.journalView := by
  unfold State.entryTest
  split <;> rfl

theorem State.tubesChanged_journalView (s before : State) : (s.tubesChanged before).journalView = s.journalView := by
  unfold State.tubesChanged
  split <;> rfl

theorem State.enterFault_journalView (k : FaultKind) (s : State) : (s.enterFault k).journalView = s.journalView :=
  State.entryTest_journalView _

theorem State.coilFault_journalView (failed : PerCoil Bool) (s : State) : (s.coilFault failed).journalView = s.journalView :=
  State.enterFault_journalView _ _

theorem State.pwmPeriod_journalView (sense : PerCoil Sense) (s : State) : (s.pwmPeriod sense).journalView = s.journalView := by
  unfold State.pwmPeriod
  dsimp only
  split
  · rfl
  · split
    · exact State.coilFault_journalView _ _
    · rfl

theorem State.pullInCheck_journalView (ends : PerCoil Bool) (sense : PerCoil Sense) (s : State) :
    (s.pullInCheck ends sense).journalView = s.journalView := by
  unfold State.pullInCheck
  dsimp only
  split
  · rfl
  · split
    · split
      · exact State.coilFault_journalView _ _
      · rfl
    · rfl

theorem State.diverterChangeover_journalView (s : State) : s.diverterChangeover.journalView = s.journalView := by
  unfold State.diverterChangeover
  split <;> rfl

/-! ### Activations -/

theorem State.afterActivation_journalView (k : TableKind) (before s : State) :
    (State.afterActivation k before s).journalView = s.journalView := by
  unfold State.afterActivation
  split
  · have h : (s.tubesChanged before).entryTest.journalView = s.journalView :=
      (State.entryTest_journalView _).trans (s.tubesChanged_journalView before)
    generalize (s.tubesChanged before).entryTest = t at h ⊢
    refine Eq.trans ?_ h
    dsimp only
    split
    · split <;> rfl
    · split <;> rfl
  · exact s.entryTest_journalView
  all_goals rfl

/-- A copy put into service touches none of the books. -/
theorem State.install_journalView (k : TableKind) (l : Load) (s : State) :
    (s.onRetained (Retained.install k l)).journalView = s.journalView := by
  cases k <;> rfl

theorem State.takeActivation_journalView (k : TableKind) (waited : Bool) (s : State) :
    (s.takeActivation k waited).journalView = s.journalView :=
  (State.afterActivation_journalView _ _ _).trans ((State.issueReserved_journalView _ _).trans (s.install_journalView k _))

theorem State.fallDue_journalView (k : TableKind) (s : State) : (s.fallDue k).journalView = s.journalView := by
  unfold State.fallDue
  dsimp only
  split
  · exact State.takeActivation_journalView _ _ _
  · rfl

theorem State.takeWaiting_journalView (k : TableKind) (s : State) : (s.takeWaiting k).journalView = s.journalView := by
  unfold State.takeWaiting
  dsimp only
  split
  · exact State.takeActivation_journalView _ _ _
  · rfl

theorem State.testSchedules_journalView (s : State) : s.testSchedules.2.journalView = s.journalView :=
  State.testSchedules_keeps (fun t => t.journalView = s.journalView) (fun k t h => (t.fallDue_journalView k).trans h) s rfl

/-! ### The chute -/

theorem State.returnCoin_journalView (m : Measurement) (s : State) : (s.returnCoin m).journalView = s.journalView := by
  unfold State.returnCoin
  dsimp only
  refine (State.entryTest_journalView _).trans ?_
  split <;> rfl

theorem State.decideCoin_journalView (s : State) : s.decideCoin.journalView = s.journalView := by
  unfold State.decideCoin
  dsimp only
  split
  · exact State.entryTest_journalView _
  · exact State.returnCoin_journalView _ _

theorem State.chuteToIdle_journalView (s : State) : s.chuteToIdle.journalView = s.journalView :=
  (State.entryTest_journalView _).trans (State.takeWaiting_journalView _ _)

theorem State.creditCoin_journalView (a : AcceptedCoin) (s : State) : (s.creditCoin a).journalView = s.journalView := by
  unfold State.creditCoin
  dsimp only
  split
  · exact State.tubesChanged_journalView _ _
  · rfl

theorem State.coinAtC_journalView (s : State) : s.coinAtC.journalView = s.journalView := by
  unfold State.coinAtC
  dsimp only
  refine (State.chuteToIdle_journalView _).trans ?_
  split
  · exact State.creditCoin_journalView _ _
  · rfl
  · rfl

theorem State.riseIn_journalView (s : State) (c : ChuteState) (x : Sensor) : (s.riseIn c x).journalView = s.journalView := by
  cases c with
  | idle => cases x with
    | a => exact State.entryTest_journalView _
    | b => exact State.enterFault_journalView _ _
    | c => exact State.enterFault_journalView _ _
    | d => rfl
  | onA => cases x with
    | a => rfl
    | b => exact State.enterFault_journalView _ _
    | c => exact State.enterFault_journalView _ _
    | d => exact State.enterFault_journalView _ _
  | gap => cases x with
    | b => rfl
    | a => exact State.enterFault_journalView _ _
    | c => exact State.enterFault_journalView _ _
    | d => exact State.enterFault_journalView _ _
  | onB => cases x with
    | b => rfl
    | a => exact State.enterFault_journalView _ _
    | c => exact State.enterFault_journalView _ _
    | d => exact State.enterFault_journalView _ _
  | accepting => cases x with
    | c => exact State.coinAtC_journalView _
    | a => exact State.enterFault_journalView _ _
    | b => exact State.enterFault_journalView _ _
    | d => exact State.enterFault_journalView _ _
  | returning => cases x with
    | d => exact State.chuteToIdle_journalView _
    | a => exact State.enterFault_journalView _ _
    | b => exact State.enterFault_journalView _ _
    | c => exact State.enterFault_journalView _ _
  | fault => cases x <;> rfl

theorem State.sensorRise_journalView (x : Sensor) (n : Nat) (s : State) : (s.sensorRise x n).journalView = s.journalView := by
  unfold State.sensorRise
  split
  · rfl
  · exact State.riseIn_journalView _ _ _

theorem State.fallIn_journalView (s : State) (c : ChuteState) (x : Sensor) : (s.fallIn c x).journalView = s.journalView := by
  unfold State.fallIn
  split
  case h_2 => exact State.decideCoin_journalView _
  all_goals rfl

theorem State.sensorFall_journalView (x : Sensor) (n : Nat) (s : State) : (s.sensorFall x n).journalView = s.journalView := by
  unfold State.sensorFall
  split
  · exact State.fallIn_journalView _ _ _
  · rfl

theorem State.aLimitPasses_journalView (s : State) : s.aLimitPasses.journalView = s.journalView := by
  unfold State.aLimitPasses
  split
  case h_1 => exact State.enterFault_journalView _ _
  case h_2 => exact State.enterFault_journalView _ _
  all_goals rfl

theorem State.gapLimitPasses_journalView (s : State) : s.gapLimitPasses.journalView = s.journalView := by
  unfold State.gapLimitPasses
  split
  case h_1 => exact State.returnCoin_journalView _ _
  all_goals rfl

theorem State.acceptWaitPasses_journalView (s : State) : s.acceptWaitPasses.journalView = s.journalView := by
  unfold State.acceptWaitPasses
  split
  case h_1 => exact State.enterFault_journalView _ _
  all_goals rfl

theorem State.returnWaitPasses_journalView (s : State) : s.returnWaitPasses.journalView = s.journalView := by
  unfold State.returnWaitPasses
  split
  case h_1 => exact State.enterFault_journalView _ _
  all_goals rfl

theorem State.faultClears_journalView (s : State) : s.faultClears.journalView = s.journalView := State.chuteToIdle_journalView _

theorem State.idleWaitPasses_journalView (s : State) : s.idleWaitPasses.journalView = s.journalView := by
  unfold State.idleWaitPasses
  split
  · exact State.faultClears_journalView _
  · rfl

/-! ### The purchase and the payout -/

theorem State.endPayout_journalView (s : State) : s.endPayout.journalView = s.journalView := by
  unfold State.endPayout
  split
  · rfl
  · exact (State.entryTest_journalView _).trans (State.issueReserved_journalView _ _)

theorem State.startEntry_journalView (s : State) : s.startEntry.journalView = s.journalView := by
  unfold State.startEntry
  split
  · rfl
  · split
    · rfl
    · split <;> rfl

theorem State.runPlan_journalView (es : List PlanEntry) (s : State) : (s.runPlan es).journalView = s.journalView := by
  unfold State.runPlan
  split
  · rfl
  · split
    · exact State.endPayout_journalView _
    · exact State.startEntry_journalView _

theorem State.startPayout_journalView (c : PayoutCause) (s : State) : (s.startPayout c).journalView = s.journalView :=
  (State.entryTest_journalView _).trans (State.runPlan_journalView _ _)

theorem State.entryDone_journalView (s : State) : s.entryDone.journalView = s.journalView := by
  unfold State.entryDone
  split
  · rfl
  · split
    · rfl
    · exact State.runPlan_journalView _ _

/-- A paid coin moves neither H nor K (R95). -/
theorem Move.paidCoin_books (v : Money) (l : Ledger) : (Move.paidCoin v l).h = l.h ∧ (Move.paidCoin v l).k = l.k := by
  unfold Move.paidCoin
  split <;> exact ⟨rfl, rfl⟩

theorem State.paidCoin_journalView (i : Fin 4) (s : State) : (s.paidCoin i).journalView = s.journalView := by
  have paid (v : Money) : (s.onLedger (Move.paidCoin v)).journalView = s.journalView := by
    unfold State.journalView
    rw [← (Move.paidCoin_books v s.retained.ledger).1, ← (Move.paidCoin_books v s.retained.ledger).2]
    rfl
  unfold State.paidCoin
  dsimp only
  split
  · exact (State.entryDone_journalView _).trans ((State.tubesChanged_journalView _ _).trans (paid _))
  · exact (State.tubesChanged_journalView _ _).trans (paid _)

theorem State.exitPulse_journalView (i : Fin 4) (s : State) : (s.exitPulse i).journalView = s.journalView := by
  unfold State.exitPulse
  split
  · exact State.paidCoin_journalView _ _
  · exact State.tubesChanged_journalView _ _
  · rfl

theorem State.afterJam_journalView (s : State) : s.afterJam.journalView = s.journalView := by
  unfold State.afterJam
  split
  · rfl
  · split
    · exact State.endPayout_journalView _
    · exact State.runPlan_journalView _ _

theorem State.jamTimeout_journalView (i : Fin 4) (s : State) : (s.jamTimeout i).journalView = s.journalView := by
  unfold State.jamTimeout
  split
  · exact (State.afterJam_journalView _).trans (State.tubesChanged_journalView _ _)
  · rfl

theorem State.trailingEnds_journalView (i : Fin 4) (s : State) : (s.trailingEnds i).journalView = s.journalView := by
  unfold State.trailingEnds
  split <;> rfl

theorem State.doorChange_journalView (b : Bool) (s : State) : (s.doorChange b).journalView = s.journalView := by
  unfold State.doorChange
  split
  · rfl
  · exact (State.startEntry_journalView _).trans (State.entryTest_journalView _)

theorem State.leverPress_journalView (s : State) : s.leverPress.journalView = s.journalView := by
  unfold State.leverPress
  split
  · exact State.startPayout_journalView _ _
  · rfl

theorem State.comeToRest_journalView (s : State) : s.comeToRest.journalView = s.journalView :=
  (State.entryTest_journalView _).trans (by unfold State.rest; split <;> rfl)

theorem State.afterSale_journalView (o : OpRecord) (v : Bool) (s : State) : (s.afterSale o v).journalView = s.journalView := by
  unfold State.afterSale
  split
  · exact State.startPayout_journalView _ _
  · exact State.comeToRest_journalView _

/-! ### The print unit -/

/-- A change of the printer that keeps the kind of its job. -/
theorem State.onPrinter_journalView {f : Printer → Printer} {s : State}
    (h : (f s.printer).job.map Job.kind = s.printer.job.map Job.kind) : (s.onPrinter f).journalView = s.journalView := by
  unfold State.journalView
  rw [← h]
  rfl

theorem State.printDuty_journalView (s : State) : s.printDuty.journalView = s.journalView := by
  unfold State.printDuty
  split
  · rfl
  · exact State.onPrinter_journalView (by rw [(Printer.duty_keeps _).1])

theorem State.roomAskDelay_journalView (s : State) : s.roomAskDelay.journalView = s.journalView := by
  unfold State.roomAskDelay
  split
  · exact State.printDuty_journalView _
  · rfl

theorem Printer.takeRoom_job (x : Bool) (n : Nat) (p : Printer) : (p.takeRoom x n).job = p.job := by
  unfold Printer.takeRoom
  split
  · unfold Printer.roomInExchange
    split
    · rfl
    · split <;> rfl
  · exact (Printer.duty_keeps _).1

theorem Job.lineEnds_kind (tag : Nat) (valid : Bool) (j : Job) : (j.lineEnds tag valid).kind = j.kind := by
  unfold Job.lineEnds
  split <;> rfl

/-- A change of the card unit that keeps the number of its write. -/
theorem State.onCard_journalView {f : CardUnit → CardUnit} {s : State} (h : writeTxn (f s.card).write = writeTxn s.card.write) :
    (s.onCard f).journalView = s.journalView := by
  unfold State.journalView
  rw [← h]
  rfl

theorem CardUnit.class3Ends_write (f : Class3) (valid : Bool) (c : CardUnit) : (c.class3Ends f valid).write = c.write := by
  unfold CardUnit.class3Ends
  split <;> rfl

theorem State.tellOutcome_journalView (o : Owner) (valid : Bool) (s : State) : (s.tellOutcome o valid).journalView = s.journalView := by
  cases o with
  | printLine tag =>
    refine (State.printDuty_journalView _).trans (State.onPrinter_journalView ?_)
    rw [Option.map_map]
    exact congrArg (fun g => s.printer.job.map g) (funext (Job.lineEnds_kind tag valid))
  | printCut tag =>
    refine (State.printDuty_journalView _).trans (State.onPrinter_journalView ?_)
    split <;> rfl
  | printAsk b =>
    refine (State.printDuty_journalView _).trans (State.onPrinter_journalView ?_)
    split
    · rfl
    · split <;> rfl
  | hold => exact State.onCard_journalView (by rw [CardUnit.class3Ends_write])
  | release => exact State.onCard_journalView (by rw [CardUnit.class3Ends_write])
  | cardWrite => rfl
  | forward => rfl
  | poll => rfl

/-! ### The card unit -/

theorem State.afterUnbind_journalView (s : State) : s.afterUnbind.journalView = s.journalView := by
  have rest : s.rest.journalView = s.journalView := by unfold State.rest; split <;> rfl
  unfold State.afterUnbind
  dsimp only
  split
  · split
    · exact (State.entryTest_journalView _).trans rest
    · exact rest
  · rfl

theorem State.cardLeaves_journalView (s : State) : s.cardLeaves.journalView = s.journalView := by
  unfold State.cardLeaves
  split
  · rfl
  · split
    · exact State.afterUnbind_journalView _
    · rfl
    · rfl

/-! ### Slots, the clock and what every frame does -/

theorem State.issuePresence_journalView (r : Role) (n : Nat) (s : State) : (s.issuePresence r n).journalView = s.journalView := by
  cases r <;> rfl

theorem State.tellPresent_journalView (r : Role) (s : State) : (s.tellPresent r).journalView = s.journalView := by
  cases r <;> rfl

theorem State.answered_journalView (i : Fin 6) (s : State) : (s.answered i).journalView = s.journalView := by
  unfold State.answered
  split
  · rfl
  · exact (State.issuePresence_journalView _ _ _).trans (State.tellPresent_journalView _ _)

theorem State.reprobeDue_journalView (i : Fin 6) (s : State) : (s.reprobeDue i).journalView = s.journalView := by
  unfold State.reprobeDue
  split <;> rfl

theorem State.groupEnds_journalView (s : State) : s.groupEnds.journalView = s.journalView := by
  unfold State.groupEnds
  split <;> rfl

theorem State.frameSeen_journalView (s : State) : s.frameSeen.journalView = s.journalView := by
  unfold State.frameSeen
  dsimp only
  split
  · exact State.entryTest_journalView _
  · rfl

theorem State.passDown_journalView (f : Frame) (s : State) : (s.passDown f).journalView = s.journalView := by
  unfold State.passDown
  split <;> rfl

theorem State.silenceExpires_journalView (s : State) : s.silenceExpires.journalView = s.journalView := by
  unfold State.silenceExpires
  split
  · exact State.entryTest_journalView _
  · rfl

theorem State.takeNext_journalView (s : State) : s.takeNext.journalView = s.journalView := by
  unfold State.takeNext
  split <;> rfl

theorem State.transmitEnds_journalView (s : State) : s.transmitEnds.journalView = s.journalView := by
  unfold State.transmitEnds
  split <;> rfl

theorem State.secondAdvances_journalView (s : State) : s.secondAdvances.journalView = s.journalView := by
  unfold State.secondAdvances
  dsimp only
  split
  · rfl
  · split
    · exact State.testSchedules_journalView _
    · rfl

theorem State.hundredthAdvances_journalView (s : State) : s.hundredthAdvances.journalView = s.journalView := by
  unfold State.hundredthAdvances
  split
  · rfl
  · split
    · rfl
    · exact s.secondAdvances_journalView

theorem State.oscillatorStops_journalView (s : State) : s.oscillatorStops.journalView = s.journalView := by
  unfold State.oscillatorStops
  split <;> rfl

theorem State.powerFails_journalView (s : State) : s.powerFails.journalView = s.journalView := by
  unfold State.powerFails
  split <;> rfl

theorem State.backupFails_journalView (s : State) : s.backupFails.journalView = s.journalView := by
  unfold State.backupFails
  split <;> rfl

/-- A grant touches none of the books: the write that goes out keeps its number, the job its kind (R13, R137, R167). -/
theorem State.grant_journalView (s : State) : s.grant.journalView = s.journalView := by
  refine State.grant_keeps (fun t => t.journalView = s.journalView) s rfl (fun t e => ?_) (fun t e => ?_) (fun t e => ?_)
    (fun t e => ?_) (fun t e => ?_)
  · unfold State.grantWrite at e
    split at e
    · next w i hw hi =>
      split at e
      · cases e
      · cases e
        unfold State.journalView State.begin State.onCard CardUnit.writeBegins
        rw [hw]
        rfl
    all_goals cases e
  · unfold State.grantPrint at e
    split at e
    · cases e
    · split at e
      · cases e
      · cases e; rfl
      · obtain ⟨j, -, rfl⟩ := Option.map_eq_some_iff.1 e; rfl
      · obtain ⟨j, -, rfl⟩ := Option.map_eq_some_iff.1 e
        exact State.onPrinter_journalView (s := s) (f := Printer.cutBegins) (by rw [Printer.cutBegins, Option.map_map]; rfl)
  · unfold State.grantClass3 at e
    split at e
    · cases e
    · split at e
      · cases e
      · obtain ⟨j, -, rfl⟩ := Option.map_eq_some_iff.1 e; rfl
      · cases e; rfl
  · unfold State.grantForward at e
    split at e
    · cases e
    · split at e
      all_goals
        split at e
        · cases e; rfl
        · cases e
  · unfold State.grantPoll at e
    split at e
    · cases e; rfl
    · obtain ⟨j, -, rfl⟩ := Option.map_eq_some_iff.1 e; rfl

end Sys2Proof.Machine
end

section
/-! PROOFS. The journal under every command (R90, R126, R133, R137 to R141): acceptances, the ends of card writes and of print jobs,
resolutions, write-offs and starts each do to the books what the journal's view allows. -/

namespace Sys2Proof.Machine

/-- The journal is kept, said of the journal's view. -/
def State.JournalHeld (s : State) : Prop := s.journalView.Kept

theorem State.JournalHeld.of_view {s t : State} (h : s.JournalHeld) (e : t.journalView = s.journalView) : t.JournalHeld := by
  unfold State.JournalHeld
  rwa [e]

/-! ## What changes the journal's view -/

/-- An acceptance gives the operation its number and commits its amount (R91). -/
theorem State.acceptOp_journalView (o : OpRecord) (n : Nat) (s : State) : (s.acceptOp o n).journalView =
    { s.journalView with txn := o.txn, op := some o, k := s.retained.ledger.k + o.amount } := rfl

theorem State.startJob_journalView (k : JobKind) (txn t : Nat) (v : FieldValues) (s : State) :
    (s.startJob k txn t v).journalView = { s.journalView with job := some k } := by
  unfold State.startJob State.journalView State.onPrinter
  dsimp only
  rw [(Printer.duty_keeps _).1]
  rfl

/-- The end of an operation clears its record and moves its money (R92). -/
theorem State.endOp_journalView (m : Ledger → Ledger) (r : Report) (s : State) : (s.endOp m r).journalView =
    { s.journalView with op := none, h := (m s.retained.ledger).h, k := (m s.retained.ledger).k } :=
  congrArg (fun v : JournalView => { v with op := none }) (State.issueReserved_journalView r (s.onLedger m))

theorem State.issueCard_journalView (n : Nat) (s : State) : (s.issueCard n).journalView = s.journalView := rfl

theorem State.onCard_writeEnded (s : State) :
    (s.onCard fun c => { c with write := .none }).journalView = { s.journalView with write := none } := rfl

theorem State.writeEnds_journalView (s : State) : s.writeEnds.journalView = { s.journalView with write := none } := by
  unfold State.writeEnds
  dsimp only
  split <;> rfl

/-- A settled top-up's receipt touches none of the books but starts a RECEIPT job (R142). -/
theorem State.handReceipt_held (o : OpRecord) (w : CardWrite) (n : Nat) (s : State) (h : s.JournalHeld) :
    (s.handReceipt o w n).JournalHeld := by
  unfold State.handReceipt
  dsimp only
  split
  · exact h
  · split
    · unfold State.JournalHeld
      rw [State.startJob_journalView]
      exact JournalView.Kept.withJob h (by decide)
    · exact h.of_view (State.issueReserved_journalView _ _)

/-! ## The ends of card writes (R139, R140) -/

/-- The write in flight is the card operation's, of its number (R90). -/
theorem State.JournalHeld.inFlight {s : State} (h : s.JournalHeld) {o : OpRecord} {w : CardWrite}
    (e : s.writeInFlight = some (o, w)) : s.journalView.op = some o ∧ o.onCard ∧ w.txn = o.txn := by
  have ho : s.journalView.op = some o := s.writeInFlight_op o w e
  have hw : s.journalView.write = some w.txn := by
    unfold State.writeInFlight at e
    split at e
    · next hw => cases e; exact congrArg writeTxn hw
    · next hw => cases e; exact congrArg writeTxn hw
    · cases e
    · cases e
  obtain ⟨p, hp, hc⟩ := h.written (by rw [hw]; exact Option.some_ne_none _)
  rw [ho] at hp
  cases hp
  refine ⟨ho, hc, ?_⟩
  have := (h.writes o ho hc).1
  rw [hw] at this
  exact Option.some.inj this

theorem State.writeDone_held (o : OpRecord) (w : CardWrite) (n : Nat) (s : State) (h : s.JournalHeld)
    (e : s.writeInFlight = some (o, w)) : (s.writeDone o w n).JournalHeld := by
  obtain ⟨ho, hc, hn⟩ := h.inFlight e
  have ended := JournalView.Kept.writeEnded h ho hc 0
  unfold State.writeDone
  dsimp only
  rw [hn]
  split
  · refine State.JournalHeld.of_view (State.handReceipt_held _ _ _ _ ?_) (State.comeToRest_journalView _)
    unfold State.JournalHeld
    rw [State.writeEnds_journalView, State.issueCard_journalView, State.endOp_journalView]
    exact ended
  · refine State.JournalHeld.of_view ?_ (State.afterSale_journalView _ _ _)
    unfold State.JournalHeld
    rw [State.writeEnds_journalView, State.issueCard_journalView, State.endOp_journalView]
    exact ended

theorem State.writeFail_held (o : OpRecord) (w : CardWrite) (s : State) (h : s.JournalHeld) (e : s.writeInFlight = some (o, w)) :
    (s.writeFail o w).JournalHeld := by
  obtain ⟨ho, hc, hn⟩ := h.inFlight e
  have ended := JournalView.Kept.writeEnded h ho hc 0
  unfold State.writeFail
  dsimp only
  rw [hn]
  split
  · refine State.JournalHeld.of_view ?_ (State.comeToRest_journalView _)
    show State.JournalHeld (State.writeEnds _)
    unfold State.JournalHeld
    rw [State.writeEnds_journalView, State.endOp_journalView]
    exact ended
  · refine State.JournalHeld.of_view ?_ (State.afterSale_journalView _ _ _)
    unfold State.JournalHeld
    rw [State.writeEnds_journalView, State.endOp_journalView]
    exact ended

theorem State.writeUncertain_held (o : OpRecord) (w : CardWrite) (c : UncertainCause) (s : State) (h : s.JournalHeld)
    (e : s.writeInFlight = some (o, w)) : (s.writeUncertain o w c).JournalHeld := by
  obtain ⟨ho, hc, hn⟩ := h.inFlight e
  have ended := JournalView.Kept.writeUncertain h ho hc
  unfold State.writeUncertain
  dsimp only
  rw [hn]
  generalize hu : State.onCard (fun c : CardUnit => { c with write := .none }) _ = u
  have hv : u.JournalHeld := by
    subst hu
    unfold State.JournalHeld
    rw [State.onCard_writeEnded, State.endOp_journalView]
    exact ended
  split
  · refine State.JournalHeld.of_view (hv.of_view ?_) (State.comeToRest_journalView _)
    show State.journalView (if _ then _ else _) = _
    split <;> rfl
  · refine State.JournalHeld.of_view (hv.of_view ?_) (State.afterSale_journalView _ _ _)
    split <;> rfl

theorem State.takeWritten_held (txn : Nat) (r : WriteResult) (s : State) (h : s.JournalHeld) : (s.takeWritten txn r).JournalHeld := by
  unfold State.takeWritten
  split
  · exact h
  · next o w e =>
    split
    · split
      · exact State.writeDone_held _ _ _ _ h e
      · exact State.writeFail_held _ _ _ h e
      · exact State.writeUncertain_held _ _ _ _ h e
    · exact h

theorem State.writeTimeout_held (s : State) (h : s.JournalHeld) : s.writeTimeout.JournalHeld := by
  unfold State.writeTimeout
  split
  · exact h
  · next o w e =>
    split
    · exact State.writeUncertain_held _ _ _ _ h e
    · exact h

theorem State.cardAbsent_held (s : State) (h : s.JournalHeld) : s.cardAbsent.JournalHeld := by
  unfold State.cardAbsent
  dsimp only
  split
  · next o w e => exact State.writeUncertain_held _ _ _ _ (State.JournalHeld.of_view (s := s) h rfl) e
  · split
    · exact State.JournalHeld.of_view (s := s) h (State.afterUnbind_journalView _)
    · exact h

/-! ## Resolution and write-off (R96, R127, R141) -/

theorem State.bindCard_held (p : Presentation) (s : State) (h : s.JournalHeld) : (s.bindCard p).JournalHeld := by
  have resolved : (s.resolve p).JournalHeld := by
    unfold State.resolve
    split
    · exact h
    · next r o e =>
      obtain ⟨q, hq, e⟩ := Option.bind_eq_some_iff.1 e
      obtain ⟨x, -, e⟩ := Option.map_eq_some_iff.1 e
      cases e
      have hm := List.mem_of_find?_eq_some hq
      have hu := List.find?_some hq
      rw [Bool.and_eq_true, beq_iff_eq, beq_iff_eq] at hu
      have hl : (r.resolution o s.retained.ledger).h = s.retained.ledger.h - r.amount ∧
          (r.resolution o s.retained.ledger).k = s.retained.ledger.k := by
        unfold JournalRecord.resolution
        split
        · split <;> exact ⟨rfl, rfl⟩
        · exact ⟨rfl, rfl⟩
      refine State.JournalHeld.of_view (s := (s.onJournal (dropRecord r.txn)).onLedger (r.resolution o)) ?_
        (State.issueFree_journalView _ _)
      have dropped := JournalView.Kept.dropped h hm hu.2
      unfold State.JournalHeld
      convert dropped using 1
      show JournalView.mk _ _ _ (r.resolution o s.retained.ledger).h (r.resolution o s.retained.ledger).k _ _ = _
      rw [hl.1, hl.2]
      rfl
  unfold State.bindCard
  dsimp only
  refine resolved.of_view ((State.entryTest_journalView _).trans ?_)
  show State.journalView (if _ then _ else _) = _
  split
  all_goals
    show State.journalView (if _ then _ else _) = _
    split <;> rfl

theorem State.takeSeen_held (p : Presentation) (s : State) (h : s.JournalHeld) : (s.takeSeen p).JournalHeld := by
  unfold State.takeSeen
  split
  · split
    · exact h
    · exact h.of_view s.cardLeaves_journalView
  · split
    · exact s.bindCard_held p h
    · exact h

theorem State.takeCardFrame_held (k : Byte) (p : List Byte) (s : State) (h : s.JournalHeld) : (s.takeCardFrame k p).JournalHeld := by
  unfold State.takeCardFrame
  split
  · split
    · exact h
    · exact State.takeSeen_held _ _ h
  · split
    · split
      · exact h.of_view s.cardLeaves_journalView
      · exact h
    · split
      · exact h
      · exact State.takeWritten_held _ _ _ h

theorem State.serveWriteOff_held (txn : Nat) (s : State) (h : s.JournalHeld) : (s.serveWriteOff txn).JournalHeld := by
  unfold State.serveWriteOff
  dsimp only
  split
  · exact h
  · split
    · exact h
    · next r e =>
      have hm := List.mem_of_find?_eq_some e
      have hu := List.find?_some e
      rw [Bool.and_eq_true, beq_iff_eq, beq_iff_eq] at hu
      refine State.JournalHeld.of_view (s := (s.onJournal (dropRecord r.txn)).onLedger (Move.writeOff r.amount))
        (JournalView.Kept.dropped h hm hu.2) ?_
      show State.journalView (if _ then _ else _) = _
      split <;> rfl

/-! ## Print jobs (R119, R158, R167, R168) -/

/-- A printed operation ends with its job. -/
theorem State.endOp_held {m : Ledger → Ledger} {r : Report} {s : State} (hm : (m s.retained.ledger).h = s.retained.ledger.h)
    (h : s.JournalHeld) (ho : ∀ o, s.retained.op = some o → ¬o.onCard) (hj : s.printer.job = none) : (s.endOp m r).JournalHeld := by
  unfold State.JournalHeld
  rw [State.endOp_journalView, hm]
  have hk : s.journalView.job = none := by unfold State.journalView; rw [hj]; rfl
  have cleared := JournalView.Kept.opCleared h ho (k := none) (by decide) (m s.retained.ledger).k
  rw [← hk] at cleared
  exact cleared

theorem State.ticketEnds_held (failure : Option VoidCause) {s : State} (h : s.JournalHeld)
    (ho : ∀ o, s.retained.op = some o → ¬o.onCard) (hj : s.printer.job = none) : (s.ticketEnds failure).JournalHeld := by
  unfold State.ticketEnds
  split
  · exact h
  · split
    all_goals
      refine State.JournalHeld.of_view ?_ (State.afterSale_journalView _ _ _)
      exact State.endOp_held rfl h ho hj

theorem State.voucherEnds_held (failure : Option VoidCause) {s : State} (h : s.JournalHeld)
    (ho : ∀ o, s.retained.op = some o → ¬o.onCard) (hj : s.printer.job = none) : (s.voucherEnds failure).JournalHeld := by
  unfold State.voucherEnds
  split
  · exact h
  · split
    all_goals
      refine State.JournalHeld.of_view ?_ (State.comeToRest_journalView _)
      exact State.endOp_held rfl h ho hj

/-- The operation a TICKET or VOUCHER prints for is none of a card (R165). -/
theorem State.JournalHeld.printed {s : State} (h : s.JournalHeld) {j : Job} (hj : s.printer.job = some j)
    (hk : j.kind = .ticket ∨ j.kind = .voucher) (o : OpRecord) (ho : s.retained.op = some o) : ¬o.onCard := by
  have job : s.journalView.job = some j.kind := by unfold State.journalView; rw [hj]; rfl
  have ho : s.journalView.op = some o := ho
  intro hc
  obtain ⟨ht, hv⟩ := h.printsNone ho hc
  rw [job] at ht hv
  rcases hk with hk | hk
  · exact ht (congrArg some hk)
  · exact hv (congrArg some hk)

theorem State.jobEnds_held (failure : Option VoidCause) (s : State) (h : s.JournalHeld) : (s.jobEnds failure).JournalHeld := by
  unfold State.jobEnds
  split
  · exact h
  · next j hj =>
    refine State.JournalHeld.of_view ?_ (State.takeWaiting_journalView _ _)
    generalize ht : s.onPrinter _ = t
    have held : t.JournalHeld := by
      subst ht
      exact JournalView.Kept.withJob (v := s.journalView) h (k := none) (by decide)
    have ho : t.retained.op = s.retained.op := by subst ht; rfl
    have hn : t.printer.job = none := by subst ht; rfl
    unfold State.tellOwner
    split
    · next e => exact State.ticketEnds_held _ held (ho ▸ h.printed hj (.inl e)) hn
    · next e => exact State.voucherEnds_held _ held (ho ▸ h.printed hj (.inr e)) hn
    · exact State.JournalHeld.of_view (s := t) held (State.issueReserved_journalView _ _)
    · exact held

theorem State.cutTimeout_held (s : State) (h : s.JournalHeld) : s.cutTimeout.JournalHeld := by
  unfold State.cutTimeout
  split
  · exact h
  · split
    · exact State.jobEnds_held _ _ h
    · exact h

theorem State.takeState_held (p : Paper) (hd : Head) (f : PrinterFault) (s : State) (h : s.JournalHeld) :
    (s.takeState p hd f).JournalHeld := by
  unfold State.takeState
  dsimp only
  split
  · split <;> exact h
  · refine State.jobEnds_held _ _ ?_
    split <;> exact h

theorem State.takeNotice_held (s : State) (n : Notice) (h : s.JournalHeld) : (s.takeNotice n).JournalHeld := by
  cases n with
  | room c => exact h.of_view (State.onPrinter_journalView (by rw [Printer.takeRoom_job]))
  | cutDone tag =>
    show (s.takeCutDone tag).JournalHeld
    unfold State.takeCutDone
    split
    · exact h
    · split
      · exact State.jobEnds_held _ _ h
      · exact h
  | state p hd f => exact s.takeState_held p hd f h

theorem State.printerAbsent_held (s : State) (h : s.JournalHeld) : s.printerAbsent.JournalHeld :=
  State.jobEnds_held _ _ (h.of_view (State.onPrinter_journalView rfl))

/-! ## The M-line (R11, R12, R15) -/

theorem State.consume_held (r : Role) (f : Frame) (s : State) (h : s.JournalHeld) : (s.consume r f).JournalHeld := by
  cases r with
  | card => exact s.takeCardFrame_held _ _ h
  | printer => exact State.takeNotices_keeps State.JournalHeld (fun n t ht => t.takeNotice_held n ht) _ _ _ h
  | other => exact h
  | none => exact h

theorem State.endValid_held (i : Fin 6) (o : Owner) (f : Frame) (s : State) (h : s.JournalHeld) : (s.endValid i o f).JournalHeld := by
  have answered : (s.answered i).JournalHeld := h.of_view (s.answered_journalView i)
  refine State.JournalHeld.of_view (s := (s.answered i).disposeAnswer i f) ?_ (State.tellOutcome_journalView _ _ _)
  unfold State.disposeAnswer
  dsimp only
  split
  · exact answered
  · split
    · exact State.consume_held _ _ _ answered
    · split
      · exact answered
      · exact answered

theorem State.slotAbsent_held (i : Fin 6) (s : State) (h : s.JournalHeld) : (s.slotAbsent i).JournalHeld := by
  unfold State.slotAbsent
  refine State.JournalHeld.of_view ?_ (State.issuePresence_journalView _ _ _)
  cases (s.slots.get i).role with
  | card => exact State.cardAbsent_held _ h
  | printer => exact State.printerAbsent_held _ h
  | other => exact h
  | none => exact h

theorem State.endInvalid_held (i : Fin 6) (o : Owner) (s : State) (h : s.JournalHeld) : (s.endInvalid i o).JournalHeld := by
  have told : (s.endExchange.tellOutcome o false).JournalHeld := State.JournalHeld.of_view (s := s) h (State.tellOutcome_journalView _ _ _)
  unfold State.endInvalid State.missed
  dsimp only
  split
  · exact told
  · split
    · exact told
    · exact State.slotAbsent_held _ _ told

theorem State.moduleFrame_held (f : Frame) (s : State) (h : s.JournalHeld) : (s.moduleFrame f).JournalHeld := by
  unfold State.moduleFrame
  split
  · split
    · exact State.endValid_held _ _ _ _ h
    · exact State.endInvalid_held _ _ _ h
  · exact h
  · exact h

theorem State.noAnswer_held (s : State) (h : s.JournalHeld) : s.noAnswer.JournalHeld := by
  unfold State.noAnswer
  split
  · exact State.endInvalid_held _ _ _ h
  · exact h
  · exact h

end Sys2Proof.Machine
end

section
/-! PROOFS. The journal under the requests and the starts, and under every command (R90, R126, R133, R137, R173). -/

namespace Sys2Proof.Machine

/-! ## Requests that touch none of the books -/

theorem State.reply_journalView (k : Byte) (b : ReplyBody) (s : State) : (s.reply k b).journalView = s.journalView := rfl

theorem State.serveSetup_journalView (id : Word16) (rate : Byte) (codes : Vector Byte 6) (silence : Byte) (s : State) :
    (s.serveSetup id rate codes silence).journalView = s.journalView := by
  unfold State.serveSetup
  split
  · rfl
  · split
    · split
      · rfl
      · exact State.entryTest_journalView _
    · rfl
    · rfl

theorem State.serveQuery_journalView (topic index : Byte) (s : State) : (s.serveQuery topic index).journalView = s.journalView := by
  unfold State.serveQuery
  split
  · rfl
  · show State.journalView (if _ then _ else _) = _
    split <;> rfl

theorem State.serveService_journalView (on : Bool) (s : State) : (s.serveService on).journalView = s.journalView := by
  unfold State.serveService
  split
  · split
    · rfl
    · exact State.entryTest_journalView _
  · exact State.entryTest_journalView _

theorem State.takeLoad_journalView (k : TableKind) (g : Word16) (index total : Byte) (check count : Word16) (es : List Byte)
    (s : State) : (s.takeLoad k g index total check count es).journalView = s.journalView := by
  unfold State.takeLoad
  split
  · rfl
  · split
    · rfl
    · unfold State.serveLoad
      dsimp only
      split <;> rfl

theorem State.serveDiscard_journalView (k : TableKind) (s : State) : (s.serveDiscard k).journalView = s.journalView := by
  unfold State.serveDiscard
  show State.journalView (if _ then _ else _) = _
  split <;> rfl

theorem State.serveActivate_journalView (k : TableKind) (g : Word16) (due : Due) (s : State) :
    (s.serveActivate k g due).journalView = s.journalView := by
  unfold State.serveActivate
  dsimp only
  split
  · rfl
  · show State.journalView (if _ then _ else _) = _
    split
    · exact State.fallDue_journalView _ _
    · rfl

theorem State.serveClock_journalView (day second dow : Nat) (s : State) : (s.serveClock day second dow).journalView = s.journalView := by
  unfold State.serveClock
  split
  · rfl
  · exact (State.reply_journalView _ _ _).trans (State.testSchedules_journalView _)

theorem State.serveCancel_journalView (s : State) : s.serveCancel.journalView = s.journalView := by
  unfold State.serveCancel
  split
  · rfl
  · split
    · rfl
    · split
      · rfl
      · exact State.startPayout_journalView _ _

theorem State.serveChuteClear_journalView (s : State) : s.serveChuteClear.journalView = s.journalView := by
  unfold State.serveChuteClear
  split
  · split
    · exact State.faultClears_journalView _
    · rfl
  · rfl

theorem State.serveTube_journalView (tube count : Nat) (s : State) : (s.serveTube tube count).journalView = s.journalView := by
  unfold State.serveTube
  dsimp only
  split
  · rfl
  · split
    · split
      · rfl
      · split
        · rfl
        · split
          · rfl
          · exact State.tubesChanged_journalView _ _
    · rfl

theorem State.serveClearTotals_journalView (s : State) : s.serveClearTotals.journalView = s.journalView := by
  unfold State.serveClearTotals
  split
  · rfl
  · split <;> rfl

theorem State.serveClearAll_journalView (s : State) : s.serveClearAll.journalView = s.journalView := by
  unfold State.serveClearAll
  split
  · rfl
  · split
    · rfl
    · split <;> rfl

theorem State.serveReprint_held (s : State) (h : s.JournalHeld) : s.serveReprint.JournalHeld := by
  unfold State.serveReprint
  split
  · exact h
  · split
    · next r _ _ =>
      unfold State.JournalHeld
      exact (State.startJob_journalView .reprint r.txn 6 r.values s).symm ▸ JournalView.Kept.withJob (k := some .reprint) h (by decide)
    · exact h

/-! ## Acceptances (R91, R118, R137, R157) -/

/-- An operation with a print job is accepted, the purchase at rest. -/
theorem State.printBegun_held {s : State} (h : s.JournalHeld) (free : MoneyFree s.retained.op s.retained.ledger.k s.retained.ledger.pp
    s.payout) {o : OpRecord} {k : JobKind} (ht : o.txn = s.retained.txn + 1)
    (hk : (k = .ticket ∧ o.kind = .printedSale) ∨ (k = .voucher ∧ o.kind = .voucher)) (n txn t : Nat) (v : FieldValues) :
    ((s.acceptOp o n).startJob k txn t v).JournalHeld := by
  have begun := JournalView.Kept.printBegun h free.op (o := o) (ht ▸ Nat.le_succ _) hk
  unfold State.JournalHeld
  rw [State.startJob_journalView, State.acceptOp_journalView, free.k, zero_add]
  exact begun

/-- The ISSUED record of an accepted card operation (R137). -/
def State.writeRecord (o : OpRecord) (b : Binding) (w : Written) (s : State) : JournalRecord where
  state := .issued
  txn := o.txn
  card := b.card
  kind := o.kind
  amount := o.amount
  bonus := o.bonus
  oldSequence := b.sequence
  machineId := s.machineId
  content := w
  stamp := o.stamp

theorem State.startWrite_journalView (o : OpRecord) (b : Binding) (w : Written) (s : State) : (s.startWrite o b w).journalView =
    { s.journalView with journal := s.journalView.journal ++ [s.writeRecord o b w], write := some o.txn } := rfl

/-- An operation with a card write is accepted, the purchase at rest and the journal with room for the card. -/
theorem State.writeBegun_held {s : State} (h : s.JournalHeld) (free : MoneyFree s.retained.op s.retained.ledger.k s.retained.ledger.pp
    s.payout) {o : OpRecord} {b : Binding} (ht : o.txn = s.retained.txn + 1) (hc : o.onCard) (hj : s.journalTakes b.card = true)
    (n : Nat) (w : Written) : ((s.acceptOp o n).startWrite o b w).JournalHeld := by
  obtain ⟨room, others⟩ := (s.journalTakes_iff _).1 hj
  have begun := JournalView.Kept.writeBegun h free.op (r := s.writeRecord o b w) hc (ht ▸ Nat.lt_succ_self _) room others rfl rfl rfl
  unfold State.JournalHeld
  rw [State.startWrite_journalView, State.acceptOp_journalView, free.k, zero_add]
  exact begun

theorem State.serveVoucher_held (s : State) (m : s.MoneyHeld) (h : s.JournalHeld) : s.serveVoucher.JournalHeld := by
  unfold State.serveVoucher
  split
  · exact h
  · next e =>
    have opened := s.voucherRefusal_opened e
    have free := MoneyState.free m (by rw [opened]; decide) (by rw [opened]; decide)
    exact State.JournalHeld.of_view (State.printBegun_held h free rfl (.inr ⟨rfl, rfl⟩) _ _ _ _) (State.entryTest_journalView _)

theorem State.topupChecks_journal {n : Nat} {s : State} {t : TopupTerms} (h : s.topupChecks n = .ok t) :
    s.journalTakes t.binding.card = true := by
  unfold State.topupChecks at h
  split at h
  · cases h
  split at h
  · cases h
  split at h
  · cases h
  split at h
  · cases h
  split at h
  · cases h
  dsimp only at h
  split at h
  · cases h
  split at h
  · cases h
  next hj =>
  rw [Bool.not_eq_true, Bool.not_eq_false'] at hj
  split at h
  · cases h
  split at h
  · cases h
  split at h
  · cases h
  split at h
  · cases h
  · cases h
    exact hj

theorem State.serveTopup_held (amount : Word16) (receipt : Bool) (s : State) (m : s.MoneyHeld) (h : s.JournalHeld) :
    (s.serveTopup amount receipt).JournalHeld := by
  unfold State.serveTopup
  split
  · exact h
  · next t e =>
    have opened := s.topupChecks_opened _ t e
    have free := MoneyState.free m (by rw [opened]; decide) (by rw [opened]; decide)
    exact State.JournalHeld.of_view (State.writeBegun_held h free rfl (.inr rfl) (State.topupChecks_journal e) _ _)
      (State.entryTest_journalView _)

/-- The money checks change of the terms the change alone (R108). -/
theorem State.moneyChecks_binding {keep : Bool} {s : State} {t u : SaleTerms} (h : s.moneyChecks keep t = .ok u) :
    u.binding = t.binding := by
  unfold State.moneyChecks at h
  split at h
  · cases h
  split at h
  · cases h
  dsimp only at h
  split at h
  · cases h
  split at h
  · cases h
  · cases h
    rfl

/-- The terms of a passed SELL bind what its medium's checks answer. -/
theorem State.sellChecks_medium {q : SellRequest} {s : State} {t : SaleTerms} (h : s.sellChecks q = .ok t) :
    ∃ p stamp x, s.mediumChecks q.medium p stamp = .ok x ∧ t.binding = x.1 := by
  unfold State.sellChecks at h
  split at h
  · cases h
  split at h
  · cases h
  split at h
  · cases h
  split at h
  · cases h
  split at h
  · cases h
  dsimp only at h
  split at h
  · cases h
  split at h
  · cases h
  split at h
  · cases h
  · next b o hm => exact ⟨_, _, _, hm, State.moneyChecks_binding h⟩

theorem State.cardChecks_journal {s : State} {p : Product} {stamp : Timestamp} {b : Binding} {o : PassOutcome}
    (h : s.cardChecks p stamp = .ok (b, o)) : s.journalTakes b.card = true := by
  unfold State.cardChecks at h
  split at h
  · cases h
  split at h
  · cases h
  split at h
  · cases h
  next hj =>
  rw [Bool.not_eq_true, Bool.not_eq_false'] at hj
  split at h
  · cases h
  · cases h; exact hj
  · cases h; exact hj

/-- A passed SELL's terms bind no card on paper, and on a card the bound one, for which the journal has room (R108). -/
theorem State.sellChecks_binding {q : SellRequest} {s : State} {t : SaleTerms} (h : s.sellChecks q = .ok t) :
    (q.medium = .printed ∧ t.binding = none) ∨ (q.medium = .card ∧ ∃ b, t.binding = some b ∧ s.journalTakes b.card = true) := by
  obtain ⟨p, stamp, x, hx, hb⟩ := State.sellChecks_medium h
  unfold State.mediumChecks at hx
  split at hx
  · next hm =>
    refine .inl ⟨hm, ?_⟩
    split at hx
    · cases hx; exact hb
    · cases hx
  · next hm =>
    refine .inr ⟨hm, ?_⟩
    split at hx
    · cases hx
    · next b o hc => cases hx; exact ⟨b, hb, State.cardChecks_journal hc⟩

theorem State.serveSell_held (q : SellRequest) (s : State) (m : s.MoneyHeld) (h : s.JournalHeld) : (s.serveSell q).JournalHeld := by
  unfold State.serveSell
  split
  · exact h
  · next t e =>
    have rest := s.sellChecks_rest q t e
    have free := MoneyState.free m rest.1 rest.2
    refine State.JournalHeld.of_view (s := (s.acceptOp (s.saleRecord q t) 2).startSale (s.saleRecord q t) q t) ?_
      (State.entryTest_journalView _)
    unfold State.startSale
    rcases State.sellChecks_binding e with ⟨hm, hb⟩ | ⟨hm, b, hb, hj⟩
    · rw [hb]
      exact State.printBegun_held h free rfl (.inl ⟨rfl, by unfold State.saleRecord; rw [hm]⟩) _ _ _ _
    · rw [hb]
      exact State.writeBegun_held h free rfl (.inl (by unfold State.saleRecord; rw [hm])) hj _ _

/-! ## The starts (R101, R173, R174) -/

theorem JournalView.Kept.cleared : (⟨[], 0, none, 0, 0, none, none⟩ : JournalView).Kept :=
  ⟨by simp, by simp, by simp, by simp, rfl, by simp, by simp, by simp, by simp, by simp, by simp⟩

/-- The journal's view of the retained books, with a write and a print job. -/
def Retained.journalView (r : Retained) (w : Option Nat) (j : Option JobKind) : JournalView :=
  ⟨r.journal, r.txn, r.op, r.ledger.h, r.ledger.k, w, j⟩

/-- The interrupted operation is voided, or its record is left UNCERTAIN (R101, R173). -/
theorem resolveOp_kept {r : Retained} {w : Option Nat} {j : Option JobKind} (h : (r.journalView w j).Kept) :
    ((resolveOp r).1.journalView none none).Kept := by
  have none_prints : (none : Option JobKind) ≠ some .ticket ∧ (none : Option JobKind) ≠ some .voucher := by decide
  have voided (m : Money) (ho : ∀ o, r.op = some o → ¬o.onCard) :
      ({ r.journalView none none with op := none, k := m } : JournalView).Kept := by
    have idle : w = none := (h.cardIdle ho).1
    subst idle
    exact h.opCleared ho none_prints m
  unfold resolveOp
  split
  · next e =>
    have := voided r.ledger.k fun o n => by rw [e] at n; cases n
    rwa [← e] at this
  · next o e =>
    have printed (hk : o.kind = .printedSale ∨ o.kind = .voucher) : ∀ p, r.op = some p → ¬p.onCard := fun p hp => by
      rw [e] at hp
      cases hp
      rintro (hc | hc) <;> rcases hk with hk | hk <;> rw [hk] at hc <;> cases hc
    have uncertain (hc : o.onCard) := (h.writeUncertain e hc).withJob none_prints
    split
    · next hk => exact voided 0 (printed (.inl hk))
    · next hk => exact voided 0 (printed (.inr hk))
    · next hk => exact uncertain (.inl hk)
    · next hk => exact uncertain (.inr hk)

theorem warmResolve_kept {r : Retained} {w : Option Nat} {j : Option JobKind} (h : (r.journalView w j).Kept) :
    ((warmResolve r).retained.journalView none none).Kept := by
  have resolved := resolveOp_kept h
  have paid (q : Retained) : (resolvePayout q).1.journalView none none = q.journalView none none := by
    unfold resolvePayout
    split <;> rfl
  rw [← paid] at resolved
  exact resolved

theorem State.boot_held (cold : Bool) (cause : StartCause) (pins : Pins) (s : State) (h : s.JournalHeld) :
    (s.boot cold cause pins).JournalHeld := by
  have view (r : Resolved) (c : Clock) : ((s.startValues r c pins).withLows.firstPeriod).journalView = r.retained.journalView none none := by
    unfold State.firstPeriod
    split <;> rfl
  show ((s.startValues _ _ pins).withLows.firstPeriod).JournalHeld
  unfold State.JournalHeld
  rw [view]
  cases cold with
  | true => exact JournalView.Kept.cleared
  | false => exact warmResolve_kept h

theorem State.checkedStart_held (cause : StartCause) (pins : Pins) (s : State) (h : s.JournalHeld) :
    (s.checkedStart cause pins).JournalHeld := by
  unfold State.checkedStart
  split <;> exact State.boot_held _ _ _ _ h

theorem State.powerReturns_held (pins : Pins) (s : State) (h : s.JournalHeld) : (s.powerReturns pins).JournalHeld := by
  unfold State.powerReturns
  dsimp only
  split
  · exact h
  · split
    · exact h
    · exact State.checkedStart_held _ _ _ h

theorem State.resetReleases_held (pins : Pins) (s : State) (h : s.JournalHeld) : (s.resetReleases pins).JournalHeld := by
  unfold State.resetReleases
  dsimp only
  split
  · exact h
  · split
    · exact State.checkedStart_held _ _ _ h
    · exact h

theorem State.startAfterReply_held (pins : Pins) (s : State) (h : s.JournalHeld) : (s.startAfterReply pins).JournalHeld := by
  unfold State.startAfterReply
  split
  · exact h
  · exact State.boot_held _ _ _ _ h
  · exact State.boot_held _ _ _ _ h

/-! ## Every request and every command -/

theorem State.gated_held (k : Byte) (serve : State → State) (s : State) (h : s.JournalHeld) (hs : (serve s).JournalHeld) :
    (s.gated k serve).JournalHeld := by
  unfold State.gated
  split
  · exact h
  · exact hs

theorem State.takeRequest_held (i : Instr) (s : State) (m : s.MoneyHeld) (h : s.JournalHeld) : (s.takeRequest i).JournalHeld := by
  have gated {serve : State → State} (k : Byte) (e : (serve s).journalView = s.journalView) : (s.gated k serve).JournalHeld :=
    s.gated_held k serve h (h.of_view e)
  cases i
  case setup => exact h.of_view (s.serveSetup_journalView _ _ _ _)
  case query => exact h.of_view (s.serveQuery_journalView _ _)
  case service => exact gated _ (s.serveService_journalView _)
  case inhibit => exact gated _ (State.entryTest_journalView _)
  case load => exact h.of_view (s.takeLoad_journalView _ _ _ _ _ _ _)
  case discard => exact gated _ (s.serveDiscard_journalView _)
  case activate => exact gated _ (s.serveActivate_journalView _ _ _)
  case clock => exact gated _ (s.serveClock_journalView _ _ _)
  case sell => exact s.gated_held _ _ h (s.serveSell_held _ m h)
  case topup => exact s.gated_held _ _ h (s.serveTopup_held _ _ m h)
  case cancel => exact gated _ s.serveCancel_journalView
  case voucher => exact s.gated_held _ _ h (s.serveVoucher_held m h)
  case reprint => exact s.gated_held _ _ h (s.serveReprint_held h)
  case chuteClear => exact gated _ s.serveChuteClear_journalView
  case tube => exact gated _ (s.serveTube_journalView _ _)
  case writeOff => exact s.gated_held _ _ h (s.serveWriteOff_held _ h)
  case clearTotals => exact gated _ s.serveClearTotals_journalView
  case clearAll => exact gated _ s.serveClearAll_journalView
  case restart => exact gated _ rfl
  all_goals exact h

theorem State.disposeFrame_held (f : Frame) (s : State) (m : s.MoneyHeld) (h : s.JournalHeld) : (s.disposeFrame f).JournalHeld := by
  unfold State.disposeFrame
  split
  · exact h
  · split
    · unfold State.disposeRequest
      split
      · exact s.takeRequest_held _ m h
      · unfold State.refuseFormat
        split <;> exact h
    · split
      · unfold State.disposeDownward
        split
        · exact h
        · exact h.of_view (s.passDown_journalView f)
      · exact h

/-- The books as every command keeps them: the money state and the journal. -/
def State.BooksHeld (s : State) : Prop := s.MoneyHeld ∧ s.JournalHeld

theorem State.onCLine_books (f : Frame) (serve : State → State) (s : State) (h : s.BooksHeld)
    (hm : ∀ t : State, t.MoneyHeld → (serve t).MoneyHeld)
    (hs : ∀ t : State, t.MoneyHeld → t.JournalHeld → (serve t).JournalHeld) : (s.onCLine f serve).BooksHeld := by
  refine ⟨s.onCLine_money f serve hm h.1, ?_⟩
  unfold State.onCLine
  split
  · exact h.2
  · split
    · exact h.2
    · exact hs _ (State.frameSeen_money s h.1) (h.2.of_view s.frameSeen_journalView)

theorem State.runC_books (s : State) (h : s.BooksHeld) : s.runC.BooksHeld :=
  State.pumpC_keeps State.BooksHeld (fun _ _ h => h) (fun f t ht =>
    have seen : t.frameSeen.MoneyHeld := State.frameSeen_money t ht.1
    ⟨State.disposeFrame_money f _ seen, State.disposeFrame_held f _ seen (ht.2.of_view t.frameSeen_journalView)⟩) _ s h

theorem State.onReceiver_books (l : Line) (f : Receiver → Receiver) (s : State) (h : s.BooksHeld) : (s.onReceiver l f).BooksHeld := by
  unfold State.onReceiver
  split
  · exact State.runC_books _ h
  · split
    · exact State.pumpM_keeps State.BooksHeld (fun _ _ h => h) (fun t ht => ⟨State.noAnswer_money t ht.1, t.noAnswer_held ht.2⟩)
        (fun f t ht => ⟨State.moduleFrame_money f t ht.1, t.moduleFrame_held f ht.2⟩) _ _ h
    · exact h

/-- Every command keeps the books (R90, R126, R133). -/
theorem exec_booksHeld (c : Instr) (s t : State) (h : s.BooksHeld) (e : exec c s = .next t) : t.BooksHeld := by
  have keeps {f : State → State} (hm : ∀ u : State, u.MoneyHeld → (f u).MoneyHeld)
      (hj : ∀ u : State, u.JournalHeld → (f u).JournalHeld) (u : State) (hu : u.BooksHeld) : (f u).BooksHeld :=
    ⟨hm u hu.1, hj u hu.2⟩
  have framed {f : State → State} (hm : ∀ u : State, u.MoneyHeld → (f u).MoneyHeld)
      (hv : ∀ u, (f u).journalView = u.journalView) : ∀ u : State, u.BooksHeld → (f u).BooksHeld :=
    keeps hm fun u hu => hu.of_view (hv u)
  refine exec_keeps State.BooksHeld
    (fun f s h => s.onCLine_books f _ h (State.disposeFrame_money f) (State.disposeFrame_held f)) ?_
    (fun l _ _ _ s => s.onReceiver_books l _) (fun l s => s.onReceiver_books l _) ?_
    (framed State.silenceExpires_money State.silenceExpires_journalView)
    (framed State.transmitEnds_money State.transmitEnds_journalView) ?_
    (fun p s _ => keeps (State.startAfterReply_money p) (State.startAfterReply_held p) s)
    (framed State.grant_money State.grant_journalView) (fun f => keeps (State.moduleFrame_money f) (State.moduleFrame_held f)) ?_
    (framed State.groupEnds_money State.groupEnds_journalView)
    (fun i => framed (State.reprobeDue_money i) (State.reprobeDue_journalView i))
    (framed State.secondAdvances_money State.secondAdvances_journalView)
    (framed State.oscillatorStops_money State.oscillatorStops_journalView)
    (fun x n => framed (State.sensorRise_money x n) (State.sensorRise_journalView x n))
    (fun x n => framed (State.sensorFall_money x n) (State.sensorFall_journalView x n))
    (framed State.aLimitPasses_money State.aLimitPasses_journalView)
    (framed State.gapLimitPasses_money State.gapLimitPasses_journalView)
    (framed State.acceptWaitPasses_money State.acceptWaitPasses_journalView)
    (framed State.returnWaitPasses_money State.returnWaitPasses_journalView)
    (framed State.idleWaitPasses_money State.idleWaitPasses_journalView)
    (fun b => framed (State.doorChange_money b) (State.doorChange_journalView b))
    (framed State.leverPress_money State.leverPress_journalView)
    (fun x => framed (State.pwmPeriod_money x) (State.pwmPeriod_journalView x))
    (fun x y => framed (State.pullInCheck_money x y) (State.pullInCheck_journalView x y))
    (framed State.diverterChangeover_money State.diverterChangeover_journalView)
    (fun i => framed (State.exitPulse_money i) (State.exitPulse_journalView i))
    (fun i => framed (State.jamTimeout_money i) (State.jamTimeout_journalView i))
    (fun i => framed (State.trailingEnds_money i) (State.trailingEnds_journalView i))
    (keeps State.writeTimeout_money State.writeTimeout_held) (keeps State.cutTimeout_money State.cutTimeout_held)
    (framed State.roomAskDelay_money State.roomAskDelay_journalView)
    (fun p => keeps (State.powerReturns_money p) (State.powerReturns_held p))
    (framed State.powerFails_money State.powerFails_journalView) (fun _ h => h)
    (fun p => keeps (State.resetReleases_money p) (State.resetReleases_held p))
    (framed State.hundredthAdvances_money State.hundredthAdvances_journalView) (fun _ h => h)
    (framed State.backupFails_money State.backupFails_journalView) c s t h e
  · intro i s h
    unfold State.onRequest
    split
    · exact s.onCLine_books _ _ h (State.takeRequest_money i) (State.takeRequest_held i)
    · exact h
  · intro l s h
    unfold State.gapExpires
    split
    · exact s.onReceiver_books l _ h
    · exact h
  · intro s h
    unfold State.transmit
    split
    · exact State.runC_books _ ⟨State.takeNext_money s h.1, h.2.of_view s.takeNext_journalView⟩
    · exact h
  · intro s h
    unfold State.windowPasses
    split
    · exact ⟨State.noAnswer_money s h.1, s.noAnswer_held h.2⟩
    · exact h

/-- Settles O10: the journal with the money state is kept by every command, since each does to the journal's view what it allows. -/
theorem journalHolds : Obligations.JournalHolds := by
  intro s t m j e
  rcases step_exec e with rfl | ⟨c, rest, e⟩
  · exact j
  · exact (journalKept_iff t).2 (exec_booksHeld c { s with pending := rest } t ⟨m, (journalKept_iff s).1 j⟩ e).2

end Sys2Proof.Machine
end

section
/-! PROOFS. CLEAR TOTALS (R100). -/

namespace Sys2Proof.Machine

/-- No money is held anywhere exactly where the four terms are 0 (R100). -/
theorem Ledger.noMoney_iff (l : Ledger) : l.noMoney = false ↔ l.c ≠ 0 ∨ l.k ≠ 0 ∨ l.pp ≠ 0 ∨ l.h ≠ 0 := by
  unfold Ledger.noMoney
  simp only [Bool.and_eq_false_iff, beq_eq_false_iff_ne, or_assoc]

/-- Without money held, the cleared counters leave a ledger of nothing (R100). -/
theorem Ledger.clearCounters_zero {l : Ledger} (h : ¬(l.c ≠ 0 ∨ l.k ≠ 0 ∨ l.pp ≠ 0 ∨ l.h ≠ 0)) :
    Move.clearCounters l = .zero := by
  obtain ⟨hc, hk, hpp, hh⟩ : l.c = 0 ∧ l.k = 0 ∧ l.pp = 0 ∧ l.h = 0 := by simpa only [not_or, not_not] using h
  unfold Move.clearCounters Ledger.zero
  rw [hc, hk, hpp, hh]

theorem State.serveClearTotals_ready {s : State} (h : s.part = .ready) : s.serveClearTotals = s.refuse Kind.clearTotals .service :=
  if_pos (by rw [h]; decide)

theorem State.serveClearTotals_held {s : State} {l : Ledger} (hs : s.part = .service) (hl : s.retained.ledger = l)
    (h : l.c ≠ 0 ∨ l.k ≠ 0 ∨ l.pp ≠ 0 ∨ l.h ≠ 0) : s.serveClearTotals = s.refuse Kind.clearTotals .state := by
  unfold State.serveClearTotals
  rw [if_neg (by rw [hs]; decide), if_pos (by rw [hl, l.noMoney_iff.2 h]; rfl)]

theorem State.serveClearTotals_free {s : State} {l : Ledger} (hs : s.part = .service) (hl : s.retained.ledger = l)
    (h : ¬(l.c ≠ 0 ∨ l.k ≠ 0 ∨ l.pp ≠ 0 ∨ l.h ≠ 0)) : s.serveClearTotals =
      { s with retained := { s.retained with
        ledger := .zero, accepted := Vector.replicate 12 0, returned := Vector.replicate 12 0 } }.reply Kind.clearTotals
          (.clearTotals l.totals) := by
  have free : l.noMoney = true := by
    rw [← Bool.not_eq_false, l.noMoney_iff]
    exact h
  unfold State.serveClearTotals
  rw [if_neg (by rw [hs]; decide), if_neg (by rw [hl, free]; decide), ← Ledger.clearCounters_zero h, ← hl]
  rfl

/-- Settles O41: the gate of UNSET, then the checks of R100 in order. -/
theorem clearTotalsZeroesCounters : Obligations.ClearTotalsZeroesCounters := by
  intro s ht u l
  have taken : exec .clearTotals s = .next (u.gated Kind.clearTotals State.serveClearTotals).transmit := exec_request rfl ht
  have part : u.part = s.part := s.frameSeen_part
  have held : u.retained.ledger = l := congrArg Retained.ledger s.frameSeen_retained
  rw [taken]
  cases hp : s.part with
  | unset => rw [if_pos rfl, State.gated, if_pos (part.trans hp)]
  | ready =>
    rw [if_neg (by decide), if_pos rfl, State.gated_set _ _ (by rw [part, hp]; decide), State.serveClearTotals_ready (part.trans hp)]
  | service =>
    rw [if_neg (by decide), if_neg (by decide), State.gated_set _ _ (by rw [part, hp]; decide)]
    split
    · next h => rw [State.serveClearTotals_held (part.trans hp) held h]
    · next h =>
      rw [State.serveClearTotals_free (part.trans hp) held h, ← s.frameSeen_retained]
      rfl

end Sys2Proof.Machine
end

section
/-! PROOFS. SELL past its medium's checks (R107 to R118, R121, R137). -/

namespace Sys2Proof.Machine

/-! ## What a valid frame leaves of SELL's checks -/

theorem State.frameSeen_credit (s : State) : s.frameSeen.credit = s.credit := by
  unfold State.credit
  rw [s.frameSeen_retained]

theorem State.frameSeen_plan (s : State) (n : Nat) : s.frameSeen.plan n = s.plan n :=
  State.plan_congr _ _ (by rw [s.frameSeen_retained]) (by rw [s.frameSeen_retained]) s.frameSeen_tubes n

theorem State.frameSeen_mediumChecks (s : State) (m : Medium) (p : Product) (t : Timestamp) :
    s.frameSeen.mediumChecks m p t = s.mediumChecks m p t := by
  unfold State.mediumChecks State.cardChecks
  simp only [State.frameSeen_printPath, State.frameSeen_card, State.frameSeen_hotlisted, State.frameSeen_journalTakes]

/-- An acceptance that needs some slots finds too few of them free. -/
theorem State.freeSlots_lt_iff (s : State) {n : Nat} (h1 : 1 ≤ n) (h2 : n ≤ 11) :
    s.freeSlots < n ↔ 11 < generalCount s.reports + s.reserved + n := by
  unfold State.freeSlots
  show 11 - _ - _ < _ ↔ _
  omega

/-! ## The checks on money, and the acceptance -/

/-- The terms of a sale before the checks on money (R108, R111 to R115). -/
def State.saleTerms (s : State) (q : SellRequest) (f : Active FareTable) (p : Product) (b : Option Binding)
    (o : PassOutcome) : SaleTerms where
  fare := f
  product := p
  binding := b
  stamp := s.clock.stamp
  band := s.clock.band f.content
  concession := (b.map Binding.concession).getD q.concession
  days := p.days s.clock.stamp o
  price := p.price f.content.classes q.zones (f.content.factor (s.clock.band f.content)) ((b.map Binding.concession).getD q.concession)
  change := 0

/-- The state a sale's acceptance leaves, with its reply (R117). -/
def State.sold (q : SellRequest) (t : SaleTerms) (s : State) : State :=
  let o := s.saleRecord q t
  (((s.acceptOp o 2).startSale o q t).entryTest).reply Kind.sell
    (.sell ⟨o.txn, t.price, t.band, t.concession, t.days, t.fare.generation, t.change⟩)

theorem Clock.stamp_valid (c : Clock) : c.stamp.valid = c.valid := by
  unfold Clock.stamp
  split
  · next h => exact h.symm
  · next h => exact (Bool.eq_false_iff.2 h).symm

/-- SELL's checks up to those on money (R108). -/
theorem State.sellChecks_passed {q : SellRequest} {s : State} {f : Active FareTable} {p : Product} {x : Option Binding × PassOutcome}
    (hr : s.part = .ready) (hu : s.purchase = .idle ∨ s.purchase = .opened) (ht : s.retained.txn < 4294967295)
    (hf : s.retained.fare = some f) (hp : f.content.product? q.product q.medium = some p) (h1 : 1 ≤ q.zones) (h2 : q.zones ≤ p.maxZones)
    (hv : p.validityDays = 0 ∨ s.clock.valid = true) (hm : s.mediumChecks q.medium p s.clock.stamp = .ok x) :
    s.sellChecks q = s.moneyChecks q.keepCredit (s.saleTerms q f p x.1 x.2) := by
  have rest : (s.purchase == .idle || s.purchase == .opened) = true := by rcases hu with e | e <;> rw [e] <;> rfl
  have dated : ¬(p.validityDays ≠ 0 ∧ (!s.clock.stamp.valid) = true) := fun n => by
    rw [Clock.stamp_valid] at n
    rcases hv with e | e
    · exact n.1 e
    · rw [e] at n
      cases n.2
  unfold State.sellChecks
  rw [if_neg (by rw [hr]; decide), if_neg (by rw [rest]; decide),
    if_neg (Nat.not_le.2 (show s.retained.txn < Config.lastTransaction from ht)), hf]
  dsimp only
  rw [hp]
  dsimp only
  rw [if_neg (by omega), if_neg dated, hm]
  rfl

/-- SELL past its medium's checks: the checks on money in order, or the acceptance (R108, R117). -/
theorem State.serveSell_passed {q : SellRequest} {s : State} {t : SaleTerms} (h : s.sellChecks q = s.moneyChecks q.keepCredit t) :
    s.serveSell q =
      if (t.days.any fun d => decide (65535 < d.2)) = true then s.reply Kind.sell (.refused .range)
      else if s.credit < t.price then s.reply Kind.sell (.refusedSum .short t.price)
      else if q.keepCredit = false ∧ (s.plan (s.credit - t.price)).2 ≠ 0 then
        s.reply Kind.sell (.refusedSum .noChange (s.credit - t.price))
      else if 11 < generalCount s.reports + s.reserved + 2 then s.reply Kind.sell (.refused .busy)
      else s.sold q { t with change := if q.keepCredit then 0 else s.credit - t.price } := by
  unfold State.serveSell
  rw [h]
  unfold State.moneyChecks
  dsimp only
  simp only [Bool.not_eq_true', s.freeSlots_lt_iff (n := 2) (by decide) (by decide)]
  split_ifs <;> rfl

/-- A SELL that is taken at once and passes its medium's checks (R108, R117). -/
theorem exec_sell_passed {product zones : Byte} {concession : Fin 8} {medium : Medium} {keep : Bool} {s : State}
    {f : Active FareTable} {p : Product} {x : Option Binding × PassOutcome} {t : SaleTerms} (ht : TakesFrames s) (hr : s.part = .ready)
    (hu : s.purchase = .idle ∨ s.purchase = .opened) (hn : s.retained.txn < 4294967295) (hf : s.retained.fare = some f)
    (hp : f.content.product? product.toNat medium = some p) (h1 : 1 ≤ zones.toNat) (h2 : zones.toNat ≤ p.maxZones)
    (hv : p.validityDays = 0 ∨ s.clock.valid = true) (hm : s.mediumChecks medium p s.clock.stamp = .ok x)
    (terms : s.saleTerms ⟨product.toNat, zones.toNat, concession.val, medium, keep⟩ f p x.1 x.2 = t) :
    let u := s.frameSeen
    exec (.sell product zones concession medium keep) s = .next
      (if (t.days.any fun d => decide (65535 < d.2)) = true then u.reply Kind.sell (.refused .range)
      else if s.credit < t.price then u.reply Kind.sell (.refusedSum .short t.price)
      else if keep = false ∧ (s.plan (s.credit - t.price)).2 ≠ 0 then u.reply Kind.sell (.refusedSum .noChange (s.credit - t.price))
      else if 11 < generalCount u.reports + s.reserved + 2 then u.reply Kind.sell (.refused .busy)
      else u.sold ⟨product.toNat, zones.toNat, concession.val, medium, keep⟩
        { t with change := if keep then 0 else s.credit - t.price }).transmit := by
  intro u
  let q : SellRequest := ⟨product.toNat, zones.toNat, concession.val, medium, keep⟩
  have hc : u.clock = s.clock := s.frameSeen_clock
  have checks : u.sellChecks q = u.moneyChecks q.keepCredit t := by
    have seen : u.saleTerms q f p x.1 x.2 = t := by
      rw [← terms]
      unfold State.saleTerms
      rw [hc]
    rw [← seen]
    refine State.sellChecks_passed (by rwa [State.frameSeen_part]) (by rwa [State.frameSeen_purchase])
      (by rwa [State.frameSeen_retained]) (by rwa [State.frameSeen_retained]) hp h1 h2 (by rwa [hc]) ?_
    rw [hc, State.frameSeen_mediumChecks]
    exact hm
  have taken : exec (.sell product zones concession medium keep) s = .next (u.gated Kind.sell (State.serveSell q)).transmit :=
    exec_request rfl ht
  rw [taken, State.gated_set _ _ (by rw [State.frameSeen_part, hr]; decide), State.serveSell_passed checks,
    State.frameSeen_credit, State.frameSeen_plan, State.frameSeen_reserved]

/-- The dates of a fresh product, with its first day spelled out (R113, R114). -/
theorem Product.days_fresh (p : Product) (t : Timestamp) :
    p.days t .fresh =
      let late := match p.lateStart with
        | none => false
        | some x => decide (x ≤ t.second)
      let first := if late then t.day + 1 else t.day
      if p.validityDays = 0 then none else some (first, first + p.validityDays - 1) := by
  unfold Product.days Product.firstDay
  split
  · rfl
  · cases p.lateStart with
    | none => rfl
    | some x => simp only [decide_eq_true_eq]

/-- An accepted SELL by its record: the acceptance, the sale's work, the entry test and the reply (R117). -/
theorem State.sold_eq {q : SellRequest} {t : SaleTerms} {s : State} {o : OpRecord} (ho : s.saleRecord q t = o) :
    s.sold q t = (((s.accepted o 2).startSale o q t).entryTest).reply Kind.sell
      (.sell ⟨o.txn, t.price, t.band, t.concession, t.days, t.fare.generation, t.change⟩) := by
  subst ho
  rfl

/-- Settles O35: the checks on money in order, and the TICKET job's start as what every job's start does. -/
theorem printedSaleAccepted : Obligations.PrintedSaleAccepted := by
  intro product zones concession keep s f p ht hr hu hn hf hp h1 h2 hv hpath u stamp band late first days price change refused
  have terms : s.saleTerms ⟨product.toNat, zones.toNat, concession.val, .printed, keep⟩ f p none .fresh =
      ⟨f, p, none, stamp, band, concession.val, days, price, 0⟩ := by
    unfold State.saleTerms
    rw [p.days_fresh]
    rfl
  have served := exec_sell_passed ht hr hu hn hf hp h1 h2 hv (x := (none, .fresh)) (if_pos hpath) terms
  dsimp only at served
  split_ifs at served ⊢
  · exact served
  · exact served
  · exact served
  · exact served
  all_goals
    intro o paid values
    have record (c : Nat) : u.saleRecord ⟨product.toNat, zones.toNat, concession.val, .printed, keep⟩
        ⟨f, p, none, stamp, band, concession.val, days, price, c⟩ = o := by
      unfold State.saleRecord
      rw [State.frameSeen_retained]
    have machine : (u.accepted o 2).machineId = s.machineId := s.frameSeen_machineId
    rw [State.sold_eq (record _), State.startSale, machine] at served
    exact ⟨_, _, served, State.startJob_started _ _ _ _ _, State.entryTest_tested _⟩

/-- The dates of a pass on a card: another product's running pass apart, its own one is extended (R113 to R115). -/
theorem Product.days_onCard {p : Product} {c : Clock} {x : Option PassSlot} (hp : p.validityDays ≠ 0) (hv : c.valid = true)
    (hx : ∀ y, x = some y → c.day ≤ y.lastDay → y.product = p.code) :
    ∃ o, (judgePass p.code c.stamp.day x = o ∧ o ≠ .held) ∧ p.days c.stamp o =
      let late := match p.lateStart with
        | none => false
        | some x => decide (x ≤ c.second)
      let fresh := if late then c.day + 1 else c.day
        let first := match (generalizing := false) x with
        | none => fresh
        | some y => if y.lastDay < c.day then fresh else y.lastDay + 1
      some (first, first + p.validityDays - 1) := by
  have stamp : c.stamp = ⟨c.day, c.second, c.hundredth, true⟩ := if_pos hv
  have fresh := p.days_fresh c.stamp
  rw [stamp] at fresh ⊢
  rw [if_neg hp] at fresh
  cases x with
  | none => exact ⟨.fresh, ⟨rfl, by decide⟩, fresh⟩
  | some y =>
    by_cases hd : y.lastDay < c.day
    · refine ⟨.fresh, ⟨if_pos hd, by decide⟩, ?_⟩
      rw [fresh]
      dsimp only
      rw [if_pos hd]
    · refine ⟨.extend y.lastDay, ⟨(if_neg hd).trans (if_pos (hx y rfl (Nat.not_lt.1 hd))), by simp⟩, ?_⟩
      unfold Product.days
      dsimp only
      rw [if_neg hp, if_neg hd]

/-- Settles O36: the checks on money in order, and the card write's start. -/
theorem cardSaleAccepted : Obligations.CardSaleAccepted := by
  intro product zones concession keep s f p b ht hr hu hn hf hp h1 h2 hv hc hb hbl hh hj hx u stamp band late fresh first last price
    change refused
  obtain ⟨x, ⟨judged, held⟩, hdays⟩ := Product.days_onCard hv hc hx
  have checked : s.mediumChecks .card p stamp = .ok (some b, x) := by
    unfold State.mediumChecks State.cardChecks
    rw [hb]
    dsimp only
    rw [hbl, hh, hj, judged]
    cases x with
    | held => exact absurd rfl held
    | fresh => rfl
    | extend d => rfl
  have terms : s.saleTerms ⟨product.toNat, zones.toNat, concession.val, .card, keep⟩ f p (some b) x =
      ⟨f, p, some b, stamp, band, b.concession, some (first, last), price, 0⟩ := by
    unfold State.saleTerms
    rw [hdays]
    rfl
  have served := exec_sell_passed ht hr hu hn hf hp h1 h2 (.inr hc) checked terms
  simp only [Option.any_some, decide_eq_true_eq] at served
  split_ifs at served ⊢
  · exact served
  · exact served
  · exact served
  · exact served
  all_goals
    intro o
    have record (c : Nat) : u.saleRecord ⟨product.toNat, zones.toNat, concession.val, .card, keep⟩
        ⟨f, p, some b, stamp, band, b.concession, some (first, last), price, c⟩ = o := by
      unfold State.saleRecord
      rw [State.frameSeen_retained]
    rw [State.sold_eq (record _)] at served
    exact ⟨_, served, State.entryTest_tested _⟩

end Sys2Proof.Machine
end

section
/-! PROOFS. The events of a payout: exit pulses, jams and trailing windows (R95, R151 to R154). -/

namespace Sys2Proof.Machine

/-- The flags after a change of a tube leave the payout, the door, the reservations and the books as they are. -/
theorem FlagsTested.keeps {before u t : State} (h : FlagsTested before u t) :
    t.payout = u.payout ∧ t.doorOpen = u.doorOpen ∧ t.reserved = u.reserved ∧ t.retained = u.retained :=
  ⟨(congrArg State.payout h.frame :), (congrArg State.doorOpen h.frame :), (congrArg State.reserved h.frame :),
    (congrArg State.retained h.frame :)⟩

/-! ## Plans taken over by the payout (R150) -/

/-- An empty plan ends the payout. -/
theorem State.runPlan_nil {s ended : State} {p : Payout} (hp : s.payout = some p) (hr : 0 < s.reserved) (he : s.payoutEnded p = ended) :
    Tested ended (s.runPlan []) := by
  subst he
  unfold State.runPlan
  rw [hp]
  exact State.endPayout_tested { p with current := none, started := false, rest := [] }
    { s with payout := some { p with current := none, started := false, rest := [] } } rfl hr

/-- With the door closed a waiting entry starts; with it open it goes on waiting (R151). -/
theorem State.startEntry_current {s : State} {p : Payout} {e : PlanEntry} (hp : s.payout = some p) (hc : p.current = some e)
    (hs : p.started = false) : s.startEntry = { s with
      payout := some { p with started := !s.doorOpen }
      tubes := if s.doorOpen then s.tubes
        else s.tubes.set e.tube { s.tubes.get e.tube with dispenser := .running, lastValue := e.value } } := by
  by_cases hd : s.doorOpen = true
  · have kept : ({ p with started := !s.doorOpen } : Payout) = p := by rw [hd, Bool.not_true, ← hs]
    rw [State.startEntry_idle (.inl hd), kept, if_pos hd, ← hp]
  · rw [Bool.not_eq_true] at hd
    rw [State.startEntry_waiting hd hp hc hs, hd]
    rfl

/-- The first entry of a plan becomes current and, with the door closed, starts (R150, R151). -/
theorem State.runPlan_cons {s : State} {p : Payout} (hp : s.payout = some p) (x : PlanEntry) (xs : List PlanEntry) :
    s.runPlan (x :: xs) = { s with
      payout := some { p with current := some x, started := !s.doorOpen, rest := xs }
      tubes := if s.doorOpen then s.tubes
        else s.tubes.set x.tube { s.tubes.get x.tube with dispenser := .running, lastValue := x.value } } := by
  unfold State.runPlan
  rw [hp]
  exact State.startEntry_current (p := { p with current := some x, started := false, rest := xs }) rfl rfl rfl

/-- An entry whose coins are all counted stops its motor, and what is left of the plan is run (R151). -/
theorem State.entryDone_current {s : State} {p : Payout} {e : PlanEntry} (hp : s.payout = some p) (hc : p.current = some e) :
    s.entryDone = ({ s with
      tubes := s.tubes.set e.tube { s.tubes.get e.tube with dispenser := .trailing }
      payout := some { p with done := p.done ++ [e], current := none } } : State).runPlan p.rest := by
  unfold State.entryDone
  rw [hp]
  dsimp only
  rw [hc]
  rfl

/-! ## Exit pulses (R95, R152) -/

/-- The state a paid coin leaves, before the flags (R95, R152). -/
def State.coinPaid (i : Fin 4) (p : Option Payout) (s : State) : State :=
  { s with
    retained := { s.retained with
      ledger := Move.paidCoin (BitVec.ofNat 32 (s.tubes.get i).lastValue) s.retained.ledger
      tubeCounts := s.retained.tubeCounts.set i (s.tubeCount i - 1) }
    payout := p }

/-- A paid coin counts in the current entry, and an entry so filled ends (R151, R152). -/
theorem State.paidCoin_current {i : Fin 4} {s : State} {p : Payout} {e : PlanEntry} (hp : s.payout = some p) (hc : p.current = some e) :
    let e' := { e with counted := e.counted + 1 }
    let w := (s.coinPaid i (some { p with current := some e', paid := p.paid.set i (p.paid.get i + 1) })).tubesChanged s
    s.paidCoin i = if e.coins ≤ e.counted + 1 then w.entryDone else w := by
  intro e' w
  have counted : s.payout.map (Payout.count i) = some { p with current := some e', paid := p.paid.set i (p.paid.get i + 1) } := by
    rw [hp, Option.map_some, Payout.count, hc]
    rfl
  have shown : w.payout = some { p with current := some e', paid := p.paid.set i (p.paid.get i + 1) } :=
    congrArg State.payout (State.tubesChanged_tested _ s).frame
  have paid : s.paidCoin i =
      let w := (s.coinPaid i (s.payout.map (Payout.count i))).tubesChanged s
      if (w.payout.map Payout.entryFull).getD false then w.entryDone else w := rfl
  rw [paid, counted]
  dsimp only
  rw [shown]
  exact ite_congr (propext decide_eq_true_iff) (fun _ => rfl) fun _ => rfl

/-! ## Jams (R153) -/

/-- The state a jam leaves, before the flags: its tube faulted and its window begun (R153). -/
def State.jammed (i : Fin 4) (p : Option Payout) (s : State) : State :=
  { s with
    tubes := s.tubes.set i { s.tubes.get i with faulted := true, dispenser := .trailing }
    payout := p }

theorem State.jam_payout {i : Fin 4} {s : State} {p : Payout} (hp : s.payout = some p) :
    s.jam i = (s.jammed i (some { p with faulted := p.faulted.set i true })).tubesChanged s := by
  have jammed : s.jam i = (s.jammed i (s.payout.map fun (p : Payout) => { p with faulted := p.faulted.set i true })).tubesChanged s := rfl
  rw [jammed, hp, Option.map_some]

/-- With entries planned anew for the unpaid amount, the payout goes on with them (R153). -/
theorem State.afterJam_replans {s : State} {p : Payout} {x : PlanEntry} {xs : List PlanEntry} (hp : s.payout = some p)
    (hn : p.replanned = false) (hx : (s.plan s.retained.ledger.pp.toNat).1 = x :: xs) : s.afterJam = { s with
      payout := some { p with replanned := true, current := some x, started := !s.doorOpen, rest := xs }
      tubes := if s.doorOpen then s.tubes
        else s.tubes.set x.tube { s.tubes.get x.tube with dispenser := .running, lastValue := x.value } } := by
  unfold State.afterJam
  rw [hp]
  dsimp only
  rw [hn, if_neg (by decide), hx]
  exact State.runPlan_cons (p := { p with replanned := true, current := none }) rfl x xs

/-- The second jam, and an empty plan after the first, end the payout (R153). -/
theorem State.afterJam_ends {s : State} {p : Payout} (hp : s.payout = some p) (hr : 0 < s.reserved)
    (h : p.replanned = true ∨ (s.plan s.retained.ledger.pp.toNat).1 = []) : Tested (s.payoutEnded p) s.afterJam := by
  unfold State.afterJam
  rw [hp]
  dsimp only
  split
  · exact State.endPayout_tested p s hp hr
  · next hn =>
    rw [h.resolve_left hn]
    exact State.runPlan_nil rfl hr rfl

/-- Settles O54: each event by the state of its tube's dispenser, an entry's last coin and a jam by what is left of the plan. -/
theorem payoutEvents : Obligations.PayoutEvents := by
  intro i s hr tube v l counts paid
  have pulse : exec (.exitPulse i) s = .next (s.exitPulse i).transmit := State.event_running _ hr
  have jam : exec (.jamTimeout i) s = .next (s.jamTimeout i).transmit := State.event_running _ hr
  have window : exec (.trailingWindowEnd i) s = .next (s.trailingEnds i).transmit := State.event_running _ hr
  refine ⟨fun off => ?_, fun trailing => ?_, fun running p e hp hc => ?_, fun idle => ?_, fun running p hp slot => ?_,
    fun trailing => ?_, fun idle => ?_⟩
  · rw [pulse, State.exitPulse, off]
  · rw [State.exitPulse, trailing] at pulse
    exact ⟨_, pulse, State.tubesChanged_tested _ s⟩
  · intro e' p'
    rw [State.exitPulse, running] at pulse
    dsimp only at pulse
    rw [State.paidCoin_current hp hc] at pulse
    have tested := State.tubesChanged_tested (s.coinPaid i (some p')) s
    generalize (s.coinPaid i (some p')).tubesChanged s = w at tested pulse
    obtain ⟨owed, door, held, -⟩ := tested.keeps
    refine ⟨w, tested, fun more => ?_, fun last x xs hx => ?_, fun last hn slot => ?_⟩
    · rw [pulse, if_neg (Nat.not_le.2 more)]
    · rw [pulse, if_pos last, State.entryDone_current owed rfl, hx, State.runPlan_cons rfl, ← show w.doorOpen = s.doorOpen from door]
    · rw [if_pos last, State.entryDone_current owed rfl, hn] at pulse
      exact ⟨_, pulse, State.runPlan_nil rfl (held ▸ slot) rfl⟩
  · rw [jam, State.jamTimeout, if_neg idle]
  · intro p'
    rw [State.jamTimeout, if_pos running, State.jam_payout hp] at jam
    have tested := State.tubesChanged_tested (s.jammed i (some p')) s
    generalize (s.jammed i (some p')).tubesChanged s = w at tested jam
    obtain ⟨owed, door, held, books⟩ := tested.keeps
    have pending : w.retained.ledger = l := congrArg Retained.ledger books
    refine ⟨w, tested, fun first x xs hx => ?_, fun last => ?_⟩
    · rw [jam, State.afterJam_replans owed first (by rw [pending]; exact hx), ← show w.doorOpen = s.doorOpen from door]
    · exact ⟨_, jam, State.afterJam_ends owed (held ▸ slot) (by rw [pending]; exact last)⟩
  · rw [window, State.trailingEnds, if_pos trailing]
    rfl
  · rw [window, State.trailingEnds, if_neg idle]

end Sys2Proof.Machine
end

section
/-! PROOFS. Presentations and departures of cards, and the resolution of UNCERTAIN records (R96, R126 to R131). -/

namespace Sys2Proof.Machine

/-! ## A frame of the card module (R11, R125) -/

/-- A card module's frame in an exchange with its PRESENT slot ends the exchange with what the card unit makes of it. -/
theorem exec_cardFrame {i : Fin 6} {o : Owner} {f : Frame} {s d : State} (h : Answers i o .card f s)
    (hk : f.kind = Kind.cardSeen ∨ f.kind = Kind.cardGone ∨ f.kind = Kind.cardWritten)
    (hd : (s.heard i).takeCardFrame f.kind f.payload = d) : EndsWith o d (exec (.moduleAnswer f) s) := by
  obtain ⟨g, hx⟩ := h.exchange
  have disposed := ((moduleAnswerDisposed f s h.running).2 i o g hx).2 ⟨h.src, h.dest⟩
  obtain ⟨-, -, -, card, -⟩ := disposed
  have ends := card h.role hk
  rw [if_pos h.present, hd] at ends
  exact ends

theorem State.takeCardFrame_seen {k : Byte} {b : List Byte} {p : Presentation} (s : State) (hk : k = Kind.cardSeen)
    (hp : cardSeenOf b = some p) : s.takeCardFrame k b = s.takeSeen p := by
  unfold State.takeCardFrame
  rw [if_pos hk, hp]

theorem State.takeCardFrame_gone {k : Byte} (s : State) (hk : k = Kind.cardGone) : s.takeCardFrame k [] = s.cardLeaves := by
  subst hk
  rfl

/-- A CARD SEEN or a CARD GONE that breaks its encoding has no effect. -/
theorem State.takeCardFrame_broken {k : Byte} {b : List Byte} (s : State)
    (h : (k = Kind.cardSeen ∧ cardSeenOf b = none) ∨ (k = Kind.cardGone ∧ b ≠ [])) : s.takeCardFrame k b = s := by
  unfold State.takeCardFrame
  rcases h with ⟨hk, hb⟩ | ⟨hk, hb⟩
  · rw [if_pos hk, hb]
  · rw [if_neg (by rw [hk]; decide), if_pos hk, if_neg (by simpa using hb)]

/-! ## Acting on a presentation (R126) -/

theorem State.takeSeen_bound (s : State) {b : Binding} (p : Presentation) (hb : s.card.binding = some b) :
    s.takeSeen p = if b.card = p.card then s else s.cardLeaves := by
  unfold State.takeSeen
  rw [hb]

theorem State.takeSeen_unbound (s : State) (p : Presentation) (hb : s.card.binding = none) :
    s.takeSeen p = if s.actsOn p then s.bindCard p else s := by
  unfold State.takeSeen
  rw [hb]

/-- The five conditions of R126: those on the card, the purchase and the chute, and a free slot for the report of a resolution. -/
theorem State.actsOn_iff (s : State) (p : Presentation) : s.actsOn p = true ↔
    s.presentable ∧ (s.unresolved p.card = true → generalCount s.reports + s.reserved < 11) := by
  have slots : 0 < s.freeSlots ↔ generalCount s.reports + s.reserved < 11 := by
    unfold State.freeSlots Config.generalSlots
    omega
  unfold State.actsOn State.presentable
  simp only [Bool.and_eq_true, Option.isNone_iff_eq_none, bne_iff_ne, Bool.or_eq_true, beq_iff_eq, Bool.not_eq_true',
    decide_eq_true_eq, slots, and_assoc]
  cases s.unresolved p.card <;> simp

/-! ## Binding (R128, R129) -/

/-- A presentation acted on is resolved, the card bound, and the entry tested (R127 to R129). -/
theorem State.bindCard_tested {s t : State} {p : Presentation} {credit : Bool} (hr : s.resolve p = t)
    (hh : t.hotlisted p.card = s.hotlisted p.card) (hp : t.purchase = s.purchase) (hs : s.purchase = .idle ∨ s.purchase = .opened)
    (hc : (s.restores p || s.purchase == .idle) = credit) : Tested (t.boundTo p credit) (s.bindCard p) := by
  let u := t.onCard fun c => { c with binding := some (t.bindingFor p), owed := .hold }
  have bound : s.bindCard p =
      (let v := if (s.purchase == .idle) = true then { u with purchase := .opened } else u
       ((if credit = true then v.issueCredit 0 0 else v).issueCard 0)).entryTest := by
    subst hr hc
    unfold u State.bindCard State.bindingFor
    rw [hh]
  have opened : (if (s.purchase == .idle) = true then { u with purchase := .opened } else u) = { u with purchase := .opened } := by
    rcases hs with hs | hs
    · rw [hs]
      rfl
    · have kept : u.purchase = .opened := hp.trans hs
      rw [hs, if_neg (by decide), ← kept]
  rw [bound, opened]
  dsimp only
  cases credit
  · exact State.entryTest_tested _
  · exact State.entryTest_tested _

/-! ## Resolution (R96, R127) -/

theorem State.resolve_none {s : State} {p : Presentation} (h : s.findingOn p = none) : s.resolve p = s ∧ s.restores p = false := by
  unfold State.resolve State.restores
  rw [h]
  exact ⟨rfl, rfl⟩

theorem State.resolve_some {s : State} {p : Presentation} {r : JournalRecord} {o : Resolution} (h : s.findingOn p = some (r, o)) :
    s.resolve p = s.carryOut r o ∧ s.restores p = (o == .restored) := by
  unfold State.resolve State.restores
  rw [h]
  exact ⟨rfl, by cases o <;> rfl⟩

/-- Without an UNCERTAIN record for the card nothing is found (R127). -/
theorem State.findingOn_resolved {s : State} {p : Presentation} (h : s.unresolved p.card = false) : s.findingOn p = none := by
  have absent : s.uncertainOf p.card = none := by
    unfold State.uncertainOf
    rw [List.find?_eq_none]
    intro r hr hu
    rw [Bool.and_eq_true, beq_iff_eq, beq_iff_eq] at hu
    have := (s.unresolved_iff p.card).2 ⟨r, hr, hu⟩
    rw [h] at this
    cases this
  unfold State.findingOn
  rw [absent]
  rfl

/-- Settles O55: the conditions of R126 in turn, and a departure as every card leaves. -/
theorem presentationBinds : Obligations.PresentationBinds := by
  intro i o f s h ends
  have left := State.cardLeaves_left (s.heard i)
  refine ⟨fun card => s.unresolved_iff card, fun p hk hp => ?_, fun hk hp => ?_, fun hb => ?_⟩
  · have seen := State.takeCardFrame_seen (s.heard i) hk hp
    refine ⟨fun hs hu => ?_, fun hb hn => ?_, fun b hb hc => ?_, fun b hb hc => ?_⟩
    · obtain ⟨resolved, restores⟩ := State.resolve_none (State.findingOn_resolved (s := s.heard i) hu)
      refine ⟨_, State.bindCard_tested resolved rfl rfl hs.2.2.1 (by rw [restores]; exact Bool.false_or _),
        exec_cardFrame h (.inl hk) (seen.trans ?_)⟩
      rw [(s.heard i).takeSeen_unbound p hs.1,
        if_pos (((s.heard i).actsOn_iff p).2 ⟨hs, fun n => by rw [show s.unresolved p.card = true from n] at hu; cases hu⟩)]
    · refine exec_cardFrame h (.inl hk) (seen.trans ?_)
      rw [(s.heard i).takeSeen_unbound p hb, if_neg]
      intro acts
      obtain ⟨hs, room⟩ := ((s.heard i).actsOn_iff p).1 acts
      rcases hn with hn | ⟨hu, full⟩
      · exact hn hs
      · exact Nat.not_lt.2 full (room hu)
    · exact exec_cardFrame h (.inl hk) (seen.trans (((s.heard i).takeSeen_bound p hb).trans (if_pos hc)))
    · exact ⟨_, left, exec_cardFrame h (.inl hk) (seen.trans (((s.heard i).takeSeen_bound p hb).trans (if_neg hc)))⟩
  · exact ⟨_, left, exec_cardFrame h (.inr (.inl hk)) (by rw [hp]; exact State.takeCardFrame_gone _ hk)⟩
  · exact exec_cardFrame h (hb.imp And.left fun n => .inl n.1) (State.takeCardFrame_broken _ hb)

/-! ### The record found (R127) -/

/-- The first UNCERTAIN record of the card is the one found. -/
theorem State.uncertainOf_split {s : State} {card : Nat} {r : JournalRecord} {before after : List JournalRecord}
    (hj : s.retained.journal = before ++ r :: after) (hc : r.card = card) (hu : r.state = .uncertain)
    (hb : ∀ x ∈ before, x.card ≠ card ∨ x.state ≠ .uncertain) : s.uncertainOf card = some r := by
  unfold State.uncertainOf
  rw [hj, List.find?_eq_some_iff_append]
  refine ⟨by simp [hc, hu], before, after, rfl, fun x hx => ?_⟩
  rcases hb x hx with n | n <;> simp [n]

/-- A finding carried out with a free report slot: the record removed, its money moved, RESOLVED issued (R96, R127). -/
theorem State.carryOut_free {s : State} {r : JournalRecord} {before after : List JournalRecord} (x : Resolution)
    (hj : s.retained.journal = before ++ r :: after) (hn : ∀ y ∈ before ++ after, y.txn ≠ r.txn)
    (hf : generalCount s.reports + s.reserved < 11) : s.carryOut r x = { s with
      retained := { s.retained with journal := before ++ after, ledger := r.resolution x s.retained.ledger }
      reports := s.reports ++ [.resolved r.report x] } := by
  unfold State.carryOut State.issueFree
  have free : 0 < ((s.onJournal (dropRecord r.txn)).onLedger (r.resolution x)).freeSlots := by
    unfold State.freeSlots Config.generalSlots
    show 0 < 11 - generalCount s.reports - s.reserved
    omega
  have dropped : dropRecord r.txn s.retained.journal = before ++ after := by rw [hj, dropRecord_split hn]
  rw [if_pos free, ← dropped]
  rfl

theorem JournalRecord.finding_landed {p : Presentation} {r : JournalRecord} (h : (r.machineId, r.txn) ∈ p.history) :
    r.finding p = some .landed := if_pos (List.contains_iff_mem.2 h)

theorem JournalRecord.finding_absent {p : Presentation} {r : JournalRecord} (h : (r.machineId, r.txn) ∉ p.history) :
    r.finding p = if p.sequence = r.oldSequence then some .restored else none :=
  if_neg fun n => h (List.contains_iff_mem.1 n)

/-- Settles O56: the finding on the card's first UNCERTAIN record, carried out where there is one, and the binding. -/
theorem presentationResolves : Obligations.PresentationResolves := by
  intro i o f s p r before after h hk hp hs hj hc hu hb hn hf l opens settled binds landed
  have found : (s.heard i).uncertainOf p.card = some r := State.uncertainOf_split hj hc hu hb
  have seen : (s.heard i).takeCardFrame f.kind f.payload = (s.heard i).bindCard p := by
    rw [State.takeCardFrame_seen _ hk hp, (s.heard i).takeSeen_unbound p hs.1, if_pos (((s.heard i).actsOn_iff p).2 ⟨hs, fun _ => hf⟩)]
  have finding (x : Option Resolution) (hx : r.finding p = x) : (s.heard i).findingOn p = x.map fun x => (r, x) := by
    unfold State.findingOn
    rw [found, Option.bind_some, hx]
  have resolves (x : Resolution) (hx : r.finding p = some x) (credit : Bool) (hcr : (x == .restored || s.purchase == .idle) = credit) :
      binds (settled (r.resolution x l) x) credit := by
    obtain ⟨resolved, restores⟩ := State.resolve_some (finding _ hx)
    rw [State.carryOut_free (s := s.heard i) x hj hn hf] at resolved
    exact ⟨_, State.bindCard_tested resolved rfl rfl hs.2.2.1 (by rw [restores]; exact hcr), exec_cardFrame h (.inl hk) seen⟩
  refine ⟨fun hl ht => ?_, fun hl ht => ?_, fun hl hq => ?_, fun hl hq => ?_⟩
  · have := resolves .landed (JournalRecord.finding_landed hl) opens (Bool.false_or _)
    unfold JournalRecord.resolution at this
    rwa [if_pos ht] at this
  · have := resolves .landed (JournalRecord.finding_landed hl) opens (Bool.false_or _)
    unfold JournalRecord.resolution at this
    rwa [if_neg ht] at this
  · exact resolves .restored ((JournalRecord.finding_absent hl).trans (if_pos hq)) true rfl
  · obtain ⟨resolved, restores⟩ := State.resolve_none (finding _ ((JournalRecord.finding_absent hl).trans (if_neg hq)))
    exact ⟨_, State.bindCard_tested resolved rfl rfl hs.2.2.1 (by rw [restores]; exact Bool.false_or _),
      exec_cardFrame h (.inl hk) seen⟩

end Sys2Proof.Machine
end

section
/-! PROOFS. The ends of a SENT card write (R92, R93, R138 to R140, R142). -/

namespace Sys2Proof.Machine

theorem State.takeCardFrame_written {k : Byte} {b : List Byte} {txn : Nat} {r : WriteResult} (s : State) (hk : k = Kind.cardWritten)
    (hb : cardWrittenOf b = some (txn, r)) : s.takeCardFrame k b = s.takeWritten txn r := by
  unfold State.takeCardFrame
  rw [if_neg (by rw [hk]; decide), if_neg (by rw [hk]; decide), hb]

theorem State.takeCardFrame_unwritten {k : Byte} {b : List Byte} (s : State) (hk : k = Kind.cardWritten)
    (hb : cardWrittenOf b = none) : s.takeCardFrame k b = s := by
  unfold State.takeCardFrame
  rw [if_neg (by rw [hk]; decide), if_neg (by rw [hk]; decide), hb]

theorem WriteState.isSent_eq_false {w : WriteState} (h : ∀ x, w ≠ .sent x) : w.isSent = false := by
  cases w with
  | none => rfl
  | owed x => rfl
  | sent x => exact absurd rfl (h x)

/-- Without a write SENT a result changes nothing (R138). -/
theorem State.takeWritten_unsent {s : State} (txn : Nat) (r : WriteResult) (h : ∀ w, s.card.write ≠ .sent w) :
    s.takeWritten txn r = s := by
  unfold State.takeWritten
  split
  · rfl
  · exact if_neg fun n => by rw [WriteState.isSent_eq_false h] at n; cases n.1

theorem State.writeTimeout_unsent {s : State} (h : ∀ w, s.card.write ≠ .sent w) : s.writeTimeout = s := by
  unfold State.writeTimeout
  split
  · rfl
  · exact if_neg fun n => by rw [WriteState.isSent_eq_false h] at n; cases n

/-- What a result makes of the write it belongs to (R139, R140). -/
def State.writeResult (o : OpRecord) (w : CardWrite) (r : WriteResult) (s : State) : State :=
  match r with
  | .done n => s.writeDone o w n
  | .fail => s.writeFail o w
  | .unsure => s.writeUncertain o w .unsure

/-- A result of the number of the write SENT ends it; of any other it changes nothing (R138). -/
theorem State.takeWritten_sent {s : State} {o : OpRecord} {w : CardWrite} (ho : s.retained.op = some o) (hw : s.card.write = .sent w)
    (txn : Nat) (r : WriteResult) : s.takeWritten txn r = if w.txn = txn then s.writeResult o w r else s := by
  unfold State.takeWritten
  rw [State.writeInFlight_some ho (.inr hw), hw]
  exact ite_congr (by simp [WriteState.isSent]) (fun _ => rfl) fun _ => rfl

theorem State.writeTimeout_sent {s : State} {o : OpRecord} {w : CardWrite} (ho : s.retained.op = some o)
    (hw : s.card.write = .sent w) : s.writeTimeout = s.writeUncertain o w .timeout := by
  unfold State.writeTimeout
  rw [State.writeInFlight_some ho (.inr hw), hw]
  rfl

theorem State.writeClosed_reserved (s : State) : s.writeClosed.reserved = s.reserved := by
  unfold State.writeClosed
  dsimp only
  split <;> rfl

/-- A FAIL result voids the operation (R139). -/
theorem State.writeFail_after (o : OpRecord) (w : CardWrite) (s : State) (h : 2 ≤ s.reserved) : AfterCard o true
    (((s.onJournal (dropRecord w.txn)).opEnded (Move.void s.retained.ledger)
      (if o.kind = .topup then .topupVoid (topupReport o w 0 0) .writeFail else .saleVoid o.saleReport .writeFail)).writeClosed)
    (s.writeFail o w) := by
  have room : 0 < (s.onJournal (dropRecord w.txn)).reserved := by show 0 < s.reserved; omega
  have after (r : Report) := State.afterCard_after o true
    ((s.onJournal (dropRecord w.txn)).opEnded (Move.void s.retained.ledger) r).writeClosed (by
      rw [State.writeClosed_reserved]
      show 0 < s.reserved - 1
      omega)
  unfold State.writeFail
  dsimp only
  rw [State.endOp_ended _ _ _ room, State.endOp_ended _ _ _ room]
  by_cases k : o.kind = .topup
  · have ended := after (.topupVoid (topupReport o w 0 0) .writeFail)
    rw [if_pos k] at ended
    rw [if_pos k, if_pos k]
    exact ended
  · have ended := after (.saleVoid o.saleReport .writeFail)
    rw [if_neg k] at ended
    rw [if_neg k, if_neg k]
    exact ended

/-! ## A DONE result (R139, R142) -/

/-- The state a DONE result leaves of an operation, but for what follows its end: its record removed, the binding rewritten, its outcome
and CARD issued, the write closed (R139). -/
def State.writeSettled (w : CardWrite) (n : Nat) (l : Ledger) (r : Report) (s : State) : State :=
  (((s.onJournal (dropRecord w.txn)).onCard fun c =>
    { c with binding := c.binding.map (Binding.written n w.content) }).opEnded l r).cardReported.writeClosed

theorem State.writeSettled_reserved (w : CardWrite) (n : Nat) (l : Ledger) (r : Report) (s : State) :
    (s.writeSettled w n l r).reserved = s.reserved - 1 := State.writeClosed_reserved _

/-- A settled sale goes on as every sale's end (R93, R139). -/
theorem State.writeDone_sale {o : OpRecord} (w : CardWrite) (n : Nat) {s : State} (h : 2 ≤ s.reserved) (hk : o.kind ≠ .topup) :
    AfterSale o false (s.writeSettled w n (Move.settleSale s.retained.ledger) (.saleDone o.saleReport)) (s.writeDone o w n) := by
  unfold State.writeDone
  dsimp only
  rw [if_neg hk, State.endOp_ended _ _ _ (by show 0 < s.reserved; omega)]
  exact State.afterSale_after _ _ _ (by
    rw [State.writeSettled_reserved]
    omega)

/-- A settled top-up hands its second reservation to its receipt and comes to rest (R139, R142). -/
theorem State.writeDone_topup {o : OpRecord} (w : CardWrite) (n : Nat) {s : State} (h : 2 ≤ s.reserved) (hk : o.kind = .topup) :
    s.writeDone o w n = ((s.writeSettled w n (Move.settleTopup o.bonus s.retained.ledger)
      (.topupDone (topupReport o w w.content.newBalance n))).handReceipt o w w.content.newBalance).comeToRest := by
  unfold State.writeDone
  dsimp only
  rw [if_pos hk, State.endOp_ended _ _ _ (by show 0 < s.reserved; omega)]
  rfl

/-- The print path rests on the slots' roles and presence, the printer and the TEMPLATE table alone (R109). -/
theorem State.printPath_congr {s t : State} (hs : ∀ j : Fin 6, (t.slots.get j).role = (s.slots.get j).role ∧
    (t.slots.get j).present = (s.slots.get j).present) (hp : t.printer = s.printer) (ht : t.retained.template = s.retained.template)
    (n : Nat) : t.printPath n = s.printPath n := by
  unfold State.printPath State.presentOfRole State.slotOfRole State.templateLines
  simp only [hs, hp, ht]

/-- A slot's misses cleared change neither the role nor the presence of any slot (R15). -/
theorem State.heard_slot (i j : Fin 6) (s : State) : ((s.heard i).slots.get j).role = (s.slots.get j).role ∧
    ((s.heard i).slots.get j).present = (s.slots.get j).present := by
  unfold State.heard
  by_cases h : i = j
  · subst h
    simp [Vector.get_eq_getElem]
  · simp [Vector.get_eq_getElem, Fin.val_ne_of_ne h]

theorem State.printPath_settled (i : Fin 6) (w : CardWrite) (n : Nat) (l : Ledger) (r : Report) (s : State) (t : Nat) :
    ((s.heard i).writeSettled w n l r).printPath t = s.printPath t := by
  have same {x : State} (hs : x.slots = (s.heard i).slots) (hp : x.printer = s.printer)
      (ht : x.retained.template = s.retained.template) : x.printPath t = s.printPath t :=
    State.printPath_congr (fun j => hs ▸ s.heard_slot i j) hp ht t
  unfold State.writeSettled State.writeClosed
  dsimp only
  split
  · exact same rfl rfl rfl
  · exact same rfl rfl rfl

/-! ### The receipt (R142, R169) -/

theorem State.handReceipt_none {o : OpRecord} (w : CardWrite) (n : Nat) (s : State) (h : o.receipt = false) :
    s.handReceipt o w n = { s with reserved := s.reserved - 1 } := by
  unfold State.handReceipt
  rw [h]
  rfl

theorem State.handReceipt_skipped {o : OpRecord} (w : CardWrite) (n : Nat) {s : State} (h : o.receipt = true)
    (hp : s.printPath 6 = false) (hr : 0 < s.reserved) : s.handReceipt o w n = { s with
      retained := { s.retained with lastReceipt := some (receiptOf o w n) }
      reports := s.reports ++ [.receipt o.txn .skipped], reserved := s.reserved - 1 } := by
  have path : (s.onRetained fun x => { x with lastReceipt := some (receiptOf o w n) }).printPath 6 = false := hp
  unfold State.handReceipt
  rw [h, if_neg (by decide)]
  dsimp only
  rw [path, if_neg (by decide), State.issueReserved_eq _ _ (by exact hr)]
  rfl

theorem State.handReceipt_printed {o : OpRecord} (w : CardWrite) (n : Nat) {s : State} (h : o.receipt = true)
    (hp : s.printPath 6 = true) : s.handReceipt o w n = ({ s with
      retained := { s.retained with lastReceipt := some (receiptOf o w n), receiptMarker := some o.txn } } : State).startJob
        .receipt o.txn 6 (receiptOf o w n).values := by
  have path : (s.onRetained fun x => { x with lastReceipt := some (receiptOf o w n) }).printPath 6 = true := hp
  unfold State.handReceipt
  rw [h, if_neg (by decide)]
  dsimp only
  rw [path, if_pos rfl]
  rfl

/-- Settles O57: the write's timer and its results, each end by what follows it. -/
theorem cardWriteEnds : Obligations.CardWriteEnds := by
  intro s
  refine ⟨fun hw hr => ?_, fun i owner f h hk hn => ?_, fun o w hr ho hw hres => ⟨?_, fun i owner f txn r h hk hp => ?_⟩⟩
  · exact (State.event_running _ hr).trans (by rw [State.writeTimeout_unsent hw])
  · refine exec_cardFrame h (.inr (.inr hk)) ?_
    cases hb : cardWrittenOf f.payload with
    | none => exact State.takeCardFrame_unwritten _ hk hb
    | some x =>
      rw [State.takeCardFrame_written _ hk hb]
      exact State.takeWritten_unsent (s := s.heard i) _ _ (hn.resolve_right (by rw [hb]; simp))
  · exact ⟨_, (State.event_running _ hr).trans (by rw [State.writeTimeout_sent ho hw]), State.writeUncertain_uncertain o w _ s hres⟩
  · intro ends base report
    have taken := (State.takeCardFrame_written (s.heard i) hk hp).trans (State.takeWritten_sent (s := s.heard i) ho hw txn r)
    have written (e : txn = w.txn) : ends ((s.heard i).writeResult o w r) :=
      exec_cardFrame h (.inr (.inr hk)) (taken.trans (if_pos e.symm))
    refine ⟨fun hn => ?_, fun e hu => ?_, fun e hf => ?_, fun n e hd => ?_⟩
    · exact exec_cardFrame h (.inr (.inr hk)) (taken.trans (if_neg fun e => hn e.symm))
    · subst hu
      exact ⟨_, State.writeUncertain_uncertain o w _ (s.heard i) hres, written e⟩
    · subst hf
      exact ⟨_, written e, State.writeFail_after o w (s.heard i) hres⟩
    · subst hd
      intro rewritten
      refine ⟨fun product first last hs hc => ?_, fun x ht hc => ?_⟩
      · have after := State.writeDone_sale w n (s := s.heard i) hres hs
        unfold State.writeSettled at after
        rw [hc] at after
        exact ⟨_, written e, after⟩
      · intro u receipt kept
        have settled : (s.heard i).writeSettled w n (Move.settleTopup o.bonus s.retained.ledger) (.topupDone (topupReport o w x n)) = u := by
          unfold State.writeSettled
          rw [hc]
          rfl
        have path : u.printPath 6 = s.printPath 6 := settled ▸ s.printPath_settled i w n _ _ 6
        have room : 0 < u.reserved := by
          rw [← settled, State.writeSettled_reserved]
          show 0 < s.reserved - 1
          omega
        have done : (s.heard i).writeResult o w (.done n) = (u.handReceipt o w x).comeToRest := by
          rw [← settled]
          refine (State.writeDone_topup w n (s := s.heard i) hres ht).trans ?_
          rw [hc]
          rfl
        have ended {v : State} (hv : u.handReceipt o w x = v) : ends v.comeToRest := by
          rw [← hv, ← done]
          exact written e
        refine ⟨fun hn => ?_, fun hy hq => ?_, fun hy hq => ?_⟩
        · exact ⟨_, ended (State.handReceipt_none w x u hn), State.comeToRest_tested _⟩
        · exact ⟨_, ended (State.handReceipt_skipped w x hy (path.trans hq) room), State.comeToRest_tested _⟩
        · exact ⟨_, _, ended (State.handReceipt_printed w x hy (path.trans hq)), State.startJob_started _ _ _ _ _,
            State.comeToRest_tested _⟩

end Sys2Proof.Machine
end

section
/-! PROOFS. The price of a product (R111, R112). -/

namespace Sys2Proof.Machine

/-- The clamp stays between a floor and a cap that is not below it (R112). -/
theorem clampPrice_mem {floor cap : Nat} (rounded : Nat) (h : floor ≤ cap) :
    floor ≤ clampPrice floor cap rounded ∧ clampPrice floor cap rounded ≤ cap := by
  unfold clampPrice
  split
  · exact ⟨Nat.le_refl _, h⟩
  · next above =>
    split
    · exact ⟨h, Nat.le_refl _⟩
    · next below => exact ⟨Nat.not_lt.1 above, Nat.not_lt.1 below⟩

/-- NEAREST takes a count within half a step of the fare, the higher one of two at half a step (R112). -/
theorem roundedCount_nearest (n : Nat) {q : Nat} (hq : 0 < q) :
    2 * (roundedCount .nearest n q * q) ≤ 2 * n + q ∧ 2 * n < 2 * (roundedCount .nearest n q * q) + q := by
  have whole : n / q * q + n % q = n := Nat.div_add_mod' n q
  have rest : n % q < q := Nat.mod_lt n hq
  unfold roundedCount
  dsimp only
  split
  · rw [Nat.succ_mul (n / q)]
    omega
  · omega

/-- UP takes the least count not below the fare (R112). -/
theorem roundedCount_up (n : Nat) {q : Nat} (hq : 0 < q) :
    n ≤ roundedCount .up n q * q ∧ roundedCount .up n q * q < n + q := by
  have whole : n / q * q + n % q = n := Nat.div_add_mod' n q
  have rest : n % q < q := Nat.mod_lt n hq
  unfold roundedCount
  dsimp only
  split
  · rw [Nat.succ_mul (n / q)]
    omega
  · omega

/-- DOWN takes the greatest count not above the fare (R112). -/
theorem roundedCount_down (n : Nat) {q : Nat} (hq : 0 < q) :
    roundedCount .down n q * q ≤ n ∧ n < roundedCount .down n q * q + q :=
  ⟨Nat.div_mul_le_self n q, Nat.lt_div_mul_add hq⟩

/-- Settles O33: the clamp's bounds, the rounded count of each mode, and the scaled fare by its definition. -/
theorem priceRoundsAndClamps : Obligations.PriceRoundsAndClamps := by
  refine ⟨fun p n hs => ?_, fun _ _ _ _ _ => rfl⟩
  have hq : 0 < 10000 * p.step := by omega
  refine ⟨clampPrice_mem _, roundedCount p.rounding n (10000 * p.step), rfl, fun h => ?_, fun h => ?_, fun h => ?_⟩
  · rw [h]
    exact roundedCount_nearest n hq
  · rw [h]
    exact roundedCount_up n hq
  · rw [h]
    exact roundedCount_down n hq

end Sys2Proof.Machine
end

section
/-! PROOFS. The notices of the printer, taken one after another (R162 to R164, R167, R168). -/

namespace Sys2Proof.Machine

/-! ## The print job and its reservations over a notice (R31) -/

/-- The print unit has no job exactly where the journal's view shows none. -/
theorem State.journalView_job_none (s : State) : s.journalView.job = none ↔ s.printer.job = none := Option.map_eq_none_iff

/-- A job's end leaves no job (R167, R168). -/
theorem State.jobEnds_job (failure : Option VoidCause) (s : State) : (s.jobEnds failure).printer.job = none := by
  unfold State.jobEnds
  split
  · next h => exact h
  · rw [← State.journalView_job_none, State.takeWaiting_journalView, State.journalView_job_none, State.tellOwner_printer]
    rfl

/-- A STATE notice keeps the job and the reservations, or ends the job (R168). -/
theorem State.takeState_job (p : Paper) (h : Head) (f : PrinterFault) (s : State) :
    ((s.takeState p h f).printer.job = s.printer.job ∧ (s.takeState p h f).reserved = s.reserved) ∨
      (s.takeState p h f).printer.job = none := by
  unfold State.takeState
  dsimp only
  split
  · left
    split <;> exact ⟨rfl, rfl⟩
  · exact .inr (State.jobEnds_job _ _)

/-- A CUT DONE notice keeps the job and the reservations, or ends the job (R167). -/
theorem State.takeCutDone_job (tag : Nat) (s : State) :
    ((s.takeCutDone tag).printer.job = s.printer.job ∧ (s.takeCutDone tag).reserved = s.reserved) ∨
      (s.takeCutDone tag).printer.job = none := by
  unfold State.takeCutDone
  split
  · exact .inl ⟨rfl, rfl⟩
  · split
    · exact .inr (State.jobEnds_job _ _)
    · exact .inl ⟨rfl, rfl⟩

/-- A notice keeps the job and the reservations, or ends the job (R164, R167, R168). -/
theorem State.takeNotice_job (s : State) (n : Notice) :
    ((s.takeNotice n).printer.job = s.printer.job ∧ (s.takeNotice n).reserved = s.reserved) ∨ (s.takeNotice n).printer.job = none := by
  cases n with
  | room c => exact .inl ⟨Printer.takeRoom_job _ _ _, rfl⟩
  | cutDone tag => exact s.takeCutDone_job tag
  | state p h f => exact s.takeState_job p h f

/-- A notice leaves the job that goes on its reservations. -/
theorem State.takeNotice_jobReserved (n : Notice) {s : State} (h : s.jobReserved) : (s.takeNotice n).jobReserved := by
  intro j hj
  rcases s.takeNotice_job n with ⟨job, reserved⟩ | gone
  · rw [reserved]
    exact h j (job ▸ hj)
  · rw [gone] at hj
    cases hj

/-- A notice leaves the exchange it came in as it is (R162). -/
theorem State.takeNotice_exchange (s : State) (n : Notice) : (s.takeNotice n).exchange = s.exchange :=
  congrArg LineView.exchange (s.takeNotice_line n)

/-! ## The notices of a frame (R162) -/

/-- Notices in an exchange of an owner are taken as NoticesTaken says. -/
theorem State.takeNotice_foldl_taken (o : Owner) (ns : List Notice) (s : State) (h : ∃ x, s.exchange = some x ∧ x.owner = o)
    (hr : s.jobReserved) : NoticesTaken o ns s (ns.foldl State.takeNotice s) := by
  induction ns generalizing s with
  | nil => rfl
  | cons n ns ih =>
    refine ⟨s.takeNotice n, State.takeNotice_taken o n s h hr, ih _ ?_ (State.takeNotice_jobReserved n hr)⟩
    rw [State.takeNotice_exchange]
    exact h

theorem State.takeNotices_some {k : Byte} {p : List Byte} {ns : List Notice} (s : State) (h : printerNotices k p = some ns) :
    s.takeNotices k p = ns.foldl State.takeNotice s := by
  unfold State.takeNotices
  rw [h]
  rfl

/-- A frame that breaks its encoding has no effect. -/
theorem State.takeNotices_none {k : Byte} {p : List Byte} (s : State) (h : printerNotices k p = none) : s.takeNotices k p = s := by
  unfold State.takeNotices
  rw [h]
  rfl

/-- A printer's frame in an exchange with its PRESENT slot ends the exchange with what the print unit makes of it (R11). -/
theorem exec_printerFrame {i : Fin 6} {o : Owner} {f : Frame} {s d : State} (h : Answers i o .printer f s)
    (hk : f.kind = Kind.printRoom ∨ f.kind = Kind.printCutDone ∨ f.kind = Kind.printState)
    (hd : (s.heard i).takeNotices f.kind f.payload = d) : EndsWith o d (exec (.moduleAnswer f) s) := by
  obtain ⟨g, hx⟩ := h.exchange
  have disposed := ((moduleAnswerDisposed f s h.running).2 i o g hx).2 ⟨h.src, h.dest⟩
  obtain ⟨-, -, -, -, printer⟩ := disposed
  have ends := printer h.role hk
  rw [if_pos h.present, hd] at ends
  exact ends

/-- Settles O59: the notices of a frame taken in their order, and a frame that breaks its encoding. -/
theorem printerNoticesTaken : Obligations.PrinterNoticesTaken := by
  intro i o f s h hr hk
  refine ⟨fun ns hn => ?_, fun hn => exec_printerFrame h hk (State.takeNotices_none _ hn)⟩
  obtain ⟨g, hx⟩ := h.exchange
  exact ⟨_, State.takeNotice_foldl_taken o ns (s.heard i) ⟨_, hx, rfl⟩ hr, exec_printerFrame h hk (State.takeNotices_some _ hn)⟩

end Sys2Proof.Machine
end

section
/-! PROOFS. RESTART, CLEAR ALL, and the part without main power or with RESET held (R171, R172, R174). -/

namespace Sys2Proof.Machine

/-! ## RESTART and CLEAR ALL (R172, R174) -/

/-- An accepted restart request puts its reply after those already there, and stops the C-line assembler (R172). -/
theorem State.frameSeen_replyThenStart (kind : Byte) (body : ReplyBody) (cause : StartCause) (s : State) :
    s.frameSeen.replyThenStart kind body cause =
      { s.frameSeen with stopping := true, replies := s.replies ++ [⟨kind, body, some cause⟩] } := by
  rw [← s.frameSeen_replies]
  rfl

theorem State.serveClearAll_ready {s : State} (h : s.part = .ready) : s.serveClearAll = s.refuse Kind.clearAll .service :=
  if_pos (by rw [h]; decide)

/-- Money or a record held refuses CLEAR ALL (R174). -/
theorem State.serveClearAll_held {s : State} {r : Retained} (hs : s.part = .service) (hr : s.retained = r)
    (h : r.ledger.noMoney = false ∨ r.journal ≠ []) : s.serveClearAll = s.refuse Kind.clearAll .state := by
  subst hr
  unfold State.serveClearAll
  rw [if_neg (by rw [hs]; decide)]
  rcases h with money | records
  · rw [if_pos (by rw [money]; rfl)]
  · have held : (!s.retained.journal.isEmpty) = true := by simpa using records
    rw [if_pos held, ite_self]

theorem State.serveClearAll_free {s : State} {r : Retained} (hs : s.part = .service) (hr : s.retained = r)
    (hm : r.ledger.noMoney = true) (hj : r.journal = []) : s.serveClearAll =
      s.replyThenStart Kind.clearAll (.clearAll r.ledger.totals r.txn) .clearAll := by
  subst hr
  unfold State.serveClearAll
  rw [if_neg (by rw [hs]; decide), if_neg (by rw [hm]; decide), if_neg (by rw [hj]; decide)]

/-- Settles O42: past the gate of UNSET, RESTART is always accepted, and CLEAR ALL has the checks of R174 in order. -/
theorem restartRequestsOnlyAnswer : Obligations.RestartRequestsOnlyAnswer := by
  intro s ht hp u l
  have part : u.part = s.part := s.frameSeen_part
  have retained : u.retained = s.retained := s.frameSeen_retained
  have set : u.part ≠ .unset := by rwa [part]
  have restart : exec .restart s = .next (u.gated Kind.restart State.serveRestart).transmit := exec_request rfl ht
  have clearAll : exec .clearAll s = .next (u.gated Kind.clearAll State.serveClearAll).transmit := exec_request rfl ht
  rw [State.gated_set _ _ set] at restart clearAll
  constructor
  · rw [restart, State.serveRestart, State.frameSeen_replyThenStart]
  · rw [clearAll]
    split
    · next ready => rw [State.serveClearAll_ready (part.trans ready)]
    · next ready =>
      have service : u.part = .service := by
        cases h : u.part with
        | unset => exact absurd h set
        | ready => exact absurd (part.symm.trans h) ready
        | service => rfl
      have blocked : (l.c ≠ 0 ∨ l.k ≠ 0 ∨ l.pp ≠ 0 ∨ l.h ≠ 0 ∨ s.retained.journal ≠ []) ↔
          l.noMoney = false ∨ s.retained.journal ≠ [] := by simp only [l.noMoney_iff, or_assoc]
      split
      · next held => rw [State.serveClearAll_held service retained (blocked.1 held)]
      · next free =>
        obtain ⟨money, records⟩ := not_or.1 (blocked.not.1 free)
        rw [State.serveClearAll_free service retained (Bool.eq_true_of_not_eq_false money) (not_not.1 records),
          State.frameSeen_replyThenStart]
        rfl

/-! ## Power and RESET (R171, R172) -/

/-- Main power's loss quiets the part. -/
theorem State.powerFails_on {s : State} (h : s.power = true) : s.powerFails = { s.quiet with power := false } := if_pos h

theorem State.backupFails_on {s : State} (h : s.power = true) : s.backupFails = s := if_pos h

theorem State.backupFails_off {s : State} (h : s.power = false) : s.backupFails = { s with retainedGood := false } :=
  if_neg (by rw [h]; decide)

/-- A return of main power with RESET held waits for its release (assumption 13). -/
theorem State.powerReturns_waits (pins : Pins) {s : State} (h : s.power = false) (hr : s.resetHeld = true) :
    s.powerReturns pins = { s with power := true } := by
  unfold State.powerReturns
  rw [if_neg (by rw [h]; decide)]
  exact if_pos hr

/-- A release of RESET without main power waits for its return (assumption 13). -/
theorem State.resetReleases_waits (pins : Pins) {s : State} (h : s.power = false) (hr : s.resetHeld = true) :
    s.resetReleases pins = { s with resetHeld := false } := by
  unfold State.resetReleases
  rw [if_neg (by rw [hr]; decide)]
  exact if_neg (by rw [h]; decide)

/-- A state in which the part takes no event is left as it is at a command's end. -/
theorem State.done_stopped {s : State} (h : s.running = false) : s.done = .next s := by
  rw [State.done, State.transmit_stopped h]

theorem State.onCLine_stopped (f : Frame) (serve : State → State) {s : State} (h : s.running = false) : s.onCLine f serve = s :=
  if_pos (by rw [h]; rfl)

/-- A request has no effect while the part takes no event. -/
theorem exec_request_stopped {i : Instr} {f : Frame} {s : State} (hf : frameOfRequest i = some f) (h : s.running = false) :
    exec i s = .next s := by
  rw [exec_onCLine hf, State.onCLine_stopped _ _ h, State.done_stopped h]

/-- While the part takes no event, the clock, the supplies and the pins alone have an effect (R171, R172). -/
theorem exec_stopped {s : State} (h : s.running = false) (c : Instr) : exec c s = .next s ∨
    c = .secondAdvance ∨ c = .hundredthAdvance ∨ c = .oscillatorStop ∨ c = .timeBaseRunsAgain ∨ c = .backupSupplyFailure ∨
      c = .mainPowerLoss ∨ c = .resetHeld ∨ (∃ p, c = .powerReturn p) ∨ ∃ p, c = .resetRelease p := by
  have frame (f : Frame) : (s.onCLine f (State.disposeFrame f)).done = .next s := by
    rw [State.onCLine_stopped _ _ h, State.done_stopped h]
  cases hf : frameOfRequest c with
  | some f => exact .inl (exec_request_stopped hf h)
  | none =>
    cases c
    case secondAdvance | hundredthAdvance | oscillatorStop | timeBaseRunsAgain | backupSupplyFailure | mainPowerLoss | resetHeld |
      powerReturn | resetRelease => simp
    case cLineFrame f => exact .inl (frame f)
    case downwardFrame d k p => exact .inl (frame ⟨d, terminal, k, p⟩)
    case setup | alive | query | service | inhibit | load | discard | activate | clock | sell | topup | cancel | voucher | reprint |
      chuteClear | tube | writeOff | clearTotals | clearAll | restart => cases hf
    all_goals exact .inl (State.event_stopped _ h)

/-- Settles O44: each change of the supplies and of RESET by its rule, and no event taken in between. -/
theorem powerAndReset : Obligations.PowerAndReset := by
  intro pins s coils quiet
  refine ⟨fun h => congrArg Host.Outcome.next (State.powerFails_on h), rfl,
    fun h => congrArg Host.Outcome.next (State.backupFails_off h), fun h => congrArg Host.Outcome.next (State.backupFails_on h),
    fun h hr => ?_, fun h hr => ?_, exec_stopped⟩
  · have waits : ({ s with power := true } : State).running = false := by simp [State.running, hr]
    calc exec (.powerReturn pins) s = (s.powerReturns pins).done := rfl
      _ = .next { s with power := true } := by rw [State.powerReturns_waits pins h hr, State.done_stopped waits]
  · have waits : ({ s with resetHeld := false } : State).running = false := by simp [State.running, h]
    calc exec (.resetRelease pins) s = (s.resetReleases pins).done := rfl
      _ = .next { s with resetHeld := false } := by rw [State.resetReleases_waits pins h hr, State.done_stopped waits]

end Sys2Proof.Machine
end

section
/-! PROOFS. The queue of commands: a step runs its front command, and every command answers a next state that holds the queue as it
was. -/

namespace Sys2Proof.Machine

/-! ## The step -/

theorem step_of_pending_nil {s : State} (h : s.pending = []) : step s = .next s := by
  unfold step
  rw [h]

theorem step_of_pending_cons {s : State} {c : Instr} {rest : List Instr} (h : s.pending = c :: rest) :
    step s = exec c { s with pending := rest } := by
  unfold step
  rw [h]

/-- Settles O1: each of the queue's two shapes by the step's equation for it. -/
theorem stepRunsFrontCommand : Obligations.StepRunsFrontCommand :=
  fun _ => ⟨fun _ _ => step_of_pending_cons, step_of_pending_nil⟩

/-! ## Every command -/

/-- A command's end answers a next state with the queue as its operation left it. -/
theorem State.done_completes {s u : State} (h : u.pending = s.pending) : ∃ t, u.done = .next t ∧ t.pending = s.pending :=
  ⟨u.transmit, rfl, u.transmit_pending.trans h⟩

/-- An event, taken or lost, answers a next state with the queue as it was where its operation leaves the queue alone. -/
theorem State.event_completes (f : State → State) {s : State} (h : (f s).pending = s.pending) :
    ∃ t, s.event f = .next t ∧ t.pending = s.pending := by
  cases running : s.running with
  | true => exact ⟨(f s).transmit, State.event_running f running, (f s).transmit_pending.trans h⟩
  | false => exact ⟨s, State.event_stopped f running, rfl⟩

/-- A frame at the C-line, disposed of or served by its owner, answers a next state with the queue as it was. -/
theorem State.onCLine_completes (f : Frame) {serve : State → State} (s : State) (h : ∀ u : State, (serve u).pending = u.pending) :
    ∃ t, (s.onCLine f serve).done = .next t ∧ t.pending = s.pending :=
  State.done_completes (s.onCLine_pending f serve h)

/-- Settles O2: a request is its frame at the C-line; of the other commands, a frame comes at the C-line too, the clock's counts and the
starts end with the transmitter's turn, the stops of power, RESET and the time base answer at once, and all others are events. Each by
what its operation leaves of the queue. -/
theorem everyCommandCompletes : Obligations.EveryCommandCompletes := by
  intro c s
  cases hf : frameOfRequest c with
  | some f =>
    rw [exec_onCLine hf s]
    exact s.onCLine_completes f (State.takeRequest_pending c)
  | none =>
    cases c
    case setup | alive | query | service | inhibit | load | discard | activate | clock | sell | topup | cancel | voucher | reprint |
      chuteClear | tube | writeOff | clearTotals | clearAll | restart => cases hf
    case cLineFrame f => exact s.onCLine_completes f (State.disposeFrame_pending f)
    case downwardFrame d k p => exact s.onCLine_completes ⟨d, terminal, k, p⟩ (State.disposeFrame_pending _)
    case secondAdvance => exact State.done_completes s.secondAdvances_pending
    case hundredthAdvance => exact State.done_completes s.hundredthAdvances_pending
    case powerReturn pins => exact State.done_completes (s.powerReturns_pending pins)
    case resetRelease pins => exact State.done_completes (s.resetReleases_pending pins)
    case oscillatorStop => exact ⟨s.oscillatorStops, rfl, s.oscillatorStops_pending⟩
    case timeBaseRunsAgain => exact ⟨s.timeBaseRuns, rfl, s.timeBaseRuns_pending⟩
    case mainPowerLoss => exact ⟨s.powerFails, rfl, s.powerFails_pending⟩
    case resetHeld => exact ⟨s.resetHolds, rfl, s.resetHolds_pending⟩
    case backupSupplyFailure => exact ⟨s.backupFails, rfl, s.backupFails_pending⟩
    all_goals exact State.event_completes _ (by simp)

end Sys2Proof.Machine
end

section
/-! PROOFS. The reservations' view (R31): the reservation count beside what holds a slot, and the operations that leave both as they
are. -/

namespace Sys2Proof.Machine

/-! ## The view -/

/-- How many kinds are SCHEDULED. -/
def Loads.scheduled (l : Loads) : Nat :=
  (l.coin.st == .scheduled).toNat + (l.fare.st == .scheduled).toNat + (l.hotlist.st == .scheduled).toNat +
    (l.passage.st == .scheduled).toNat + (l.template.st == .scheduled).toNat

/-- The reservation count and what holds reservations. -/
structure SlotView where
  reserved : Nat
  op : Option OpKind
  payout : Bool
  job : Option JobKind
  scheduled : Nat

/-- A state's reservations. -/
def State.slotView (s : State) : SlotView :=
  ⟨s.reserved, s.retained.op.map OpRecord.kind, s.payout.isSome, s.printer.job.map Job.kind, s.loads.scheduled⟩

/-- The slots an operation in progress holds: its outcome's and, a voucher apart, that of what follows it. -/
def slotsOfOp : Option OpKind → Nat
  | none => 0
  | some .voucher => 1
  | some .printedSale | some .cardSale | some .topup => 2

/-- The slots that what is in progress holds. -/
def SlotView.needed (v : SlotView) : Nat :=
  slotsOfOp v.op + v.payout.toNat + (v.job == some .receipt).toNat + v.scheduled

theorem Loads.scheduled_eq (l : Loads) : l.scheduled =
    ([TableKind.coin, .fare, .hotlist, .passage, .template].filter fun k => (l.get k).st == .scheduled).length := by
  unfold Loads.scheduled
  rw [← List.countP_eq_length_filter]
  simp only [List.countP_cons, List.countP_nil, Loads.get, zero_add, Bool.toNat, Bool.cond_eq_ite]
  omega

theorem slotsOfOp_eq (o : OpRecord) : slotsOfOp (some o.kind) = if o.kind = .voucher then 1 else 2 := by
  cases o.kind <;> rfl

theorem reservedFor_eq (s : State) : reservedFor s = s.slotView.needed := by
  unfold reservedFor SlotView.needed State.slotView
  rw [Loads.scheduled_eq]
  have job : (if s.printer.job.any (fun j => j.kind == .receipt) = true then 1 else 0) =
      (s.printer.job.map Job.kind == some .receipt).toNat := by
    cases s.printer.job with
    | none => rfl
    | some j => cases h : j.kind <;> simp only [Option.any_some, Option.map_some, h] <;> rfl
  have op : (match s.retained.op with
      | none => 0
      | some o => if o.kind = .voucher then 1 else 2) = slotsOfOp (s.retained.op.map OpRecord.kind) := by
    cases s.retained.op with
    | none => rfl
    | some o => exact (slotsOfOp_eq o).symm
  have payout : (if s.payout.isSome = true then 1 else 0) = s.payout.isSome.toNat := by cases s.payout <;> rfl
  rw [job, payout, ← op] <;> rfl

/-- The reservation count is that of what is in progress with n slots more: those of an event's reports still to come. -/
def State.Spare (n : Nat) (s : State) : Prop := s.slotView.reserved = s.slotView.needed + n

theorem reservationsHeld_iff (s : State) : ReservationsHeld s ↔ s.Spare 0 := by
  unfold ReservationsHeld
  rw [reservedFor_eq]
  rfl

theorem State.Spare.of_view {n : Nat} {s t : State} (h : s.Spare n) (e : t.slotView = s.slotView) : t.Spare n := by
  unfold State.Spare
  rwa [e]

/-- Putting a kind's copy changes the count of SCHEDULED kinds by the old and the new copy. -/
theorem Loads.scheduled_set (l : Loads) (x : Load) (k : TableKind) :
    (l.set x k).scheduled + ((l.get k).st == .scheduled).toNat = l.scheduled + (x.st == .scheduled).toNat := by
  cases k <;> simp only [Loads.set, Loads.get, Loads.scheduled] <;> omega

/-! ## Operations that leave the reservations as they are -/

theorem State.entryTest_slotView (s : State) : s.entryTest.slotView = s.slotView := by
  unfold State.entryTest
  split <;> rfl

theorem State.tubesChanged_slotView (s before : State) : (s.tubesChanged before).slotView = s.slotView := by
  unfold State.tubesChanged
  split <;> rfl

theorem State.enterFault_slotView (k : FaultKind) (s : State) : (s.enterFault k).slotView = s.slotView :=
  State.entryTest_slotView _

theorem State.pwmPeriod_slotView (sense : PerCoil Sense) (s : State) : (s.pwmPeriod sense).slotView = s.slotView := by
  unfold State.pwmPeriod
  dsimp only
  split
  · rfl
  · split
    · exact State.enterFault_slotView _ _
    · rfl

theorem State.pullInCheck_slotView (ends : PerCoil Bool) (sense : PerCoil Sense) (s : State) :
    (s.pullInCheck ends sense).slotView = s.slotView := by
  unfold State.pullInCheck
  dsimp only
  split
  · rfl
  · split
    · split
      · exact State.enterFault_slotView _ _
      · rfl
    · rfl

theorem State.diverterChangeover_slotView (s : State) : s.diverterChangeover.slotView = s.slotView := by
  unfold State.diverterChangeover
  split <;> rfl

theorem State.afterActivation_slotView (k : TableKind) (before s : State) :
    (State.afterActivation k before s).slotView = s.slotView := by
  unfold State.afterActivation
  split
  · have h : (s.tubesChanged before).entryTest.slotView = s.slotView :=
      (State.entryTest_slotView _).trans (s.tubesChanged_slotView before)
    generalize (s.tubesChanged before).entryTest = t at h ⊢
    refine Eq.trans ?_ h
    dsimp only
    split
    all_goals split <;> rfl
  · exact s.entryTest_slotView
  all_goals rfl

theorem State.returnCoin_slotView (m : Measurement) (s : State) : (s.returnCoin m).slotView = s.slotView := by
  unfold State.returnCoin
  dsimp only
  refine (State.entryTest_slotView _).trans ?_
  split <;> rfl

theorem State.decideCoin_slotView (s : State) : s.decideCoin.slotView = s.slotView := by
  unfold State.decideCoin
  dsimp only
  split
  · exact State.entryTest_slotView _
  · exact State.returnCoin_slotView _ _

theorem State.creditCoin_slotView (a : AcceptedCoin) (s : State) : (s.creditCoin a).slotView = s.slotView := by
  unfold State.creditCoin
  dsimp only
  split
  · exact State.tubesChanged_slotView _ _
  · rfl

theorem State.fallIn_slotView (s : State) (c : ChuteState) (x : Sensor) : (s.fallIn c x).slotView = s.slotView := by
  unfold State.fallIn
  split
  case h_2 => exact State.decideCoin_slotView _
  all_goals rfl

theorem State.sensorFall_slotView (x : Sensor) (n : Nat) (s : State) : (s.sensorFall x n).slotView = s.slotView := by
  unfold State.sensorFall
  split
  · exact State.fallIn_slotView _ _ _
  · rfl

theorem State.aLimitPasses_slotView (s : State) : s.aLimitPasses.slotView = s.slotView := by
  unfold State.aLimitPasses
  split
  case h_1 => exact State.enterFault_slotView _ _
  case h_2 => exact State.enterFault_slotView _ _
  all_goals rfl

theorem State.gapLimitPasses_slotView (s : State) : s.gapLimitPasses.slotView = s.slotView := by
  unfold State.gapLimitPasses
  split
  case h_1 => exact State.returnCoin_slotView _ _
  all_goals rfl

theorem State.acceptWaitPasses_slotView (s : State) : s.acceptWaitPasses.slotView = s.slotView := by
  unfold State.acceptWaitPasses
  split
  case h_1 => exact State.enterFault_slotView _ _
  all_goals rfl

theorem State.returnWaitPasses_slotView (s : State) : s.returnWaitPasses.slotView = s.slotView := by
  unfold State.returnWaitPasses
  split
  case h_1 => exact State.enterFault_slotView _ _
  all_goals rfl

theorem State.startEntry_slotView (s : State) : s.startEntry.slotView = s.slotView := by
  unfold State.startEntry
  split
  · rfl
  · next p hp =>
    split
    · rfl
    · split
      · rfl
      · unfold State.slotView
        rw [hp]
        rfl

theorem State.doorChange_slotView (b : Bool) (s : State) : (s.doorChange b).slotView = s.slotView := by
  unfold State.doorChange
  split
  · rfl
  · exact (State.startEntry_slotView _).trans (State.entryTest_slotView _)

theorem State.trailingEnds_slotView (i : Fin 4) (s : State) : (s.trailingEnds i).slotView = s.slotView := by
  unfold State.trailingEnds
  split <;> rfl

theorem State.rest_slotView (s : State) : s.rest.slotView = s.slotView := rfl

theorem State.comeToRest_slotView (s : State) : s.comeToRest.slotView = s.slotView := State.entryTest_slotView _

/-- A change of the printer that keeps the kind of its job. -/
theorem State.onPrinter_slotView {f : Printer → Printer} {s : State}
    (h : (f s.printer).job.map Job.kind = s.printer.job.map Job.kind) : (s.onPrinter f).slotView = s.slotView := by
  unfold State.slotView
  rw [← h]
  rfl

theorem State.printDuty_slotView (s : State) : s.printDuty.slotView = s.slotView := by
  unfold State.printDuty
  split
  · rfl
  · exact State.onPrinter_slotView (by rw [(Printer.duty_keeps _).1])

theorem State.roomAskDelay_slotView (s : State) : s.roomAskDelay.slotView = s.slotView := by
  unfold State.roomAskDelay
  split
  · exact State.printDuty_slotView _
  · rfl

/-- What an owner is told of its exchange moves its own unit alone, and no job to another kind (R12). -/
theorem State.tellOutcome_slotView (o : Owner) (valid : Bool) (s : State) : (s.tellOutcome o valid).slotView = s.slotView := by
  cases o with
  | printLine tag =>
    refine (State.printDuty_slotView _).trans (State.onPrinter_slotView ?_)
    rw [Option.map_map]
    exact congrArg (fun g => s.printer.job.map g) (funext (Job.lineEnds_kind tag valid))
  | printCut tag =>
    refine (State.printDuty_slotView _).trans (State.onPrinter_slotView ?_)
    split <;> rfl
  | printAsk b =>
    refine (State.printDuty_slotView _).trans (State.onPrinter_slotView ?_)
    split
    · rfl
    · split <;> rfl
  | hold => rfl
  | release => rfl
  | cardWrite => rfl
  | forward => rfl
  | poll => rfl

theorem State.afterUnbind_slotView (s : State) : s.afterUnbind.slotView = s.slotView := by
  unfold State.afterUnbind
  dsimp only
  split
  · split
    · exact State.entryTest_slotView _
    · rfl
  · rfl

theorem State.cardLeaves_slotView (s : State) : s.cardLeaves.slotView = s.slotView := by
  unfold State.cardLeaves
  split
  · rfl
  · split
    · exact State.afterUnbind_slotView _
    · rfl
    · rfl

theorem State.writeEnds_slotView (s : State) : s.writeEnds.slotView = s.slotView := by
  unfold State.writeEnds
  dsimp only
  split <;> rfl

theorem State.issueFree_slotView (r : Report) (s : State) : (s.issueFree r).slotView = s.slotView := by
  unfold State.issueFree
  split <;> rfl

theorem State.bindCard_slotView (p : Presentation) (s : State) : (s.bindCard p).slotView = s.slotView := by
  have resolved : (s.resolve p).slotView = s.slotView := by
    unfold State.resolve
    split
    · rfl
    · exact State.issueFree_slotView _ _
  unfold State.bindCard
  refine (State.entryTest_slotView _).trans (Eq.trans ?_ resolved)
  show State.slotView (if _ then _ else _) = _
  split
  all_goals
    show State.slotView (if _ then _ else _) = _
    split <;> rfl

theorem State.takeSeen_slotView (p : Presentation) (s : State) : (s.takeSeen p).slotView = s.slotView := by
  unfold State.takeSeen
  split
  · split
    · rfl
    · exact s.cardLeaves_slotView
  · split
    · exact s.bindCard_slotView p
    · rfl

theorem State.issuePresence_slotView (r : Role) (n : Nat) (s : State) : (s.issuePresence r n).slotView = s.slotView := by
  cases r <;> rfl

theorem State.answered_slotView (i : Fin 6) (s : State) : (s.answered i).slotView = s.slotView := by
  unfold State.answered
  split
  · rfl
  · refine (State.issuePresence_slotView _ _ _).trans ?_
    cases (s.slots.get i).role <;> rfl

theorem State.reprobeDue_slotView (i : Fin 6) (s : State) : (s.reprobeDue i).slotView = s.slotView := by
  unfold State.reprobeDue
  split <;> rfl

theorem State.groupEnds_slotView (s : State) : s.groupEnds.slotView = s.slotView := by
  unfold State.groupEnds
  split <;> rfl

theorem State.frameSeen_slotView (s : State) : s.frameSeen.slotView = s.slotView := by
  unfold State.frameSeen
  dsimp only
  split
  · exact State.entryTest_slotView _
  · rfl

theorem State.passDown_slotView (f : Frame) (s : State) : (s.passDown f).slotView = s.slotView := by
  unfold State.passDown
  split <;> rfl

theorem State.silenceExpires_slotView (s : State) : s.silenceExpires.slotView = s.slotView := by
  unfold State.silenceExpires
  split
  · exact State.entryTest_slotView _
  · rfl

theorem State.takeNext_slotView (s : State) : s.takeNext.slotView = s.slotView := by
  unfold State.takeNext
  split <;> rfl

theorem State.transmitEnds_slotView (s : State) : s.transmitEnds.slotView = s.slotView := by
  unfold State.transmitEnds
  split <;> rfl

theorem State.oscillatorStops_slotView (s : State) : s.oscillatorStops.slotView = s.slotView := by
  unfold State.oscillatorStops
  split <;> rfl

theorem State.powerFails_slotView (s : State) : s.powerFails.slotView = s.slotView := by
  unfold State.powerFails
  split <;> rfl

theorem State.backupFails_slotView (s : State) : s.backupFails.slotView = s.slotView := by
  unfold State.backupFails
  split <;> rfl

/-- A grant reserves and releases nothing: the frame of a job goes out, and the job stays of its kind (R13, R167). -/
theorem State.grant_slotView (s : State) : s.grant.slotView = s.slotView := by
  refine State.grant_keeps (fun t => t.slotView = s.slotView) s rfl (fun t e => ?_) (fun t e => ?_) (fun t e => ?_)
    (fun t e => ?_) (fun t e => ?_)
  · unfold State.grantWrite at e
    split at e
    · split at e
      · cases e
      · cases e; rfl
    all_goals cases e
  · unfold State.grantPrint at e
    split at e
    · cases e
    · split at e
      · cases e
      · cases e; rfl
      · obtain ⟨j, -, rfl⟩ := Option.map_eq_some_iff.1 e; rfl
      · obtain ⟨j, -, rfl⟩ := Option.map_eq_some_iff.1 e
        exact State.onPrinter_slotView (s := s) (f := Printer.cutBegins) (by rw [Printer.cutBegins, Option.map_map]; rfl)
  · unfold State.grantClass3 at e
    split at e
    · cases e
    · split at e
      · cases e
      · obtain ⟨j, -, rfl⟩ := Option.map_eq_some_iff.1 e; rfl
      · cases e; rfl
  · unfold State.grantForward at e
    split at e
    · cases e
    · split at e
      all_goals
        split at e
        · cases e; rfl
        · cases e
  · unfold State.grantPoll at e
    split at e
    · cases e; rfl
    · obtain ⟨j, -, rfl⟩ := Option.map_eq_some_iff.1 e; rfl

/-! ### Requests -/

theorem State.serveSetup_slotView (id : Word16) (rate : Byte) (codes : Vector Byte 6) (silence : Byte) (s : State) :
    (s.serveSetup id rate codes silence).slotView = s.slotView := by
  unfold State.serveSetup
  split
  · rfl
  · split
    · split
      · rfl
      · exact State.entryTest_slotView _
    · rfl
    · rfl

theorem State.serveQuery_slotView (topic index : Byte) (s : State) : (s.serveQuery topic index).slotView = s.slotView := by
  unfold State.serveQuery
  split
  · rfl
  · show State.slotView (if _ then _ else _) = _
    split <;> rfl

theorem State.serveService_slotView (on : Bool) (s : State) : (s.serveService on).slotView = s.slotView := by
  unfold State.serveService
  split
  · split
    · rfl
    · exact State.entryTest_slotView _
  · exact State.entryTest_slotView _

theorem State.serveTube_slotView (tube count : Nat) (s : State) : (s.serveTube tube count).slotView = s.slotView := by
  unfold State.serveTube
  dsimp only
  split
  · rfl
  · split
    · split
      · rfl
      · split
        · rfl
        · split
          · rfl
          · exact State.tubesChanged_slotView _ _
    · rfl

theorem State.serveWriteOff_slotView (txn : Nat) (s : State) : (s.serveWriteOff txn).slotView = s.slotView := by
  unfold State.serveWriteOff
  split
  · rfl
  · split
    · rfl
    · show State.slotView (if _ then _ else _) = _
      split <;> rfl

theorem State.serveClearTotals_slotView (s : State) : s.serveClearTotals.slotView = s.slotView := by
  unfold State.serveClearTotals
  split
  · rfl
  · split <;> rfl

theorem State.serveClearAll_slotView (s : State) : s.serveClearAll.slotView = s.slotView := by
  unfold State.serveClearAll
  split
  · rfl
  · split
    · rfl
    · split <;> rfl

end Sys2Proof.Machine
end

section
/-! PROOFS. The reservations under the operations that make, use and release them (R31, R92, R93, R142, R150, R154, R169): each leaves
as many slots over as the reports still to come of its event need. -/

namespace Sys2Proof.Machine

/-! ## Reserving, using and releasing a slot -/

theorem State.issueReserved_view {s : State} (r : Report) (h : 0 < s.slotView.reserved) :
    (s.issueReserved r).slotView = { s.slotView with reserved := s.slotView.reserved - 1 } := by
  rw [s.issueReserved_eq r h]
  rfl

theorem State.Spare.issued {n : Nat} {s : State} (h : s.Spare (n + 1)) (r : Report) : (s.issueReserved r).Spare n := by
  unfold State.Spare at h ⊢
  rw [State.issueReserved_view r (by omega)]
  exact (congrArg (· - 1) h :)

theorem State.Spare.released {n : Nat} {s : State} (h : s.Spare (n + 1)) : s.release.Spare n :=
  (congrArg (· - 1) h :)

theorem State.Spare.reserved {n : Nat} {s : State} (h : s.Spare n) (m : Nat) : (s.reserve m).Spare (n + m) :=
  (congrArg (· + m) h :).trans (Nat.add_assoc _ _ _)

/-- A kind's copy put leaves as much over as before, but for the old copy's schedule and the new one's. -/
theorem State.Spare.put {n m : Nat} {s : State} (h : s.Spare n) (k : TableKind) (x : Load)
    (e : m + (x.st == .scheduled).toNat = n + ((s.loads.get k).st == .scheduled).toNat) : (s.setLoad k x).Spare m := by
  have moved := s.loads.scheduled_set x k
  have count : s.reserved = s.slotView.needed + n := h
  have put : (s.setLoad k x).slotView.needed + s.loads.scheduled = s.slotView.needed + (s.loads.set x k).scheduled :=
    Nat.add_right_comm _ _ _
  show s.reserved = _
  omega

/-! ## What each holder needs -/

/-- The view with another operation. -/
def SlotView.withOp (v : SlotView) (op : Option OpKind) : SlotView := { v with op := op }

/-- The view with a payout or without one. -/
def SlotView.withPayout (v : SlotView) (p : Bool) : SlotView := { v with payout := p }

/-- The view with another print job. -/
def SlotView.withJob (v : SlotView) (k : Option JobKind) : SlotView := { v with job := k }

theorem SlotView.needed_withOp (v : SlotView) (op : Option OpKind) :
    (v.withOp op).needed + slotsOfOp v.op = v.needed + slotsOfOp op := by
  simp only [SlotView.needed, SlotView.withOp]
  omega

theorem SlotView.needed_withPayout (v : SlotView) (p : Bool) :
    (v.withPayout p).needed + v.payout.toNat = v.needed + p.toNat := by
  simp only [SlotView.needed, SlotView.withPayout]
  omega

theorem SlotView.needed_withJob (v : SlotView) (k : Option JobKind) :
    (v.withJob k).needed + (v.job == some .receipt).toNat = v.needed + (k == some .receipt).toNat := by
  simp only [SlotView.needed, SlotView.withJob]
  omega

/-! ## Activations (R26 to R28) -/

/-- An activation uses the reservation of its schedule (R28). -/
theorem State.takeActivation_spare {n : Nat} {s : State} {k : TableKind} (waited : Bool) (h : s.Spare n)
    (hs : (s.loads.get k).st = .scheduled) : (s.takeActivation k waited).Spare n := by
  unfold State.takeActivation
  dsimp only
  refine State.Spare.of_view (State.Spare.issued ?_ _) (State.afterActivation_slotView _ _ _)
  have installed : (s.onRetained (Retained.install k (s.loads.get k))).Spare n := h.of_view (by cases k <;> rfl)
  exact installed.put k .empty (by rw [State.onRetained_loads, hs]; rfl)

theorem State.fallDue_spare {n : Nat} {s : State} {k : TableKind} (h : s.Spare n) (hs : (s.loads.get k).st = .scheduled) :
    (s.fallDue k).Spare n := by
  unfold State.fallDue
  dsimp only
  have put : (s.setLoad k { s.loads.get k with fallen := true }).Spare n := h.put k _ rfl
  split
  · exact State.takeActivation_spare _ put (by cases k <;> exact hs)
  · exact put

theorem State.takeWaiting_spare {n : Nat} {s : State} (k : TableKind) (h : s.Spare n) : (s.takeWaiting k).Spare n := by
  unfold State.takeWaiting
  dsimp only
  split
  · next hw => exact State.takeActivation_spare _ h hw.1
  · exact h

theorem State.testSchedules_spare {n : Nat} {s : State} (h : s.Spare n) : s.testSchedules.2.Spare n := by
  have key (ks : List TableKind) : ∀ p : Nat × State, p.2.Spare n →
      (ks.foldl (fun p k => if p.2.fallsDue k then (p.1 + 1, p.2.fallDue k) else p) p).2.Spare n := by
    induction ks with
    | nil => exact fun _ hp => hp
    | cons k ks ih =>
      intro p hp
      rw [List.foldl_cons]
      apply ih
      split
      · next due =>
        have hs : ((p.2.loads.get k).st == .scheduled) = true := by
          unfold State.fallsDue at due
          rw [Bool.and_eq_true, Bool.and_eq_true] at due
          exact due.1.1
        exact State.fallDue_spare hp (beq_iff_eq.1 hs)
      · exact hp
  exact key _ _ h

/-! ## The chute -/

theorem State.chuteToIdle_spare {n : Nat} {s : State} (h : s.Spare n) : s.chuteToIdle.Spare n :=
  State.Spare.of_view (State.takeWaiting_spare (s := s.onChute _) .coin h) (State.entryTest_slotView _)

theorem State.coinAtC_spare {n : Nat} {s : State} (h : s.Spare n) : s.coinAtC.Spare n := by
  unfold State.coinAtC
  dsimp only
  apply State.chuteToIdle_spare
  split
  · exact State.Spare.of_view h (State.creditCoin_slotView _ _)
  · exact h
  · exact h

/-- A rise reaches the reservations by the ends of ACCEPTING and RETURNING alone, which let a COIN activation take place (R27, R52). -/
theorem State.riseIn_spare {n : Nat} {s : State} (h : s.Spare n) (c : ChuteState) (x : Sensor) : (s.riseIn c x).Spare n := by
  have faulted (k : FaultKind) : (s.enterFault k).Spare n := h.of_view (s.enterFault_slotView k)
  cases c with
  | idle => cases x with
    | a => exact State.Spare.of_view (s := s) h (State.entryTest_slotView _)
    | b => exact faulted _
    | c => exact faulted _
    | d => exact h
  | onA => cases x with
    | a => exact h
    | b => exact faulted _
    | c => exact faulted _
    | d => exact faulted _
  | gap => cases x with
    | b => exact h
    | a => exact faulted _
    | c => exact faulted _
    | d => exact faulted _
  | onB => cases x with
    | b => exact h
    | a => exact faulted _
    | c => exact faulted _
    | d => exact faulted _
  | accepting => cases x with
    | c => exact State.coinAtC_spare h
    | a => exact faulted _
    | b => exact faulted _
    | d => exact faulted _
  | returning => cases x with
    | d => exact State.chuteToIdle_spare h
    | a => exact faulted _
    | b => exact faulted _
    | c => exact faulted _
  | fault => cases x <;> exact h

theorem State.sensorRise_spare {n : Nat} {s : State} (x : Sensor) (m : Nat) (h : s.Spare n) : (s.sensorRise x m).Spare n := by
  unfold State.sensorRise
  split
  · exact h
  · exact State.riseIn_spare (s := s.onChute _) h _ _

theorem State.issueFixed_slotView (r : Report) (s : State) : (s.issueFixed r).slotView = s.slotView := rfl

theorem State.faultClears_spare {n : Nat} {s : State} (h : s.Spare n) : s.faultClears.Spare n :=
  State.Spare.of_view (State.chuteToIdle_spare h) (State.issueFixed_slotView _ _)

theorem State.idleWaitPasses_spare {n : Nat} {s : State} (h : s.Spare n) : s.idleWaitPasses.Spare n := by
  unfold State.idleWaitPasses
  split
  · exact State.faultClears_spare h
  · exact h

/-! ## The payout (R150 to R154) -/

/-- The end of a payout uses the slot it held (R154). -/
theorem State.endPayout_spare {n : Nat} {s : State} (h : s.Spare n) : s.endPayout.Spare n := by
  unfold State.endPayout
  split
  · exact h
  · next p hp =>
    have held : s.slotView.payout = true := by unfold State.slotView; rw [hp]; rfl
    have count : s.slotView.reserved = s.slotView.needed + n := h
    have needs := s.slotView.needed_withPayout false
    rw [held] at needs
    change _ + 1 = _ + 0 at needs
    refine State.Spare.of_view (s := { State.issueReserved _ (s.onLedger Move.endPayout) with payout := none }) ?_
      (State.entryTest_slotView _)
    have view (r : Report) := State.issueReserved_view (s := s.onLedger Move.endPayout) r (show 0 < s.slotView.reserved by omega)
    unfold State.Spare
    refine (congrArg SlotView.reserved (view _)).trans ?_
    refine Eq.trans ?_ (congrArg (fun v : SlotView => (v.withPayout false).needed + n) (view _)).symm
    show s.slotView.reserved - 1 = (s.slotView.withPayout false).needed + n
    omega

/-- A plan run leaves the payout in progress, or ends it (R150, R151). -/
theorem State.runPlan_spare {n : Nat} {s : State} (es : List PlanEntry) (h : s.Spare n) : (s.runPlan es).Spare n := by
  unfold State.runPlan
  split
  · exact h
  · next p hp =>
    have kept (q : Payout) : ({ s with payout := some q } : State).Spare n :=
      State.Spare.of_view h (by unfold State.slotView; rw [hp]; rfl)
    split
    · exact State.endPayout_spare (kept _)
    · exact State.Spare.of_view (kept _) (State.startEntry_slotView _)

/-- The start of a payout takes up the slot reserved for it (R150). -/
theorem State.startPayout_spare {n : Nat} {s : State} (c : PayoutCause) (h : s.Spare (n + 1)) (hp : s.slotView.payout = false) :
    (s.startPayout c).Spare n := by
  refine State.Spare.of_view (State.runPlan_spare _ ?_) (State.entryTest_slotView _)
  have count : s.slotView.reserved = s.slotView.needed + (n + 1) := h
  have needs := s.slotView.needed_withPayout true
  rw [hp] at needs
  change _ + 0 = _ + 1 at needs
  show s.slotView.reserved = (s.slotView.withPayout true).needed + n
  omega

theorem State.entryDone_spare {n : Nat} {s : State} (h : s.Spare n) : s.entryDone.Spare n := by
  unfold State.entryDone
  split
  · exact h
  · next p hp =>
    split
    · exact h
    · exact State.runPlan_spare _ (h.of_view (by unfold State.slotView; rw [hp]; rfl))

theorem State.paidCoin_spare {n : Nat} {s : State} (i : Fin 4) (h : s.Spare n) : (s.paidCoin i).Spare n := by
  unfold State.paidCoin
  dsimp only
  have counted (u : State) (hu : u.Spare n) (f : Payout → Payout) (before : State) :
      (State.tubesChanged { u with payout := u.payout.map f } before).Spare n :=
    hu.of_view ((State.tubesChanged_slotView _ _).trans (by unfold State.slotView; rw [Option.isSome_map]))
  split
  · exact State.entryDone_spare (counted _ (by exact h) _ _)
  · exact counted _ (by exact h) _ _

theorem State.exitPulse_spare {n : Nat} {s : State} (i : Fin 4) (h : s.Spare n) : (s.exitPulse i).Spare n := by
  unfold State.exitPulse
  split
  · exact State.paidCoin_spare i h
  · exact State.Spare.of_view (s := s) h (State.tubesChanged_slotView _ _)
  · exact h

theorem State.jam_slotView (i : Fin 4) (s : State) : (s.jam i).slotView = s.slotView := by
  refine (State.tubesChanged_slotView _ _).trans ?_
  unfold State.slotView
  rw [Option.isSome_map]
  rfl

theorem State.jamTimeout_spare {n : Nat} {s : State} (i : Fin 4) (h : s.Spare n) : (s.jamTimeout i).Spare n := by
  unfold State.jamTimeout
  split
  · have jammed : (s.jam i).Spare n := h.of_view (s.jam_slotView i)
    generalize s.jam i = t at jammed ⊢
    unfold State.afterJam
    split
    · exact jammed
    · next p hp =>
      split
      · exact State.endPayout_spare jammed
      · exact State.runPlan_spare _ (jammed.of_view (by unfold State.slotView; rw [hp]; rfl))
  · exact h

/-- A payout that starts while none is in progress finds no payout record (R85, R149). -/
theorem State.MoneyHeld.noPayout {s : State} (m : s.MoneyHeld) (h : s.purchase ≠ .payout) : s.slotView.payout = false := by
  rw [Bool.eq_false_iff]
  exact fun held => h (m.payout.1 held)

theorem State.leverPress_spare {n : Nat} {s : State} (m : s.MoneyHeld) (h : s.Spare n) : s.leverPress.Spare n := by
  unfold State.leverPress
  split
  · next taken =>
    have opened := ((s.leverTaken_iff).1 taken).2.1
    exact State.startPayout_spare _ (h.reserved 1) (m.noPayout (by rw [opened]; decide))
  · exact h

/-! ## The ends of operations (R92, R93) -/

/-- The end of an operation uses one of its slots; that of a sale or a top-up leaves the other over (R92). -/
theorem State.endOp_view {s : State} (m : Ledger → Ledger) (r : Report) (h : 0 < s.slotView.reserved) :
    (s.endOp m r).slotView = { s.slotView with reserved := s.slotView.reserved - 1, op := none } := by
  rw [State.endOp_ended m r s h]
  rfl

theorem State.endOp_spare {n k : Nat} {s : State} {o : OpRecord} (m : Ledger → Ledger) (r : Report) (h : s.Spare n)
    (ho : s.retained.op = some o) (hk : slotsOfOp (some o.kind) = k + 1) : (s.endOp m r).Spare (n + k) := by
  have op : s.slotView.op = some o.kind := by unfold State.slotView; rw [ho]; rfl
  have needs := s.slotView.needed_withOp none
  rw [op, hk] at needs
  change _ = _ + 0 at needs
  unfold State.Spare at h ⊢
  rw [State.endOp_view m r (by omega)]
  show s.slotView.reserved - 1 = (s.slotView.withOp none).needed + (n + k)
  omega

theorem State.endOp_payout {s : State} (m : Ledger → Ledger) (r : Report) (hp : s.slotView.payout = false) :
    (s.endOp m r).slotView.payout = false := by
  have kept : (s.endOp m r).payout = s.payout := by
    unfold State.endOp State.issueReserved State.issueFree
    split
    · rfl
    · split <;> rfl
  unfold State.slotView
  rw [kept]
  exact hp

/-- After a sale its second slot goes to the payout of the change, or is released (R93). -/
theorem State.afterSale_spare {n : Nat} {s : State} (o : OpRecord) (void : Bool) (h : s.Spare (n + 1))
    (hp : s.slotView.payout = false) : (s.afterSale o void).Spare n := by
  unfold State.afterSale
  split
  · exact State.startPayout_spare _ h hp
  · exact State.Spare.of_view h.released (State.comeToRest_slotView _)

/-- The money is held and an operation is in progress, so none is paid out. -/
theorem State.MoneyHeld.opNoPayout {s : State} (m : s.MoneyHeld) {o : OpRecord} (ho : s.retained.op = some o) :
    s.slotView.payout = false :=
  m.noPayout (by rw [m.busy.1 (by rw [ho]; rfl)]; decide)

/-! ## Print jobs (R119, R158, R167 to R169) -/

theorem slotsOfOp_onCard {o : OpRecord} (h : o.onCard) : slotsOfOp (some o.kind) = 2 := by
  rcases h with h | h <;> rw [h] <;> rfl

theorem State.ticketEnds_spare {s : State} {o : OpRecord} (failure : Option VoidCause) (h : s.Spare 0)
    (ho : s.retained.op = some o) (hk : o.kind = .printedSale) (hp : s.slotView.payout = false) : (s.ticketEnds failure).Spare 0 := by
  have ended (m : Ledger → Ledger) (r : Report) : (s.endOp m r).Spare 1 :=
    (Nat.zero_add 1) ▸ State.endOp_spare m r h ho (k := 1) (by rw [hk]; rfl)
  unfold State.ticketEnds
  rw [ho]
  cases failure with
  | none => exact State.afterSale_spare _ _ (ended _ _) (State.endOp_payout _ _ hp)
  | some c => exact State.afterSale_spare _ _ (ended _ _) (State.endOp_payout _ _ hp)

theorem State.voucherEnds_spare {s : State} {o : OpRecord} (failure : Option VoidCause) (h : s.Spare 0)
    (ho : s.retained.op = some o) (hk : o.kind = .voucher) : (s.voucherEnds failure).Spare 0 := by
  have ended (m : Ledger → Ledger) (r : Report) : (s.endOp m r).Spare 0 :=
    State.endOp_spare m r h ho (k := 0) (by rw [hk]; rfl)
  unfold State.voucherEnds
  rw [ho]
  cases failure with
  | none => exact State.Spare.of_view (ended _ _) (State.comeToRest_slotView _)
  | some c => exact State.Spare.of_view (ended _ _) (State.comeToRest_slotView _)

/-- A state with its print job cleared; a RECEIPT's slot is over then (R167, R168). -/
theorem State.jobCleared_spare {s : State} {j : Job} (h : s.Spare 0) (hj : s.printer.job = some j) :
    (s.onPrinter fun p => { p with job := none, owed := .none, askWait := false }).Spare (j.kind == .receipt).toNat := by
  have job : s.slotView.job = some j.kind := by unfold State.slotView; rw [hj]; rfl
  have count : s.reserved = s.slotView.needed + 0 := h
  have needs := s.slotView.needed_withJob none
  rw [job] at needs
  change _ + (j.kind == .receipt).toNat = _ + 0 at needs
  show s.reserved = (s.slotView.withJob none).needed + _
  omega

/-- A job's end gives its owner's slots their reports (R92, R119, R158, R169). -/
theorem State.jobEnds_spare (failure : Option VoidCause) {s : State} (b : s.BooksHeld) (h : s.Spare 0) :
    (s.jobEnds failure).Spare 0 := by
  unfold State.jobEnds
  split
  · exact h
  · next j hj =>
    apply State.takeWaiting_spare
    have cleared := State.jobCleared_spare h hj
    generalize ht : s.onPrinter _ = t at cleared ⊢
    have op : t.retained.op = s.retained.op := by subst ht; rfl
    have payout : t.slotView.payout = s.slotView.payout := by subst ht; rfl
    have prints := ((journalKept_iff s).2 b.2).prints j hj
    unfold State.tellOwner
    cases hk : j.kind with
    | ticket =>
      obtain ⟨o, ho, hs⟩ := prints.1 hk
      exact State.ticketEnds_spare _ (by rwa [hk] at cleared) (op.trans ho) hs (payout.trans (b.1.opNoPayout ho))
    | voucher =>
      obtain ⟨o, ho, hv⟩ := prints.2 hk
      exact State.voucherEnds_spare _ (by rwa [hk] at cleared) (op.trans ho) hv
    | receipt =>
      rw [hk] at cleared
      exact State.Spare.issued (s := t.onRetained _) cleared _
    | reprint => rwa [hk] at cleared

theorem State.cutTimeout_spare {s : State} (b : s.BooksHeld) (h : s.Spare 0) : s.cutTimeout.Spare 0 := by
  unfold State.cutTimeout
  split
  · exact h
  · split
    · exact State.jobEnds_spare _ b h
    · exact h

/-- The books and the reservations are held together. -/
def State.SlotsHeld (s : State) : Prop := s.BooksHeld ∧ s.Spare 0

theorem State.SlotsHeld.of_views {s t : State} (h : s.SlotsHeld) (m : t.MoneyHeld) (j : t.journalView = s.journalView)
    (v : t.slotView = s.slotView) : t.SlotsHeld :=
  ⟨⟨m, h.1.2.of_view j⟩, h.2.of_view v⟩

theorem State.takeNotice_spare {s : State} (n : Notice) (h : s.SlotsHeld) : (s.takeNotice n).Spare 0 := by
  cases n with
  | room c => exact h.2.of_view (State.onPrinter_slotView (by rw [Printer.takeRoom_job]))
  | cutDone tag =>
    show (s.takeCutDone tag).Spare 0
    unfold State.takeCutDone
    split
    · exact h.2
    · split
      · exact State.jobEnds_spare _ h.1 h.2
      · exact h.2
  | state p hd f =>
    show (s.takeState p hd f).Spare 0
    unfold State.takeState
    dsimp only
    split
    · split <;> exact h.2
    · split
      · exact State.jobEnds_spare _ (s := State.issuePrinter _ _ _ 0 (s.onPrinter _)) h.1 h.2
      · exact State.jobEnds_spare _ (s := s.onPrinter _) h.1 h.2

theorem State.printerAbsent_spare {s : State} (h : s.SlotsHeld) : s.printerAbsent.Spare 0 :=
  State.jobEnds_spare _ (s := s.onPrinter _) h.1 h.2

/-! ## Card writes (R139, R140, R142) -/

/-- A new job in the place of none takes a slot over for a RECEIPT, and none for any other kind (R165, R169). -/
theorem State.startJob_spare {n : Nat} {s : State} (k : JobKind) (txn t : Nat) (v : FieldValues)
    (h : s.Spare (n + (k == .receipt).toNat)) (hj : s.printer.job = none) : (s.startJob k txn t v).Spare n := by
  have view : (s.startJob k txn t v).slotView = { s.slotView with job := some k } := by
    unfold State.startJob State.slotView State.onPrinter
    dsimp only
    rw [(Printer.duty_keeps _).1]
    rfl
  have job : s.slotView.job = none := by unfold State.slotView; rw [hj]; rfl
  have needs := s.slotView.needed_withJob (some k)
  rw [job, show (some k == some JobKind.receipt) = (k == .receipt) from rfl] at needs
  change _ + 0 = _ at needs
  unfold State.Spare at h ⊢
  rw [view]
  show s.slotView.reserved = (s.slotView.withJob (some k)).needed + n
  omega

theorem State.printPath_noJob {s : State} {t : Nat} (h : s.printPath t = true) : s.printer.job = none :=
  ((s.printPath_iff t).1 h).2.2.2.2.1

/-- A settled top-up's second slot is released, or goes to the RECEIPT job or the SKIPPED report (R142). -/
theorem State.handReceipt_spare {n : Nat} {s : State} (o : OpRecord) (w : CardWrite) (b : Nat) (h : s.Spare (n + 1)) :
    (s.handReceipt o w b).Spare n := by
  unfold State.handReceipt
  dsimp only
  have kept (f : Retained → Retained) (hf : ∀ r, (f r).op = r.op) (u : State) : (u.onRetained f).slotView = u.slotView := by
    unfold State.slotView
    rw [show (u.onRetained f).retained.op = u.retained.op from hf _]
    rfl
  have marked := h.of_view (kept (fun r => { r with lastReceipt := some (receiptOf o w b) }) (fun _ => rfl) s)
  split
  · exact marked.released
  · split
    · next path => exact State.startJob_spare _ _ _ _ (marked.of_view (kept _ (fun _ => rfl) _)) (s.printPath_noJob path :)
    · exact State.Spare.issued marked _

section Writes
variable {s : State} {o : OpRecord} {w : CardWrite} (h : s.SlotsHeld) (e : s.writeInFlight = some (o, w))
include h e

/-- The end of a card operation leaves its second slot over, and no payout is in progress. -/
theorem State.SlotsHeld.writeEnded {t : State} (ht : t.slotView = s.slotView) (hr : t.retained.op = s.retained.op)
    (m : Ledger → Ledger) (r : Report) : (t.endOp m r).Spare 1 ∧ (t.endOp m r).slotView.payout = false := by
  obtain ⟨ho, hc, -⟩ := h.1.2.inFlight e
  have held : t.Spare 0 := h.2.of_view ht
  exact ⟨Nat.zero_add 1 ▸ State.endOp_spare m r held (hr.trans ho) (slotsOfOp_onCard hc),
    State.endOp_payout _ _ (by rw [ht]; exact h.1.1.opNoPayout ho)⟩

theorem State.writeDone_spare (n : Nat) : (s.writeDone o w n).Spare 0 := by
  have ended (m : Ledger → Ledger) (r : Report) := h.writeEnded e
    (t := (s.onJournal (dropRecord w.txn)).onCard fun c => { c with binding := c.binding.map (Binding.written n w.content) }) rfl rfl m r
  unfold State.writeDone
  dsimp only
  split
  · refine State.Spare.of_view (State.handReceipt_spare _ _ _ ?_) (State.comeToRest_slotView _)
    exact (ended _ _).1.of_view (State.writeEnds_slotView _)
  · exact State.afterSale_spare _ _ ((ended _ _).1.of_view (State.writeEnds_slotView _))
      (by rw [State.writeEnds_slotView]; exact (ended _ _).2)

theorem State.writeFail_spare : (s.writeFail o w).Spare 0 := by
  have ended (m : Ledger → Ledger) (r : Report) := h.writeEnded e (t := s.onJournal (dropRecord w.txn)) rfl rfl m r
  unfold State.writeFail
  dsimp only
  split
  · refine State.Spare.of_view (State.Spare.released ?_) (State.comeToRest_slotView _)
    exact (ended _ _).1.of_view (State.writeEnds_slotView _)
  · exact State.afterSale_spare _ _ ((ended _ _).1.of_view (State.writeEnds_slotView _))
      (by rw [State.writeEnds_slotView]; exact (ended _ _).2)

theorem State.writeUncertain_spare (c : UncertainCause) : (s.writeUncertain o w c).Spare 0 := by
  have ended (m : Ledger → Ledger) (r : Report) := h.writeEnded e (t := s.onJournal (·.map (JournalRecord.mark w.txn))) rfl rfl m r
  unfold State.writeUncertain
  dsimp only
  generalize hu : State.onCard (fun c : CardUnit => { c with write := .none }) _ = u
  have hs : u.Spare 1 ∧ u.slotView.payout = false := by subst hu; exact ended _ _
  generalize ht : (if c = .absent ∨ u.card.binding.any Binding.gone then u.unbind else u.issueCard 0) = t
  have ht : t.slotView = u.slotView := by subst ht; split <;> rfl
  split
  · exact State.Spare.of_view (State.Spare.released (hs.1.of_view ht)) (State.comeToRest_slotView _)
  · exact State.afterSale_spare _ _ (hs.1.of_view ht) (by rw [ht]; exact hs.2)

end Writes

theorem State.takeWritten_spare {s : State} (txn : Nat) (r : WriteResult) (h : s.SlotsHeld) : (s.takeWritten txn r).Spare 0 := by
  unfold State.takeWritten
  split
  · exact h.2
  · next o w e =>
    split
    · split
      · exact State.writeDone_spare h e _
      · exact State.writeFail_spare h e
      · exact State.writeUncertain_spare h e _
    · exact h.2

theorem State.writeTimeout_spare {s : State} (h : s.SlotsHeld) : s.writeTimeout.Spare 0 := by
  unfold State.writeTimeout
  split
  · exact h.2
  · next o w e =>
    split
    · exact State.writeUncertain_spare h e _
    · exact h.2

theorem State.cardAbsent_spare {s : State} (h : s.SlotsHeld) : s.cardAbsent.Spare 0 := by
  have owed : (s.onCard fun c => { c with owed := .none }).SlotsHeld := h
  unfold State.cardAbsent
  dsimp only
  split
  · next o w e => exact State.writeUncertain_spare owed e _
  · split
    · exact State.Spare.of_view owed.2 (State.afterUnbind_slotView _)
    · exact owed.2

theorem State.takeCardFrame_spare {s : State} (k : Byte) (p : List Byte) (h : s.SlotsHeld) : (s.takeCardFrame k p).Spare 0 := by
  unfold State.takeCardFrame
  split
  · split
    · exact h.2
    · exact h.2.of_view (s.takeSeen_slotView _)
  · split
    · split
      · exact h.2.of_view s.cardLeaves_slotView
      · exact h.2
    · split
      · exact h.2
      · exact State.takeWritten_spare _ _ h

end Sys2Proof.Machine
end

section
/-! PROOFS. The reservations under the requests and the starts, and under every command (R31, R92, R93, R142, R150, R154, R169). -/

namespace Sys2Proof.Machine

/-! ## The M-line (R11, R12, R15) -/

theorem State.takeNotices_slots (k : Byte) (p : List Byte) (s : State) (h : s.SlotsHeld) : (s.takeNotices k p).SlotsHeld :=
  State.takeNotices_keeps State.SlotsHeld
    (fun n t ht => ⟨⟨State.takeNotice_money t n ht.1.1, t.takeNotice_held n ht.1.2⟩, t.takeNotice_spare n ht⟩) k p s h

theorem State.consume_spare (r : Role) (f : Frame) (s : State) (h : s.SlotsHeld) : (s.consume r f).Spare 0 := by
  cases r with
  | card => exact State.takeCardFrame_spare _ _ h
  | printer => exact (s.takeNotices_slots _ _ h).2
  | other => exact h.2
  | none => exact h.2

theorem State.endValid_spare (i : Fin 6) (o : Owner) (f : Frame) (s : State) (h : s.SlotsHeld) : (s.endValid i o f).Spare 0 := by
  have answered : (s.answered i).SlotsHeld :=
    h.of_views (State.answered_money i s h.1.1) (s.answered_journalView i) (s.answered_slotView i)
  refine State.Spare.of_view (s := (s.answered i).disposeAnswer i f) ?_ (State.tellOutcome_slotView _ _ _)
  unfold State.disposeAnswer
  dsimp only
  split
  · exact answered.2
  · split
    · exact State.consume_spare _ _ _ answered
    · split
      · exact answered.2
      · exact answered.2

theorem State.slotAbsent_spare (i : Fin 6) (s : State) (h : s.SlotsHeld) : (s.slotAbsent i).Spare 0 := by
  unfold State.slotAbsent
  refine State.Spare.of_view ?_ (State.issuePresence_slotView _ _ _)
  cases (s.slots.get i).role with
  | card => exact State.cardAbsent_spare h
  | printer => exact State.printerAbsent_spare h
  | other => exact h.2
  | none => exact h.2

theorem State.endInvalid_spare (i : Fin 6) (o : Owner) (s : State) (h : s.SlotsHeld) : (s.endInvalid i o).Spare 0 := by
  have told : (s.endExchange.tellOutcome o false).SlotsHeld :=
    State.SlotsHeld.of_views (s := s) h (State.tellOutcome_money o false _ h.1.1) (State.tellOutcome_journalView _ _ _)
      (State.tellOutcome_slotView _ _ _)
  unfold State.endInvalid State.missed
  dsimp only
  split
  · exact told.2
  · split
    · exact told.2
    · exact State.slotAbsent_spare _ _ told

theorem State.moduleFrame_spare (f : Frame) (s : State) (h : s.SlotsHeld) : (s.moduleFrame f).Spare 0 := by
  unfold State.moduleFrame
  split
  · split
    · exact State.endValid_spare _ _ _ _ h
    · exact State.endInvalid_spare _ _ _ h
  · exact h.2
  · exact h.2

theorem State.noAnswer_spare (s : State) (h : s.SlotsHeld) : s.noAnswer.Spare 0 := by
  unfold State.noAnswer
  split
  · exact State.endInvalid_spare _ _ _ h
  · exact h.2
  · exact h.2

theorem State.windowPasses_spare (s : State) (h : s.SlotsHeld) : s.windowPasses.Spare 0 := by
  unfold State.windowPasses
  split
  · exact State.noAnswer_spare s h
  · exact h.2

/-! ## The requests on the table store and the clock (R23, R25, R26, R34) -/

/-- An accepted LOAD leaves its copy FILLING, READY or BAD (R23). -/
theorem Load.added_unscheduled (k : TableKind) (g i t c n : Nat) (es : List (List Byte)) (l : Load) :
    (l.added k g i t c n es).st ≠ .scheduled := by
  unfold Load.added
  dsimp only
  split
  · split <;> simp
  · simp

/-- LOAD is refused while its kind is SCHEDULED (R23). -/
theorem loadRefusal_unscheduled {k : TableKind} {g i t c : Nat} {es : List (List Byte)} {s : State}
    (e : loadRefusal k g i t c es s = none) : (s.loads.get k).st ≠ .scheduled := by
  intro scheduled
  unfold loadRefusal at e
  rw [if_pos scheduled] at e
  cases e

theorem beq_scheduled_false {x : LoadState} (h : x ≠ .scheduled) : (x == .scheduled) = false := beq_eq_false_iff_ne.2 h

theorem State.reply_slotView (k : Byte) (b : ReplyBody) (s : State) : (s.reply k b).slotView = s.slotView := rfl

theorem State.Spare.replied {n : Nat} {s : State} (h : s.Spare n) (k : Byte) (b : ReplyBody) : (s.reply k b).Spare n :=
  h.of_view (s.reply_slotView k b)

theorem State.takeLoad_spare {n : Nat} {s : State} (k : TableKind) (g : Word16) (i t : Byte) (c m : Word16) (es : List Byte)
    (h : s.Spare n) : (s.takeLoad k g i t c m es).Spare n := by
  unfold State.takeLoad
  split
  · exact h
  · split
    · exact h
    · unfold State.serveLoad
      dsimp only
      split
      · exact h
      · next accepted =>
        exact State.Spare.put (s := s) h k _ (by
          rw [beq_scheduled_false (Load.added_unscheduled _ _ _ _ _ _ _ _), beq_scheduled_false (loadRefusal_unscheduled accepted)])

theorem State.serveDiscard_spare {n : Nat} {s : State} (k : TableKind) (h : s.Spare n) : (s.serveDiscard k).Spare n := by
  unfold State.serveDiscard
  dsimp only
  by_cases scheduled : (s.loads.get k).st = .scheduled
  · rw [if_pos scheduled]
    have left : (s.setLoad k .empty).Spare (n + 1) := h.put k .empty (by rw [scheduled]; rfl)
    exact left.released
  · rw [if_neg scheduled]
    exact State.Spare.put (s := s) h k .empty (by rw [beq_scheduled_false scheduled]; rfl)

/-- An accepted ACTIVATE finds its copy READY (R26). -/
theorem activateRefusal_ready {k : TableKind} {g : Nat} {due : Due} {s : State} (e : activateRefusal k g due s = none) :
    (s.loads.get k).st = .ready := by
  unfold activateRefusal at e
  dsimp only at e
  by_contra other
  rw [if_pos (Or.inl other), ite_eq_iff] at e
  simp at e

theorem State.serveActivate_spare {n : Nat} {s : State} (k : TableKind) (g : Word16) (due : Due) (h : s.Spare n) :
    (s.serveActivate k g due).Spare n := by
  unfold State.serveActivate
  dsimp only
  split
  · exact h
  · next accepted =>
    have ready := activateRefusal_ready accepted
    generalize hl : ({ s.loads.get k with st := .scheduled, due := duePoint due, fallen := false } : Load) = l
    have scheduled : l.st = .scheduled := by subst hl; rfl
    have put : ((s.reserve 1).setLoad k l).Spare n :=
      (h.reserved 1).put k l (by
        rw [scheduled, show (s.reserve 1).loads.get k = s.loads.get k from rfl, ready]
        rfl)
    have there : (((s.reserve 1).setLoad k l).loads.get k).st = .scheduled := by cases k <;> exact scheduled
    show State.Spare n (if due = .now ∨ ((s.reserve 1).setLoad k l).fallsDue k = true then _ else _)
    split
    · exact State.fallDue_spare put there
    · exact put

theorem State.serveClock_spare {n : Nat} {s : State} (day second dow : Nat) (h : s.Spare n) :
    (s.serveClock day second dow).Spare n := by
  unfold State.serveClock
  split
  · exact h
  · exact (State.testSchedules_spare (s := { s with clock := s.clock.setTo day second dow }) h).replied _ _

theorem State.secondAdvances_spare {n : Nat} {s : State} (h : s.Spare n) : s.secondAdvances.Spare n := by
  unfold State.secondAdvances
  dsimp only
  split
  · exact h
  · split
    · exact State.testSchedules_spare (s := { s with clock := s.clock.nextSecond }) h
    · exact h

theorem State.hundredthAdvances_spare {n : Nat} {s : State} (h : s.Spare n) : s.hundredthAdvances.Spare n := by
  unfold State.hundredthAdvances
  split
  · exact h
  · split
    · exact h
    · exact State.secondAdvances_spare h

theorem State.serveChuteClear_spare {n : Nat} {s : State} (h : s.Spare n) : s.serveChuteClear.Spare n := by
  unfold State.serveChuteClear
  split
  · split
    · exact State.Spare.replied (State.faultClears_spare (s := s.onCoils _) h) _ _
    · exact h
  · exact h

/-! ## Acceptances (R91, R118, R137, R157) -/

/-- An operation accepted where none was reserves its slots, and those its kind does not hold are over. -/
theorem State.acceptOp_spare {n : Nat} {s : State} {o : OpRecord} (h : s.Spare n) (free : s.retained.op = none) :
    (s.acceptOp o (slotsOfOp (some o.kind))).Spare n := by
  have count : s.slotView.reserved = s.slotView.needed + n := h
  have needs := s.slotView.needed_withOp (some o.kind)
  have idle : s.slotView.op = none := by unfold State.slotView; rw [free]; rfl
  rw [idle] at needs
  change _ + 0 = _ at needs
  show s.slotView.reserved + slotsOfOp (some o.kind) = (s.slotView.withOp (some o.kind)).needed + n
  omega

theorem State.serveCancel_spare (s : State) (h : s.SlotsHeld) : s.serveCancel.Spare 0 := by
  unfold State.serveCancel
  split
  · exact h.2
  · split
    · exact h.2
    · next opened =>
      split
      · exact h.2
      · have opened : s.purchase = .opened := by
          by_contra other
          exact opened (Or.inl other)
        exact (State.startPayout_spare _ (h.2.reserved 1) (h.1.1.noPayout (by rw [opened]; decide))).replied _ _

/-- An accepted VOUCHER has a ready print path (R157). -/
theorem State.voucherRefusal_path {s : State} (e : s.voucherRefusal = none) : s.printPath 7 = true := by
  unfold State.voucherRefusal at e
  split at e
  · cases e
  split at e
  · cases e
  split at e
  · cases e
  split at e
  · cases e
  next path => rwa [Bool.not_eq_true, Bool.not_eq_false'] at path

theorem State.serveVoucher_spare (s : State) (h : s.SlotsHeld) : s.serveVoucher.Spare 0 := by
  unfold State.serveVoucher
  split
  · exact h.2
  · next e =>
    have opened := s.voucherRefusal_opened e
    have free := MoneyState.free h.1.1 (by rw [opened]; decide) (by rw [opened]; decide)
    refine State.Spare.of_view (State.startJob_spare _ _ _ _ ?_ ?_) (State.entryTest_slotView _)
    · exact State.acceptOp_spare (o := { kind := .voucher, .. }) h.2 free.op
    · exact State.printPath_noJob (s := s) (State.voucherRefusal_path e)

theorem State.startWrite_slotView (o : OpRecord) (b : Binding) (w : Written) (s : State) : (s.startWrite o b w).slotView = s.slotView :=
  rfl

theorem State.serveTopup_spare (amount : Word16) (receipt : Bool) (s : State) (h : s.SlotsHeld) :
    (s.serveTopup amount receipt).Spare 0 := by
  unfold State.serveTopup
  split
  · exact h.2
  · next t e =>
    have opened := s.topupChecks_opened _ t e
    have free := MoneyState.free h.1.1 (by rw [opened]; decide) (by rw [opened]; decide)
    apply State.Spare.replied
    apply State.Spare.of_view _ (State.entryTest_slotView _)
    apply State.Spare.of_view _ (State.startWrite_slotView _ _ _ _)
    exact State.acceptOp_spare (o := { kind := .topup, .. }) h.2 free.op

/-- A sale on paper has a ready print path (R108). -/
theorem State.mediumChecks_path {s : State} {m : Medium} {p : Product} {stamp : Timestamp} {x : Option Binding × PassOutcome}
    (h : s.mediumChecks m p stamp = .ok x) (hb : x.1 = none) : s.printPath p.template = true := by
  unfold State.mediumChecks at h
  split at h
  · split at h
    · next path => exact path
    · cases h
  · split at h
    · cases h
    · cases h
      cases hb

theorem State.saleRecord_slots (q : SellRequest) (t : SaleTerms) (s : State) :
    slotsOfOp (some (s.saleRecord q t).kind) = 2 := by
  unfold State.saleRecord
  cases q.medium <;> rfl

theorem State.serveSell_spare (q : SellRequest) (s : State) (h : s.SlotsHeld) : (s.serveSell q).Spare 0 := by
  unfold State.serveSell
  split
  · exact h.2
  · next t e =>
    have rest := s.sellChecks_rest q t e
    have free := MoneyState.free h.1.1 rest.1 rest.2
    have accepted : (s.acceptOp (s.saleRecord q t) 2).Spare 0 :=
      s.saleRecord_slots q t ▸ State.acceptOp_spare (o := s.saleRecord q t) h.2 free.op
    refine State.Spare.of_view (s := (s.acceptOp (s.saleRecord q t) 2).startSale (s.saleRecord q t) q t) ?_
      (State.entryTest_slotView _)
    unfold State.startSale
    split
    · next hb =>
      obtain ⟨p, stamp, x, hx, ht⟩ := State.sellChecks_medium e
      exact State.startJob_spare _ _ _ _ accepted (State.printPath_noJob (State.mediumChecks_path hx (ht ▸ hb)))
    · exact accepted

theorem State.serveReprint_spare (s : State) (h : s.Spare 0) : s.serveReprint.Spare 0 := by
  unfold State.serveReprint
  split
  · exact h
  · split
    · next path => exact (State.startJob_spare .reprint _ _ _ h (State.printPath_noJob path)).replied _ _
    · exact h

/-! ## The starts (R101, R173, R174) -/

theorem resolveOp_none (r : Retained) : (resolveOp r).1.op = none := by
  unfold resolveOp
  split
  · assumption
  · split <;> rfl

theorem resolvePayout_op (r : Retained) : (resolvePayout r).1.op = r.op := by
  unfold resolvePayout
  split <;> rfl

theorem State.firstPeriod_slotView (s : State) : s.firstPeriod.slotView = s.slotView := by
  unfold State.firstPeriod
  split <;> rfl

theorem State.startValues_slotView {r : Resolved} (h : r.retained.op = none) (c : Clock) (pins : Pins) (s : State) :
    (s.startValues r c pins).slotView = ⟨0, none, false, none, 0⟩ := by
  show (⟨0, r.retained.op.map OpRecord.kind, false, none, 0⟩ : SlotView) = _
  rw [h]
  rfl

/-- After a start nothing is in progress and nothing is reserved (R173, R174). -/
theorem State.boot_spare (cold : Bool) (cause : StartCause) (pins : Pins) (s : State) : (s.boot cold cause pins).Spare 0 := by
  have resolved : (if cold then coldResolve else warmResolve s.retained).retained.op = none := by
    cases cold with
    | true => rfl
    | false => exact (resolvePayout_op _).trans (resolveOp_none _)
  have view : (s.boot cold cause pins).slotView = ⟨0, none, false, none, 0⟩ := by
    refine Eq.trans ?_ (State.startValues_slotView resolved (if cold then s.clock.cold else s.clock.warm) pins s)
    exact State.firstPeriod_slotView _
  unfold State.Spare
  rw [view]
  rfl

theorem State.checkedStart_spare (cause : StartCause) (pins : Pins) (s : State) : (s.checkedStart cause pins).Spare 0 := by
  unfold State.checkedStart
  split <;> exact State.boot_spare _ _ _ _

theorem State.powerReturns_spare (pins : Pins) {s : State} (h : s.Spare 0) : (s.powerReturns pins).Spare 0 := by
  unfold State.powerReturns
  dsimp only
  split
  · exact h
  · split
    · exact h
    · exact State.checkedStart_spare _ _ _

theorem State.resetReleases_spare (pins : Pins) {s : State} (h : s.Spare 0) : (s.resetReleases pins).Spare 0 := by
  unfold State.resetReleases
  dsimp only
  split
  · exact h
  · split
    · exact State.checkedStart_spare _ _ _
    · exact h

theorem State.startAfterReply_spare (pins : Pins) {s : State} (h : s.Spare 0) : (s.startAfterReply pins).Spare 0 := by
  unfold State.startAfterReply
  split
  · exact h
  · exact State.boot_spare _ _ _ _
  · exact State.boot_spare _ _ _ _

/-! ## Every request and every command -/

theorem State.gated_spare {n : Nat} {s : State} (k : Byte) (serve : State → State) (h : s.Spare n) (hs : (serve s).Spare n) :
    (s.gated k serve).Spare n := by
  unfold State.gated
  split
  · exact h
  · exact hs

theorem State.takeRequest_spare (i : Instr) (s : State) (h : s.SlotsHeld) : (s.takeRequest i).Spare 0 := by
  have gated {serve : State → State} (k : Byte) (hs : (serve s).Spare 0) : (s.gated k serve).Spare 0 := State.gated_spare k serve h.2 hs
  have framed {serve : State → State} (k : Byte) (e : (serve s).slotView = s.slotView) : (s.gated k serve).Spare 0 :=
    gated k (h.2.of_view e)
  cases i
  case setup => exact h.2.of_view (s.serveSetup_slotView _ _ _ _)
  case query => exact h.2.of_view (s.serveQuery_slotView _ _)
  case service => exact framed _ (s.serveService_slotView _)
  case inhibit => exact framed _ (State.entryTest_slotView _)
  case load => exact State.takeLoad_spare _ _ _ _ _ _ _ h.2
  case discard => exact gated _ (State.serveDiscard_spare _ h.2)
  case activate => exact gated _ (State.serveActivate_spare _ _ _ h.2)
  case clock => exact gated _ (State.serveClock_spare _ _ _ h.2)
  case sell => exact gated _ (s.serveSell_spare _ h)
  case topup => exact gated _ (s.serveTopup_spare _ _ h)
  case cancel => exact gated _ (s.serveCancel_spare h)
  case voucher => exact gated _ (s.serveVoucher_spare h)
  case reprint => exact gated _ (s.serveReprint_spare h.2)
  case chuteClear => exact gated _ (State.serveChuteClear_spare h.2)
  case tube => exact framed _ (s.serveTube_slotView _ _)
  case writeOff => exact framed _ (s.serveWriteOff_slotView _)
  case clearTotals => exact framed _ s.serveClearTotals_slotView
  case clearAll => exact framed _ s.serveClearAll_slotView
  case restart => exact framed _ rfl
  all_goals exact h.2

theorem State.disposeFrame_spare (f : Frame) (s : State) (h : s.SlotsHeld) : (s.disposeFrame f).Spare 0 := by
  unfold State.disposeFrame
  split
  · exact h.2
  · split
    · unfold State.disposeRequest
      split
      · exact s.takeRequest_spare _ h
      · unfold State.refuseFormat
        split <;> exact h.2
    · split
      · unfold State.disposeDownward
        split
        · exact h.2
        · exact h.2.of_view (s.passDown_slotView f)
      · exact h.2

theorem State.SlotsHeld.frameSeen {s : State} (h : s.SlotsHeld) : s.frameSeen.SlotsHeld :=
  h.of_views (State.frameSeen_money s h.1.1) s.frameSeen_journalView s.frameSeen_slotView

theorem State.onCLine_spare (f : Frame) (serve : State → State) (s : State) (h : s.SlotsHeld)
    (hs : ∀ t : State, t.SlotsHeld → (serve t).Spare 0) : (s.onCLine f serve).Spare 0 := by
  unfold State.onCLine
  split
  · exact h.2
  · split
    · exact h.2
    · exact hs _ (h.frameSeen)

theorem State.runC_slots (s : State) (h : s.SlotsHeld) : s.runC.SlotsHeld :=
  State.pumpC_keeps State.SlotsHeld (fun _ _ h => h) (fun f _ ht =>
    have seen := ht.frameSeen
    ⟨⟨State.disposeFrame_money f _ seen.1.1, State.disposeFrame_held f _ seen.1.1 seen.1.2⟩, State.disposeFrame_spare f _ seen⟩) _ s h

theorem State.onReceiver_slots (l : Line) (f : Receiver → Receiver) (s : State) (h : s.SlotsHeld) : (s.onReceiver l f).SlotsHeld := by
  unfold State.onReceiver
  split
  · exact State.runC_slots _ h
  · split
    · exact State.pumpM_keeps State.SlotsHeld (fun _ _ h => h)
        (fun t ht => ⟨⟨State.noAnswer_money t ht.1.1, t.noAnswer_held ht.1.2⟩, t.noAnswer_spare ht⟩)
        (fun f t ht => ⟨⟨State.moduleFrame_money f t ht.1.1, t.moduleFrame_held f ht.1.2⟩, t.moduleFrame_spare f ht⟩) _ _ h
    · exact h

/-- Every command keeps the books and the reservations (R31, R92, R93, R142, R150, R154, R169). -/
theorem exec_slotsHeld (c : Instr) (s t : State) (h : s.SlotsHeld) (e : exec c s = .next t) : t.SlotsHeld := by
  have keeps {f : State → State} (hm : ∀ u : State, u.MoneyHeld → (f u).MoneyHeld)
      (hj : ∀ u : State, u.JournalHeld → (f u).JournalHeld) (hs : ∀ u : State, u.SlotsHeld → (f u).Spare 0)
      (u : State) (hu : u.SlotsHeld) : (f u).SlotsHeld :=
    ⟨⟨hm u hu.1.1, hj u hu.1.2⟩, hs u hu⟩
  have spared {f : State → State} (hm : ∀ u : State, u.MoneyHeld → (f u).MoneyHeld)
      (hv : ∀ u, (f u).journalView = u.journalView) (hs : ∀ u : State, u.Spare 0 → (f u).Spare 0) :
      ∀ u : State, u.SlotsHeld → (f u).SlotsHeld :=
    keeps hm (fun u hu => hu.of_view (hv u)) fun u hu => hs u hu.2
  have framed {f : State → State} (hm : ∀ u : State, u.MoneyHeld → (f u).MoneyHeld)
      (hj : ∀ u, (f u).journalView = u.journalView) (hv : ∀ u, (f u).slotView = u.slotView) :
      ∀ u : State, u.SlotsHeld → (f u).SlotsHeld :=
    spared hm hj fun u hu => hu.of_view (hv u)
  have onLine (f : Frame) (serve : State → State) (u : State) (hu : u.SlotsHeld)
      (hm : ∀ t : State, t.MoneyHeld → (serve t).MoneyHeld) (hj : ∀ t : State, t.MoneyHeld → t.JournalHeld → (serve t).JournalHeld)
      (hs : ∀ t : State, t.SlotsHeld → (serve t).Spare 0) : (u.onCLine f serve).SlotsHeld :=
    ⟨u.onCLine_books f serve hu.1 hm hj, u.onCLine_spare f serve hu hs⟩
  refine exec_keeps State.SlotsHeld
    (fun f s h => onLine f _ s h (State.disposeFrame_money f) (State.disposeFrame_held f) (State.disposeFrame_spare f)) ?_
    (fun l _ _ _ s => s.onReceiver_slots l _) (fun l s => s.onReceiver_slots l _) ?_
    (framed State.silenceExpires_money State.silenceExpires_journalView State.silenceExpires_slotView)
    (framed State.transmitEnds_money State.transmitEnds_journalView State.transmitEnds_slotView) ?_
    (fun p s _ => keeps (State.startAfterReply_money p) (State.startAfterReply_held p) (fun u hu => u.startAfterReply_spare p hu.2) s)
    (framed State.grant_money State.grant_journalView State.grant_slotView)
    (fun f => keeps (State.moduleFrame_money f) (State.moduleFrame_held f) (State.moduleFrame_spare f)) ?_
    (framed State.groupEnds_money State.groupEnds_journalView State.groupEnds_slotView)
    (fun i => framed (State.reprobeDue_money i) (State.reprobeDue_journalView i) (State.reprobeDue_slotView i))
    (spared State.secondAdvances_money State.secondAdvances_journalView fun _ => State.secondAdvances_spare)
    (framed State.oscillatorStops_money State.oscillatorStops_journalView State.oscillatorStops_slotView)
    (fun x n => spared (State.sensorRise_money x n) (State.sensorRise_journalView x n) fun _ => State.sensorRise_spare x n)
    (fun x n => framed (State.sensorFall_money x n) (State.sensorFall_journalView x n) (State.sensorFall_slotView x n))
    (framed State.aLimitPasses_money State.aLimitPasses_journalView State.aLimitPasses_slotView)
    (framed State.gapLimitPasses_money State.gapLimitPasses_journalView State.gapLimitPasses_slotView)
    (framed State.acceptWaitPasses_money State.acceptWaitPasses_journalView State.acceptWaitPasses_slotView)
    (framed State.returnWaitPasses_money State.returnWaitPasses_journalView State.returnWaitPasses_slotView)
    (spared State.idleWaitPasses_money State.idleWaitPasses_journalView fun _ => State.idleWaitPasses_spare)
    (fun b => framed (State.doorChange_money b) (State.doorChange_journalView b) (State.doorChange_slotView b))
    (keeps State.leverPress_money (fun u hu => hu.of_view (State.leverPress_journalView u))
      fun _ hu => State.leverPress_spare hu.1.1 hu.2)
    (fun x => framed (State.pwmPeriod_money x) (State.pwmPeriod_journalView x) (State.pwmPeriod_slotView x))
    (fun x y => framed (State.pullInCheck_money x y) (State.pullInCheck_journalView x y) (State.pullInCheck_slotView x y))
    (framed State.diverterChangeover_money State.diverterChangeover_journalView State.diverterChangeover_slotView)
    (fun i => spared (State.exitPulse_money i) (State.exitPulse_journalView i) fun _ => State.exitPulse_spare i)
    (fun i => spared (State.jamTimeout_money i) (State.jamTimeout_journalView i) fun _ => State.jamTimeout_spare i)
    (fun i => framed (State.trailingEnds_money i) (State.trailingEnds_journalView i) (State.trailingEnds_slotView i))
    (keeps State.writeTimeout_money State.writeTimeout_held fun _ => State.writeTimeout_spare)
    (keeps State.cutTimeout_money State.cutTimeout_held fun _ hu => State.cutTimeout_spare hu.1 hu.2)
    (framed State.roomAskDelay_money State.roomAskDelay_journalView State.roomAskDelay_slotView)
    (fun p => keeps (State.powerReturns_money p) (State.powerReturns_held p) fun _ hu => State.powerReturns_spare p hu.2)
    (framed State.powerFails_money State.powerFails_journalView State.powerFails_slotView) (fun _ h => h)
    (fun p => keeps (State.resetReleases_money p) (State.resetReleases_held p) fun _ hu => State.resetReleases_spare p hu.2)
    (spared State.hundredthAdvances_money State.hundredthAdvances_journalView fun _ => State.hundredthAdvances_spare) (fun _ h => h)
    (framed State.backupFails_money State.backupFails_journalView State.backupFails_slotView) c s t h e
  · intro i s h
    unfold State.onRequest
    split
    · exact onLine _ _ s h (State.takeRequest_money i) (State.takeRequest_held i) (State.takeRequest_spare i)
    · exact h
  · intro l s h
    unfold State.gapExpires
    split
    · exact s.onReceiver_slots l _ h
    · exact h
  · intro s h
    unfold State.transmit
    split
    · exact State.runC_slots _ (h.of_views (State.takeNext_money s h.1.1) s.takeNext_journalView s.takeNext_slotView)
    · exact h
  · intro s h
    unfold State.windowPasses
    split
    · exact ⟨⟨State.noAnswer_money s h.1.1, s.noAnswer_held h.1.2⟩, s.noAnswer_spare h⟩
    · exact h

/-- Settles O11: with the books held, each command reserves, uses and releases what the operations it begins and ends hold. -/
theorem reservationsKept : Obligations.ReservationsKept := by
  intro s t m j r e
  rcases step_exec e with rfl | ⟨c, rest, e⟩
  · exact r
  · have held : State.SlotsHeld { s with pending := rest } := ⟨⟨m, (journalKept_iff s).1 j⟩, (reservationsHeld_iff s).1 r⟩
    exact (reservationsHeld_iff t).2 (exec_slotsHeld c _ t held e).2

end Sys2Proof.Machine
end

section
/-! PROOFS. A fixed-kind report in the queue (R30). -/

namespace Sys2Proof.Machine

/-- Reports of two kinds do not merge (R30). -/
theorem Report.merge_of_kind_ne {q r : Report} (h : q.kind ≠ r.kind) : Report.merge q r = none := by
  cases hm : Report.merge q r with
  | none => rfl
  | some m => exact absurd (Report.merge_kind hm).2.1 h

/-- A report passes over those of other kinds (R30). -/
theorem putFixed_append (r : Report) (before rest : List Report) (h : ∀ x ∈ before, x.kind ≠ r.kind) :
    putFixed r (before ++ rest) = before ++ putFixed r rest := by
  induction before with
  | nil => rfl
  | cons x xs ih =>
    obtain ⟨hx, hxs⟩ := List.forall_mem_cons.1 h
    rw [List.cons_append, List.cons_append, putFixed, Report.merge_of_kind_ne hx]
    exact congrArg (x :: ·) (ih hxs)

/-- A report takes the place of the first queued one of its kind, merged with it (R30). -/
theorem putFixed_merged {x r m : Report} {q before after : List Report} (hq : q = before ++ x :: after)
    (hm : Report.merge x r = some m) (h : ∀ y ∈ before, y.kind ≠ r.kind) : putFixed r q = before ++ m :: after := by
  rw [hq, putFixed_append r before _ h, putFixed, hm]

/-- Settles O60: a report passes over the reports of other kinds, and merges with the first of its own or joins the tail. -/
theorem reportsCoalesce : Obligations.ReportsCoalesce := by
  refine ⟨fun r q h => ?_, fun q before after => ⟨fun x r hq h => ?_, fun x r hq h => ?_, fun x r hq h => ?_, fun x r hq h => ?_,
    fun x r hq h => ?_⟩⟩
  · simpa [putFixed] using putFixed_append r q [] h
  all_goals exact putFixed_merged hq rfl h

end Sys2Proof.Machine
end

section
/-! PROOFS. A gated request, and DISCARD, INHIBIT and SERVICE (R18, R20, R21, R25). -/

namespace Sys2Proof.Machine

/-- A request that its owner serves in READY and SERVICE is served behind its frame's common effects (R18). -/
theorem exec_gated {i : Instr} {f : Frame} {kind : Byte} {serve : State → State} {s : State} (hf : frameOfRequest i = some f)
    (hi : s.frameSeen.takeRequest i = s.frameSeen.gated kind serve) (ht : TakesFrames s) (hp : s.part ≠ .unset) :
    exec i s = .next (serve s.frameSeen).transmit := by
  rw [exec_request hf ht, hi, State.gated_set _ _ (by rwa [State.frameSeen_part])]

/-! ## DISCARD (R25) -/

theorem State.serveDiscard_eq (k : TableKind) (s : State) : s.serveDiscard k =
    ({ s with
      loads := s.loads.set .empty k
      reserved := if (s.loads.get k).st = .scheduled then s.reserved - 1 else s.reserved } : State).reply Kind.discard
        (.discard (s.loads.get k).st) := by
  unfold State.serveDiscard
  dsimp only
  split <;> rfl

/-- Settles O29: the copy is dropped with its reservation, and the reply names the state it was in. -/
theorem discardDropsCopy : Obligations.DiscardDropsCopy := by
  intro k s ht hp before
  rw [exec_gated rfl rfl ht hp, State.serveDiscard_eq, State.frameSeen_loads, State.frameSeen_reserved]
  rfl

/-! ## INHIBIT and SERVICE (R20, R21) -/

/-- SERVICE to ON in READY is refused while a purchase or a coin is under way (R20). -/
theorem State.serviceRefused_iff (s : State) :
    s.serviceRefused = true ↔ s.purchase ≠ .idle ∨ (s.chute.state ≠ .idle ∧ s.chute.state ≠ .fault) := by
  have coin : s.chute.state.coinInFlight = true ↔ s.chute.state ≠ .idle ∧ s.chute.state ≠ .fault := by
    cases s.chute.state <;> simp [ChuteState.coinInFlight]
  rw [State.serviceRefused, Bool.or_eq_true, bne_iff_ne, coin]

theorem State.serveService_on_refused {s : State} (hr : s.part = .ready) (h : s.serviceRefused = true) :
    s.serveService true = s.refuse Kind.service .state := by
  rw [State.serveService, if_pos rfl, if_pos ⟨hr, h⟩]

theorem State.serveService_on {s : State} (h : ¬(s.part = .ready ∧ s.serviceRefused = true)) :
    s.serveService true = (({ s with part := .service } : State).entryTest).reply Kind.service (.service .service) := by
  rw [State.serveService, if_pos rfl, if_neg h]

/-- Settles O26: each sets its field and tests the entry; SERVICE to ON is refused in READY alone. -/
theorem inhibitAndServiceSetPartState : Obligations.InhibitAndServiceSetPartState := by
  intro s ht hp
  have inhibit (on : Bool) : exec (.inhibit on) s = .next (s.frameSeen.serveInhibit on).transmit := exec_gated rfl rfl ht hp
  have service (on : Bool) : exec (.service on) s = .next (s.frameSeen.serveService on).transmit := exec_gated rfl rfl ht hp
  refine ⟨fun on => ⟨_, ?_, State.entryTest_tested _⟩, fun hr h => ?_, fun h => ⟨_, ?_, State.entryTest_tested _⟩,
    ⟨_, service false, State.entryTest_tested _⟩⟩
  · rw [inhibit, State.serveInhibit, State.frameSeen_inhibit]
  · have refused : s.frameSeen.serviceRefused = true := by
      rw [State.serviceRefused_iff, State.frameSeen_purchase, State.frameSeen_chute]
      exact h
    rw [service, State.serveService_on_refused (by rw [State.frameSeen_part, hr]) refused]
  · rw [service, State.serveService_on]
    rw [State.serviceRefused_iff, State.frameSeen_part, State.frameSeen_purchase, State.frameSeen_chute]
    rintro ⟨ready, idle | ⟨rest, fault⟩⟩
    · exact h.elim (fun on => by rw [ready] at on; cases on) fun ⟨free, _⟩ => idle free
    · exact h.elim (fun on => by rw [ready] at on; cases on) fun ⟨_, quiet⟩ => quiet.elim rest fault

end Sys2Proof.Machine
end

section
/-! PROOFS. The sensors' edges, the crediting of a coin, the chute's limits and its faults' ends (R45 to R55). -/

namespace Sys2Proof.Machine

/-! ## Edges (R45, R52) -/

/-- The record after an edge: the capture counts that run and the sensor's level (R45). -/
def Chute.edged (c : Chute) (n : Nat) (on : Bool) (x : Sensor) : Chute :=
  { c with
    wA := if c.state = .onA then min (c.wA + n) 65535 else c.wA
    fAB := if c.state = .onA ∨ c.state = .gap then min (c.fAB + n) 65535 else c.fAB
    wB := if c.state = .onB then min (c.wB + n) 65535 else c.wB
    active := c.active.set on x }

theorem Chute.edged_eq (c : Chute) (n : Nat) (on : Bool) (x : Sensor) :
    { c.advance n with active := c.active.set on x } = c.edged n on x := by
  unfold Chute.edged Chute.advance
  cases h : c.state <;> simp [satAdd, Config.saturation, h]

section Edges
variable {s : State} (n : Nat) {x : Sensor}

theorem State.sensorRise_active (h : s.chute.active.get x = true) : s.sensorRise x n = s := if_pos h

theorem State.sensorRise_idle (h : s.chute.active.get x = false) :
    s.sensorRise x n = ({ s with chute := s.chute.edged n true x } : State).riseIn s.chute.state x := by
  rw [← Chute.edged_eq]
  exact if_neg (by rw [h]; exact Bool.false_ne_true)

theorem State.sensorFall_idle (h : s.chute.active.get x = false) : s.sensorFall x n = s := if_neg (by rw [h]; exact Bool.false_ne_true)

theorem State.sensorFall_active (h : s.chute.active.get x = true) :
    s.sensorFall x n = ({ s with chute := s.chute.edged n false x } : State).fallIn s.chute.state x := by
  rw [← Chute.edged_eq]
  exact if_pos h

end Edges

/-- The rises that enter FAULT, with the kind each enters (R52). -/
def straying : List (ChuteState × Sensor × FaultKind) :=
  [(.idle, .b, .order), (.onA, .b, .order), (.accepting, .b, .order), (.returning, .b, .order),
    (.onA, .d, .order), (.gap, .d, .order), (.onB, .d, .order), (.accepting, .d, .order), (.gap, .a, .crowd),
    (.onB, .a, .crowd), (.accepting, .a, .crowd), (.returning, .a, .crowd), (.idle, .c, .strayC), (.onA, .c, .strayC),
    (.gap, .c, .strayC), (.onB, .c, .strayC), (.returning, .c, .strayC)]

theorem riseIn_straying (s : State) : ∀ p ∈ straying, s.riseIn p.1 p.2.1 = s.enterFault p.2.2 := by
  simp only [straying, List.forall_mem_cons, State.riseIn, List.not_mem_nil, false_imp_iff, implies_true, and_self]

theorem straying_notCoil : ∀ p ∈ straying, p.2.2 ≠ .coil := by decide

/-- A straying coin's rise enters its fault, the coils at rest (R52, R53). -/
theorem State.riseIn_faulted {st : ChuteState} {x : Sensor} {k : FaultKind} (s : State) (h : (st, x, k) ∈ straying) :
    Faulted k s.coils.atRest s (s.riseIn st x) := by
  have enters := riseIn_straying s _ h
  exact enters ▸ State.enterFault_faulted k (straying_notCoil _ h) s

theorem State.riseIn_fault (s : State) (x : Sensor) : s.riseIn .fault x = s.onChute fun c => { c with timer := none } := by
  cases x <;> rfl

/-- A fall does more than set its level in FAULT, at A's in ON_A and at B's in ON_B alone (R52). -/
theorem State.fallIn_still {st : ChuteState} {x : Sensor} (s : State) (hf : st ≠ .fault) (ha : ¬(x = .a ∧ st = .onA))
    (hb : ¬(x = .b ∧ st = .onB)) : s.fallIn st x = s := by
  unfold State.fallIn
  split
  · exact absurd ⟨rfl, rfl⟩ ha
  · exact absurd ⟨rfl, rfl⟩ hb
  · exact absurd rfl hf
  all_goals rfl

/-- The idle wait starts at the fall that leaves all sensors idle, of a kind that clears by itself (R54). -/
theorem Chute.startWait_eq (c : Chute) : c.startWait =
    { c with timer := if c.fault.any FaultKind.selfClears = true ∧ allIdle c.active = true then some 2000 else c.timer } := by
  obtain ⟨state, fault, timer, coin, last, wA, fAB, wB, active⟩ := c
  cases fault with
  | none => rfl
  | some k => by_cases h : k.selfClears = true ∧ allIdle active = true <;> simp [Chute.startWait, h, Config.idleWaitMs]

theorem State.fallIn_fault (s : State) (x : Sensor) : s.fallIn .fault x = s.onChute Chute.startWait := by
  cases x <;> rfl

/-- Settles O48: an edge is taken where it changes the level; then the chute state and the sensor say what it does. -/
theorem sensorEdges : Obligations.SensorEdges := by
  intro x n s hr c counted rise fall
  have hrise : rise = .next (s.sensorRise x n).transmit := State.event_running _ hr
  have hfall : fall = .next (s.sensorFall x n).transmit := State.event_running _ hr
  refine ⟨fun on => by rw [hrise, State.sensorRise_active n on], fun off => by rw [hfall, State.sensorFall_idle n off],
    fun off => ?_, fun on => ?_⟩
  · rw [State.sensorRise_idle n off] at hrise
    refine ⟨?_, ?_, ?_, fun k hk => ⟨_, hrise, State.riseIn_faulted _ hk⟩, fun hs => ?_, ?_⟩
    · rintro rfl hs
      rw [show s.chute.state = .idle from hs] at hrise
      exact ⟨_, hrise, State.entryTest_tested _⟩
    · rintro rfl hs
      rw [hrise, show s.chute.state = .gap from hs]
      rfl
    · rintro rfl hs
      rw [show s.chute.state = .returning from hs] at hrise
      exact ⟨_, hrise, State.chuteToIdle_toIdle _⟩
    · rw [hrise, show s.chute.state = .fault from hs, State.riseIn_fault]
      rfl
    · rintro (⟨hs, rfl⟩ | ⟨hs, rfl⟩ | ⟨hs, rfl⟩) <;> rw [hrise, show s.chute.state = _ from hs] <;> rfl
  · rw [State.sensorFall_active n on] at hfall
    refine ⟨?_, fun hs => ?_, fun hf ha hb => ?_⟩
    · rintro rfl hs
      rw [hfall, show s.chute.state = .onA from hs]
      rfl
    · rw [hfall, show s.chute.state = .fault from hs, State.fallIn_fault, State.onChute, Chute.startWait_eq]
      rfl
    · rw [hfall, State.fallIn_still _ hf ha hb]
      rfl

end Sys2Proof.Machine
end

section
/-! PROOFS. The crediting of a coin, the chute's limits and the ends of its faults (R45 to R55, R62). -/

namespace Sys2Proof.Machine

/-! ## Crediting (R50, R62) -/

/-- The diverter commanded to the cash box: DVT released, DVK the target unless it is in drive already (R74). -/
theorem CoilDriver.divert_cashBox (d : CoilDriver) : d.divert .cashBox = { d with
    coils := { d.coils with dvt := d.coils.dvt.release }
    command := .cashBox, target := if d.coils.dvk.phase = .off then some false else none } := by
  have on : d.coils.dvk.on = true ↔ ¬d.coils.dvk.phase = .off := by rw [Coil.on, bne_iff_ne]
  have target : (if d.coils.dvk.on = true then none else some false) = if d.coils.dvk.phase = .off then some false else none := by
    simp only [on, ite_not]
  rw [← target]
  rfl

theorem CoilDriver.atRest_eq (d : CoilDriver) : (d.drive .ag false).divert .cashBox = d.atRest :=
  CoilDriver.divert_cashBox _

/-- The retained books after a coin of a value and a kind is credited (R62). -/
def State.booked (s : State) (a : AcceptedCoin) : Retained :=
  { s.retained with
    ledger := Move.credit (BitVec.ofNat 32 a.value) s.retained.ledger
    accepted := countKind a.kind s.retained.accepted }

/-- The tube a coin was routed to counts it, and the flags follow (R62, R147). -/
def State.routed (s : State) (a : AcceptedCoin) : State :=
  match a.route with
  | .tube i => (({ s with retained := s.booked a } : State).setTubeCount i (s.tubeCount i + 1)).tubesChanged s
  | .cashBox => { s with retained := s.booked a }

theorem State.routed_cashBox {s : State} {a : AcceptedCoin} (h : a.route = .cashBox) : s.routed a = { s with retained := s.booked a } := by
  unfold State.routed
  rw [h]

theorem State.routed_tube {s : State} {a : AcceptedCoin} {i : Fin 4} (h : a.route = .tube i) : FlagsTested s { s with
    retained := { s.booked a with tubeCounts := s.retained.tubeCounts.set i (s.tubeCount i + 1) } } (s.routed a) := by
  unfold State.routed
  rw [h]
  exact State.tubesChanged_tested _ _

/-- The change of a tube and its flags go by nothing of the chute. -/
theorem State.tubesChanged_chute (s before : State) (c : Chute) :
    ({ s with chute := c } : State).tubesChanged { before with chute := c } = { s.tubesChanged before with chute := c } := by
  unfold State.tubesChanged
  show (if flagsMoved before s.withLows = true then _ else _) = _
  split <;> rfl

theorem State.routed_chute (s : State) (a : AcceptedCoin) (c : Chute) :
    ({ s with chute := c } : State).routed a = { s.routed a with chute := c } := by
  unfold State.routed
  cases a.route with
  | cashBox => rfl
  | tube i => exact State.tubesChanged_chute (({ s with retained := s.booked a } : State).setTubeCount i (s.tubeCount i + 1)) s c

/-- A coin's tube and its flags change the purchase and the counts, not what CREDIT shows of them. -/
theorem State.routed_frame (s : State) (a : AcceptedCoin) : (s.routed a).retained.ledger = (s.booked a).ledger ∧
    (s.routed a).purchase = s.purchase ∧ (s.routed a).coils = s.coils := by
  cases h : a.route with
  | cashBox =>
    rw [State.routed_cashBox h]
    exact ⟨rfl, rfl, rfl⟩
  | tube i =>
    rw [(State.routed_tube h).frame]
    exact ⟨rfl, rfl, rfl⟩

/-- The purchase after a coin: IDLE becomes OPEN (R62). -/
def State.openedByCoin (s : State) : PurchaseState := if s.purchase = .idle then .opened else s.purchase

/-- A credited coin's books, its tube, the purchase and CREDIT (R62). -/
theorem State.creditCoin_eq (a : AcceptedCoin) (s : State) : s.creditCoin a =
    { s.routed a with
      purchase := s.openedByCoin
      reports := putFixed (.credit ⟨s.retained.ledger.c + BitVec.ofNat 32 a.value, s.openedByCoin, 1, 0, 0⟩) (s.routed a).reports } := by
  obtain ⟨ledger, purchase, -⟩ := s.routed_frame a
  have opened : s.creditCoin a = State.issueCredit 1 0 { s.routed a with
      purchase := if (s.routed a).purchase = .idle then .opened else (s.routed a).purchase } := by
    unfold State.creditCoin State.routed
    cases a.route <;> rfl
  rw [opened, purchase]
  show { s.routed a with
    purchase := s.openedByCoin
    reports := putFixed (.credit ⟨(s.routed a).retained.ledger.c, s.openedByCoin, 1, 0, 0⟩) (s.routed a).reports } = _
  rw [ledger]
  rfl

/-- What is credited stays within the ceiling kept at the decision (R46, R59). -/
theorem ChuteKept.credited {c : Chute} {l : Ledger} {r : CoinResult} {a : AcceptedCoin} (h : ChuteKept c l) (hc : c.coin = some ⟨r, some a⟩) :
    (l.c + BitVec.ofNat 32 a.value).toNat ≤ a.ceiling := by
  have within := h.within _ a hc rfl
  have sum : (l.c + BitVec.ofNat 32 a.value).toNat ≤ l.c.toNat + a.value := by
    rw [BitVec.toNat_add, BitVec.toNat_ofNat]
    exact (Nat.mod_le _ _).trans (Nat.add_le_add_left (Nat.mod_le _ _) _)
  omega

/-- The rise of C in ACCEPTING sets its level and runs no count (R45, R50). -/
theorem State.sensorRise_atC {s : State} (n : Nat) (hs : s.chute.state = .accepting) (hc : s.chute.active.c = false) :
    s.sensorRise .c n = ({ s with chute := { s.chute with active := { s.chute.active with c := true } } } : State).coinAtC := by
  have edged : s.chute.edged n true .c = { s.chute with active := { s.chute.active with c := true } } := by
    simp only [Chute.edged, hs]
    rfl
  rw [State.sensorRise_idle (x := .c) n hc, hs, edged]
  rfl

/-- The coin's flight ends with its credit, the coils at rest, and the chute comes to IDLE (R50, R62). -/
theorem State.coinAtC_toIdle {c : Chute} {r : CoinResult} {a : AcceptedCoin} (s : State) (h : c.coin = some ⟨r, some a⟩) :
    ToIdle { s.routed a with
      purchase := s.openedByCoin
      reports := putFixed (.credit ⟨s.retained.ledger.c + BitVec.ofNat 32 a.value, s.openedByCoin, 1, 0, 0⟩) (s.routed a).reports
      chute := c, coils := s.coils.atRest } ({ s with chute := c } : State).coinAtC := by
  unfold State.coinAtC
  rw [show ({ s with chute := c } : State).chute.coin = some ⟨r, some a⟩ from h]
  dsimp only
  have atRest : s.coils.atRest = (s.routed a).coils.atRest := by rw [(s.routed_frame a).2.2]
  rw [State.creditCoin_eq, State.routed_chute s a c, State.onCoils, CoilDriver.atRest_eq, atRest]
  exact State.chuteToIdle_toIdle _

/-- Settles O50: the coin in flight is credited, the coils go to rest, and the chute comes to IDLE. -/
theorem coinCredited : Obligations.CoinCredited := by
  intro n r a s hr hs hc hcoin v l purchase credited
  have books : s.booked a = credited := by
    unfold State.booked
    rw [countKind_eq]
    rfl
  refine ⟨fun h => h.credited hcoin, s.routed a, _, State.event_running _ hr, fun h => ?_, fun i h => ?_, ?_⟩
  · rw [State.routed_cashBox h, books]
  · rw [← books]
    exact State.routed_tube h
  · rw [State.sensorRise_atC n hs hc]
    exact State.coinAtC_toIdle s hcoin

end Sys2Proof.Machine
end

section
/-! PROOFS. The chute's limits and the ends of its faults (R47 to R51, R54, R55, R68). -/

namespace Sys2Proof.Machine

/-! ## The limits (R68) -/

theorem State.limit_none {s : State} (h : s.retained.coin = none) (f : CoinHeader → Nat) (d : Nat) : s.limit f d = d := by
  unfold State.limit State.coinTable
  rw [h]
  rfl

theorem State.limit_active {s : State} {a : Active CoinTable} (h : s.retained.coin = some a) (f : CoinHeader → Nat) (d : Nat) :
    s.limit f d = if f a.content.header = 0 then d else f a.content.header := by
  unfold State.limit State.coinTable
  rw [h]
  rfl

/-! ## The limits' ends (R47 to R51) -/

section Ends
variable {s : State}

theorem State.aLimitPasses_onA (h : s.chute.state = .onA) : s.aLimitPasses = s.enterFault .jamA := by rw [State.aLimitPasses, h]

theorem State.aLimitPasses_onB (h : s.chute.state = .onB) : s.aLimitPasses = s.enterFault .jamB := by rw [State.aLimitPasses, h]

theorem State.aLimitPasses_still (h1 : s.chute.state ≠ .onA) (h2 : s.chute.state ≠ .onB) : s.aLimitPasses = s := by
  unfold State.aLimitPasses
  split
  · next h => exact absurd h h1
  · next h => exact absurd h h2
  all_goals rfl

theorem State.gapLimitPasses_gap (h : s.chute.state = .gap) :
    s.gapLimitPasses = s.returnCoin ⟨s.chute.wA, 65535, 65535, 1023, 1023, .none, .giveBack⟩ := by rw [State.gapLimitPasses, h]

theorem State.gapLimitPasses_still (h1 : s.chute.state ≠ .gap) : s.gapLimitPasses = s := by
  unfold State.gapLimitPasses
  split
  · next h => exact absurd h h1
  all_goals rfl

theorem State.acceptWaitPasses_accepting (h : s.chute.state = .accepting) : s.acceptWaitPasses = s.enterFault .acceptLost := by
  rw [State.acceptWaitPasses, h]

theorem State.acceptWaitPasses_still (h1 : s.chute.state ≠ .accepting) : s.acceptWaitPasses = s := by
  unfold State.acceptWaitPasses
  split
  · next h => exact absurd h h1
  all_goals rfl

theorem State.returnWaitPasses_returning (h : s.chute.state = .returning) : s.returnWaitPasses = s.enterFault .returnLost := by
  rw [State.returnWaitPasses, h]

theorem State.returnWaitPasses_still (h1 : s.chute.state ≠ .returning) : s.returnWaitPasses = s := by
  unfold State.returnWaitPasses
  split
  · next h => exact absurd h h1
  all_goals rfl

/-! ## The ends of faults (R54, R55) -/

theorem State.idleWaitPasses_waited (h : s.chute.state = .fault) (ht : s.chute.timer ≠ none) : s.idleWaitPasses = s.faultClears :=
  if_pos ⟨h, Option.isSome_iff_ne_none.2 ht⟩

theorem State.idleWaitPasses_still (h : s.chute.state ≠ .fault ∨ s.chute.timer = none) : s.idleWaitPasses = s := by
  refine if_neg fun ⟨fault, runs⟩ => h.elim (absurd fault) fun stopped => ?_
  rw [stopped] at runs
  cases runs

theorem State.serveChuteClear_refused (h : s.chute.state ≠ .fault ∨ allIdle s.chute.active = false) :
    s.serveChuteClear = s.refuse Kind.chuteClear .state := by
  unfold State.serveChuteClear
  split
  · next fault _ => exact if_neg fun idle => h.elim (absurd fault) fun busy => by rw [busy] at idle; cases idle
  · rfl

theorem State.serveChuteClear_cleared {k : FaultKind} (h : s.chute.state = .fault) (hk : s.chute.fault = some k)
    (idle : allIdle s.chute.active = true) : s.serveChuteClear =
      ((s.onCoils fun d => d.clearFault.divert .cashBox).faultClears).reply Kind.chuteClear (.chuteClear k) := by
  unfold State.serveChuteClear
  rw [h, hk]
  exact if_pos idle

end Ends

/-- CHUTE CLEAR's coils: the coil fault ended, the diverter at its rest (R55, R81), behind a frame, which moves EB alone. -/
theorem State.frameSeen_cleared (s : State) : s.frameSeen.coils.clearFault.divert .cashBox = { s.frameSeen.coils with
    coils := { s.frameSeen.coils.coils with dvt := s.coils.coils.dvt.release }
    command := .cashBox, target := if s.coils.coils.dvk.phase = .off then some false else none
    faulted := false, failed := ⟨false, false, false, false⟩ } := by
  rw [CoilDriver.divert_cashBox, s.frameSeen_coils]
  rfl

/-- Settles O51: each limit's end in its state, and the two clearings of a fault. -/
theorem chuteLimitsAndFaults : Obligations.ChuteLimitsAndFaults := by
  refine ⟨fun s => ⟨fun h => ⟨s.limit_none h _ _, s.limit_none h _ _, s.limit_none h _ _, s.limit_none h _ _⟩,
    fun a h => ⟨s.limit_active h _ _, s.limit_active h _ _, s.limit_active h _ _, s.limit_active h _ _⟩⟩, fun s hr => ?_,
    fun s => ⟨fun hr h ht => ?_, fun hr h => ?_, fun ht hp h => ?_, fun ht hp h idle k hk => ?_⟩⟩
  · intro faults
    have event {c : Instr} {f : State → State} (hc : exec c s = s.event f) : exec c s = .next (f s).transmit :=
      hc.trans (State.event_running f hr)
    have enters {c : Instr} {f : State → State} {k : FaultKind} (hc : exec c s = s.event f) (hf : f s = s.enterFault k)
        (hk : k ≠ .coil) : faults c k := ⟨_, event hc, hf ▸ State.enterFault_faulted k hk s⟩
    have still {c : Instr} {f : State → State} (hc : exec c s = s.event f) (hf : f s = s) : exec c s = .next s.transmit := by
      rw [event hc, hf]
    refine ⟨fun h => enters rfl (State.aLimitPasses_onA h) (by decide), fun h => enters rfl (State.aLimitPasses_onB h) (by decide),
      fun h => enters rfl (State.acceptWaitPasses_accepting h) (by decide),
      fun h => enters rfl (State.returnWaitPasses_returning h) (by decide), fun h => ?_,
      fun h1 h2 => still rfl (State.aLimitPasses_still h1 h2), fun h => still rfl (State.gapLimitPasses_still h),
      fun h => still rfl (State.acceptWaitPasses_still h), fun h => still rfl (State.returnWaitPasses_still h)⟩
    obtain ⟨v, hv, tested⟩ := State.returnCoin_tested ⟨s.chute.wA, 65535, 65535, 1023, 1023, .none, .giveBack⟩ s
    refine ⟨v, ?_, ?_⟩
    · rw [event (f := State.gapLimitPasses) rfl, State.gapLimitPasses_gap h, hv]
    · rw [returnedAfter_uncounted (by simp)] at tested
      exact tested
  · refine ⟨s.chuteToIdle, ?_, s.chuteToIdle_toIdle⟩
    have event : exec .idleWaitExpiry s = .next s.idleWaitPasses.transmit := State.event_running _ hr
    rw [event, State.idleWaitPasses_waited h ht]
    rfl
  · have event : exec .idleWaitExpiry s = .next s.idleWaitPasses.transmit := State.event_running _ hr
    rw [event, State.idleWaitPasses_still h]
  · rw [exec_gated rfl rfl ht hp, State.serveChuteClear_refused (by rwa [State.frameSeen_chute])]
  · refine ⟨State.chuteToIdle { s.frameSeen with coils := s.frameSeen.coils.clearFault.divert .cashBox }, ?_, ?_⟩
    · rw [exec_gated rfl rfl ht hp, State.serveChuteClear_cleared (k := k)]
      · rfl
      · rwa [State.frameSeen_chute]
      · rwa [State.frameSeen_chute]
      · rwa [State.frameSeen_chute]
    · rw [State.frameSeen_cleared]
      exact State.chuteToIdle_toIdle _

end Sys2Proof.Machine
end

section
/-! PROOFS. The end of a print job without its CUT DONE, and the wait before an ASK (R164, R168). -/

namespace Sys2Proof.Machine

theorem State.cutTimeout_still {s : State} (h : ∀ j, s.printer.job = some j → j.awaitCut = false) : s.cutTimeout = s := by
  unfold State.cutTimeout
  split
  · rfl
  · next j hj => exact if_neg (by rw [h j hj]; exact Bool.false_ne_true)

theorem State.cutTimeout_awaited {s : State} {j : Job} (hj : s.printer.job = some j) (h : j.awaitCut = true) :
    s.cutTimeout = s.jobEnds (some .cutLate) := by
  rw [State.cutTimeout, hj]
  exact if_pos h

/-- A print frame is on the M-line exactly in an exchange that the print unit owns (R12, R164). -/
theorem State.printInFlight_iff (s : State) : s.printInFlight = true ↔ ∃ x, s.exchange = some x ∧ x.owner.isPrint = true := by
  cases h : s.exchange with
  | none => simp [State.printInFlight, h]
  | some x => cases ho : x.owner <;> simp [State.printInFlight, Owner.isPrint, h, ho]

/-- The state after the 100 ms wait. -/
def State.askWaited (s : State) : State := { s with printer := { s.printer with askWait := false } }

theorem State.roomAskDelay_idle {s : State} (h : s.printer.askWait = false) : s.roomAskDelay = s :=
  if_neg (by rw [h]; exact Bool.false_ne_true)

theorem State.roomAskDelay_held {s : State} (h : s.printer.askWait = true) (hx : s.printInFlight = true) :
    s.roomAskDelay = s.askWaited := (if_pos h).trans (if_pos hx)

theorem State.roomAskDelay_owed {s : State} (h : s.printer.askWait = true) (hx : ¬s.printInFlight = true) :
    s.roomAskDelay = { s with printer := ({ s.printer with askWait := false } : Printer).duty } := (if_pos h).trans (if_neg hx)

/-- Settles O58: the late cut ends the job in AWAIT_CUT, and the wait's end gives the print unit its duty unless its frame is on the line. -/
theorem printJobEnds : Obligations.PrintJobEnds := by
  intro s hr
  have cut : exec .cutTimeout s = .next s.cutTimeout.transmit := State.event_running _ hr
  have delay : exec .roomAskDelay s = .next s.roomAskDelay.transmit := State.event_running _ hr
  refine ⟨fun h => by rw [cut, State.cutTimeout_still h], fun j hj h reserved => ⟨_, cut, ?_⟩,
    fun h => by rw [delay, State.roomAskDelay_idle h], fun h hx => ⟨_, ?_, Printer.duty_owes _⟩, fun h hx => ?_⟩
  · rw [State.cutTimeout_awaited hj h]
    exact State.jobEnds_ended j _ s hj reserved
  · have quiet : ¬s.printInFlight = true := fun on => by
      obtain ⟨x, exchange, owner⟩ := s.printInFlight_iff.1 on
      rw [hx x exchange] at owner
      cases owner
    rw [delay, State.roomAskDelay_owed h quiet]
  · rw [delay, State.roomAskDelay_held h (s.printInFlight_iff.2 hx)]
    rfl

end Sys2Proof.Machine
end

section
/-! PROOFS. VOUCHER and REPRINT (R157, R158, R169, R170). -/

namespace Sys2Proof.Machine

/-- No slot is free (R31). -/
theorem State.noSlot_iff (s : State) : s.freeSlots < 1 ↔ 11 ≤ generalCount s.reports + s.reserved := by
  rw [s.freeSlots_lt_iff (Nat.le_refl 1) (by decide)]
  exact Nat.succ_le_succ_iff

/-- The record of a voucher of the whole credit (R157). -/
def State.voucherRecord (s : State) : OpRecord :=
  ⟨.voucher, s.retained.txn + 1, s.clock.stamp, none, none, s.retained.ledger.c, 0, false, some 7, none⟩

/-- VOUCHER's checks in order, or its acceptance (R157). -/
theorem State.serveVoucher_eq (s : State) : s.serveVoucher =
    if s.part = .service then s.refuse Kind.voucher .service
    else if s.purchase ≠ .opened ∨ s.retained.ledger.c = 0 then s.refuse Kind.voucher .state
    else if 4294967295 ≤ s.retained.txn ∨ 65535 < s.retained.ledger.c.toNat then s.refuse Kind.voucher .range
    else if s.printPath 7 = false then s.refuse Kind.voucher .printer
    else if 11 ≤ generalCount s.reports + s.reserved then s.refuse Kind.voucher .busy
    else (((s.accepted s.voucherRecord 1).startJob .voucher (s.retained.txn + 1) 7
      (s.voucherRecord.voucherValues s.machineId)).entryTest).reply Kind.voucher (.voucher (s.retained.txn + 1) s.retained.ledger.c) := by
  unfold State.serveVoucher State.voucherRefusal
  simp only [Bool.not_eq_true', State.noSlot_iff, State.credit, Config.lastTransaction]
  split_ifs <;> rfl

/-- REPRINT's checks in order, or its job (R170). -/
theorem State.serveReprint_eq (s : State) : s.serveReprint =
    match s.retained.lastReceipt with
    | none => s.refuse Kind.reprint .state
    | some r =>
      if s.printPath 6 = false then s.refuse Kind.reprint .printer
      else (s.startJob .reprint r.txn 6 r.values).reply Kind.reprint (.reprint r.txn) := by
  unfold State.serveReprint
  cases s.retained.lastReceipt with
  | none => rfl
  | some r => cases s.printPath 6 <;> simp

/-- Settles O39: the refusals in order, and each job's start as what every job's start does. -/
theorem voucherAndReprintStartJobs : Obligations.VoucherAndReprintStartJobs := by
  intro s ht hp u c refused
  constructor
  · have served : exec .voucher s = .next u.serveVoucher.transmit := exec_gated rfl rfl ht hp
    rw [State.serveVoucher_eq, State.voucherRecord, State.frameSeen_part, State.frameSeen_purchase, State.frameSeen_retained,
      State.frameSeen_printPath, State.frameSeen_reserved, State.frameSeen_clock, State.frameSeen_machineId] at served
    split_ifs at served ⊢
    · exact served
    · exact served
    · exact served
    · exact served
    · exact served
    · exact ⟨_, _, served, State.startJob_started _ _ _ _ _, State.entryTest_tested _⟩
  · have served : exec .reprint s = .next u.serveReprint.transmit := exec_gated rfl rfl ht hp
    rw [State.serveReprint_eq, State.frameSeen_retained] at served
    cases hr : s.retained.lastReceipt with
    | none => rw [hr] at served; exact served
    | some r =>
      rw [hr] at served
      dsimp only at served ⊢
      rw [State.frameSeen_printPath] at served
      split_ifs at served ⊢
      · exact served
      · exact ⟨_, served, State.startJob_started _ _ _ _ _⟩

end Sys2Proof.Machine
end

section
/-! PROOFS. The plan of an amount, and CANCEL (R94, R148, R150, R156). -/

namespace Sys2Proof.Machine

/-! ## The plan (R148) -/

theorem State.plan_planned (s : State) (amount : Nat) : Planned s amount (s.plan amount).1 (s.plan amount).2 :=
  ⟨s.candidates, s.candidates_of, planOver_cases amount s.candidates⟩

/-- A plan and its shortfall are those of a pass over some of the candidates. -/
theorem State.plan_pass (s : State) (amount : Nat) :
    ∃ cs, (∀ c ∈ cs, c ∈ s.candidates) ∧ Pass cs amount (s.plan amount).1 (s.plan amount).2 := by
  rcases planOver_cases amount s.candidates with ⟨short, i, -, pass, -⟩ | ⟨-, pass⟩
  · rw [← short] at pass
    exact ⟨_, fun c hc => List.mem_of_mem_drop hc, pass⟩
  · exact ⟨_, fun c hc => hc, pass⟩

/-- A candidate's value is its tube's, and its count the tube's. -/
theorem State.mem_candidates {s : State} {c : Candidate} (h : c ∈ s.candidates) :
    s.tubeValue c.tube = some c.value ∧ c.count = s.retained.tubeCounts.get c.tube := by
  obtain ⟨tube, v, n⟩ := c
  obtain ⟨a, t, k, ha, ht, hu, hk, rfl, -, rfl, -⟩ := (s.candidates_of.members tube v n).1 h
  refine ⟨?_, rfl⟩
  have entry : s.tubeEntry tube = some t := (s.tubeEntry_some tube t).2 ⟨a, ha, ht, hu⟩
  have table : s.coinTable = some a.content := by rw [State.coinTable, ha]; rfl
  rw [State.tubeValue, table, entry]
  simp only [CoinTable.coin?, if_neg hu, hk, Option.map_some]

theorem State.plan_entries (s : State) (amount : Nat) : (∀ e ∈ (s.plan amount).1, 0 < e.coins ∧ e.counted = 0 ∧
      e.coins ≤ s.retained.tubeCounts.get e.tube ∧ s.tubeValue e.tube = some e.value) ∧
    ((s.plan amount).1.map fun e => e.coins * e.value).sum + (s.plan amount).2 = amount := by
  obtain ⟨cs, members, pass⟩ := s.plan_pass amount
  refine ⟨fun e he => ?_, pass.sound.2⟩
  obtain ⟨c, hc, tube, value, some, held, counted⟩ := pass.sound.1 e he
  obtain ⟨valued, count⟩ := State.mem_candidates (members c hc)
  rw [tube, value, ← count]
  exact ⟨some, counted, held, valued⟩

/-! ## CANCEL (R156) -/

/-- CANCEL's checks in order, or its payout (R156). -/
theorem State.serveCancel_eq (s : State) : s.serveCancel =
    if s.part = .service then s.refuse Kind.cancel .service
    else if s.purchase ≠ .opened ∨ s.retained.ledger.c = 0 then s.refuse Kind.cancel .state
    else if 11 ≤ generalCount s.reports + s.reserved then s.refuse Kind.cancel .busy
    else ((s.reserve 1).startPayout .cancel).reply Kind.cancel
      (.cancel s.retained.ledger.c (s.retained.ledger.c.toNat - (s.plan s.retained.ledger.c.toNat).2)
        (s.plan s.retained.ledger.c.toNat).2) := by
  unfold State.serveCancel
  simp only [State.noSlot_iff]

/-- Settles O38: the plan is what its passes make it, and CANCEL's payout is what every payout's start does. -/
theorem cancelPaysOutCredit : Obligations.CancelPaysOutCredit := by
  refine ⟨fun s amount => ⟨s.plan_planned amount, s.plan_entries amount⟩, fun s ht hp => ?_⟩
  intro u c plan held
  have served : exec .cancel s = .next u.serveCancel.transmit := exec_gated rfl rfl ht hp
  have reserve : u.reserve 1 = held := by
    show ({ u with reserved := u.reserved + 1 } : State) = _
    rw [State.frameSeen_reserved]
  have retained : held.retained = s.retained := s.frameSeen_retained
  have planned : held.plan c.toNat = plan := s.frameSeen_plan c.toNat
  have paid : PaidOut .cancel held (held.startPayout .cancel) := State.startPayout_paidOut .cancel held (Nat.succ_pos _)
  unfold PaidOut State.payoutEmpty at paid
  dsimp only at paid
  rw [retained, planned] at paid
  rw [State.serveCancel_eq, reserve, State.frameSeen_part, State.frameSeen_purchase, State.frameSeen_retained,
    State.frameSeen_reserved, State.frameSeen_plan] at served
  split_ifs at served ⊢
  · exact served
  · exact served
  · exact served
  · cases hplan : plan.1 with
    | cons e es => exact ⟨_, served, paid.1 e es hplan⟩
    | nil =>
      have short : plan.2 = c.toNat := planOver_nil _ _ hplan
      have whole : c.toNat - plan.2 = 0 := by rw [short, Nat.sub_self]
      exact ⟨short, _, whole ▸ served, paid.2 hplan⟩

end Sys2Proof.Machine
end

section
/-! PROOFS. TUBE and WRITE OFF (R96, R141, R145 to R147). -/

namespace Sys2Proof.Machine

/-! ## A tube's entry (R145, R147) -/

theorem State.tubeEntry_none {s : State} {i : Fin 4}
    (h : ∀ a t, ¬(s.retained.coin = some a ∧ a.content.tubes[i.val]? = some t ∧ t.coinKind ≠ 0)) : s.tubeEntry i = none := by
  cases he : s.tubeEntry i with
  | none => rfl
  | some t =>
    obtain ⟨a, used⟩ := (s.tubeEntry_some i t).1 he
    exact absurd used (h a t)

theorem State.tube_used {s : State} {i : Fin 4} {t : TubeEntry} (h : s.tubeEntry i = some t) :
    s.tubeCapacity i = t.capacity ∧ (s.isLow i = true ↔ s.tubeCount i ≤ t.lowMark) := by
  unfold State.tubeCapacity State.isLow
  rw [h]
  exact ⟨rfl, decide_eq_true_iff⟩

theorem State.tube_unused {s : State} {i : Fin 4} (h : s.tubeEntry i = none) : s.tubeCapacity i = 0 ∧ s.isLow i = false := by
  unfold State.tubeCapacity State.isLow
  rw [h]
  exact ⟨rfl, rfl⟩

theorem State.frameSeen_tubeCapacity (s : State) (i : Fin 4) : s.frameSeen.tubeCapacity i = s.tubeCapacity i := by
  unfold State.tubeCapacity State.tubeEntry State.coinTable
  rw [s.frameSeen_retained]

theorem State.frameSeen_tubeCount (s : State) (i : Fin 4) : s.frameSeen.tubeCount i = s.tubeCount i := by
  unfold State.tubeCount
  rw [s.frameSeen_retained]

/-- The flags of a state before an event are those of any state with its tubes. -/
theorem FlagsTested.of_tubes {before b u t : State} (h : FlagsTested before u t) (e : b.tubes = before.tubes) : FlagsTested b u t := by
  obtain ⟨frame, tubes, same, moved⟩ := h
  exact ⟨frame, tubes, by rwa [e], by rwa [e]⟩

/-! ## TUBE (R146) -/

/-- A state with a tube's count set and its fault cleared (R146). -/
def State.tubeSet (s : State) (i : Fin 4) (count : Nat) : State :=
  { s with
    retained := { s.retained with tubeCounts := s.retained.tubeCounts.set i count }
    tubes := s.tubes.set i { s.tubes.get i with faulted := false } }

theorem State.serveTube_ready {s : State} (n count : Nat) (h : s.part ≠ .service) :
    s.serveTube n count = s.refuse Kind.tube .service := if_pos h

theorem State.serveTube_noTube {s : State} {n : Nat} (count : Nat) (h : s.part = .service) (hn : n < 1 ∨ 4 < n) :
    s.serveTube n count = s.refuse Kind.tube .range := by
  unfold State.serveTube
  rw [if_neg (not_not_intro h), dif_neg (by omega)]

/-- TUBE's checks on a tube in order, or the count set (R146). -/
theorem State.serveTube_tube {s : State} (i : Fin 4) (count : Nat) (h : s.part = .service) : s.serveTube (i.val + 1) count =
    if s.retained.coin = none then s.refuse Kind.tube .table
    else if s.tubeCapacity i < count then s.refuse Kind.tube .range
    else if s.chute.state.coinInFlight = true then s.refuse Kind.tube .state
    else ((s.tubeSet i count).tubesChanged s).reply Kind.tube (.tube (s.tubeCount i) (s.tubes.get i).faulted) := by
  unfold State.serveTube
  rw [if_neg (not_not_intro h), dif_pos (by omega)]
  simp only [Nat.add_sub_cancel, Option.isNone_iff_eq_none]
  rfl

/-! ## WRITE OFF (R141) -/

/-- A state after an UNCERTAIN record is written off (R96, R141). -/
def State.writtenOff (s : State) (r : JournalRecord) (journal : List JournalRecord) : State :=
  { s with retained := { s.retained with
    journal := journal
    ledger := { s.retained.ledger with
      h := s.retained.ledger.h - r.amount, writtenOff := s.retained.ledger.writtenOff + r.amount } } }

theorem State.serveWriteOff_ready {s : State} (txn : Nat) (h : s.part ≠ .service) :
    s.serveWriteOff txn = s.refuse Kind.writeOff .service := if_pos h

theorem State.serveWriteOff_absent {s : State} {txn : Nat} (hp : s.part = .service)
    (h : ∀ r ∈ s.retained.journal, r.state = .uncertain → r.txn ≠ txn) : s.serveWriteOff txn = s.refuse Kind.writeOff .range := by
  have absent : (s.retained.journal.find? fun r => r.txn == txn && r.state == .uncertain) = none := by
    rw [List.find?_eq_none]
    intro r hr found
    rw [Bool.and_eq_true, beq_iff_eq, beq_iff_eq] at found
    exact h r hr found.2 found.1
  unfold State.serveWriteOff
  rw [if_neg (not_not_intro hp), absent]

theorem State.serveWriteOff_found {s : State} {r : JournalRecord} {before after : List JournalRecord} (hp : s.part = .service)
    (hj : s.retained.journal = before ++ r :: after) (hr : r.state = .uncertain) (others : ∀ x ∈ before ++ after, x.txn ≠ r.txn) :
    s.serveWriteOff r.txn =
      ({ s.writtenOff r (before ++ after) with
        reports := if (s.card.binding.map Binding.card) = some r.card
          then putFixed (.card ⟨(s.writtenOff r (before ++ after)).bindingReport, s.slots.map Slot.present, 0⟩) s.reports
          else s.reports }).reply Kind.writeOff (.writeOff r.card r.kind r.amount r.bonus) := by
  have found : (s.retained.journal.find? fun x => x.txn == r.txn && x.state == .uncertain) = some r := by
    rw [hj, List.find?_append, List.find?_eq_none.2, Option.none_or, List.find?_cons_of_pos]
    · rw [hr, beq_self_eq_true]
      rfl
    · intro x hx found
      rw [Bool.and_eq_true, beq_iff_eq] at found
      exact others x (List.mem_append_left _ hx) found.1
  have bound : ((s.writtenOff r (before ++ after)).card.binding.any fun b => b.card == r.card) = true ↔
      s.card.binding.map Binding.card = some r.card := by
    show (s.card.binding.any fun b => b.card == r.card) = true ↔ _
    cases s.card.binding <;> simp
  have dropped : (s.onJournal (dropRecord r.txn)).onLedger (Move.writeOff r.amount) = s.writtenOff r (before ++ after) := by
    unfold State.writtenOff
    rw [← dropRecord_split others, ← hj]
    rfl
  unfold State.serveWriteOff
  rw [if_neg (not_not_intro hp), found]
  dsimp only
  rw [dropped]
  by_cases hb : s.card.binding.map Binding.card = some r.card
  · rw [if_pos (bound.2 hb), if_pos hb, State.issueCard_eq]
    rfl
  · rw [if_neg (fun h => hb (bound.1 h)), if_neg hb]
    rfl

/-- Settles O40: what a tube's entry gives it, TUBE's checks and change, and WRITE OFF's record and money. -/
theorem tubeAndWriteOff : Obligations.TubeAndWriteOff := by
  refine ⟨fun s i => ⟨fun a t used => State.tube_used ((s.tubeEntry_some i t).2 ⟨a, used⟩),
    fun unused => State.tube_unused (State.tubeEntry_none unused)⟩, fun s ht hp => ?_⟩
  intro u
  refine ⟨fun n count => ?_, fun txn => ?_⟩
  · intro refused
    have served : exec (.tube n count) s = .next (u.serveTube n.toNat count.toNat).transmit := exec_gated rfl rfl ht hp
    have part : u.part = s.part := s.frameSeen_part
    refine ⟨fun h => ?_, fun h hn => ?_, fun h i hi => ?_⟩
    · rw [State.serveTube_ready _ _ (by rwa [part])] at served
      exact served
    · rw [State.serveTube_noTube _ (by rwa [part]) hn] at served
      exact served
    · rw [hi, State.serveTube_tube i _ (by rwa [part]), State.frameSeen_retained, State.frameSeen_tubeCapacity,
        State.frameSeen_tubeCount, State.frameSeen_chute, State.frameSeen_tubes] at served
      split_ifs at served ⊢
      · exact served
      · exact served
      · exact served
      · refine ⟨_, served, ?_⟩
        have after : u.tubeSet i count.toNat = { u with
            retained := { s.retained with tubeCounts := s.retained.tubeCounts.set i count.toNat }
            tubes := s.tubes.set i { s.tubes.get i with faulted := false } } := by
          unfold State.tubeSet
          rw [State.frameSeen_retained, State.frameSeen_tubes]
        rw [after]
        exact (State.tubesChanged_tested _ u).of_tubes s.frameSeen_tubes.symm
  · have served : exec (.writeOff txn) s = .next (u.serveWriteOff txn.toNat).transmit := exec_gated rfl rfl ht hp
    have part : u.part = s.part := s.frameSeen_part
    have retained : u.retained = s.retained := s.frameSeen_retained
    refine ⟨fun h => ?_, fun h absent => ?_, fun h r before after hj hr hn others => ?_⟩
    · rw [served, State.serveWriteOff_ready _ (by rwa [part])]
    · rw [served, State.serveWriteOff_absent (by rwa [part]) (by rwa [retained])]
    · intro w
      have written : u.writtenOff r (before ++ after) = w := by
        unfold State.writtenOff
        rw [retained]
      rw [served, ← hn, State.serveWriteOff_found (by rwa [part]) (by rwa [retained]) hr others, written,
        ← s.frameSeen_card, ← s.frameSeen_slots]

end Sys2Proof.Machine
end

section
/-! PROOFS. TOPUP and the greatest amount it would take (R134 to R137). -/

namespace Sys2Proof.Machine

/-! ## The greatest amount (R134) -/

/-- An amount that TOPUP's checks on it pass, under a FARE header and for a balance (R134, R135). -/
def TopupPasses (h : FareHeader) (balance a : Nat) : Prop :=
  h.minTopup ≤ a ∧ a % h.topupStep = 0 ∧ a ≤ 65535 ∧ balance + a + bonusOf h a ≤ h.maxBalance

/-- The search from a number of steps down finds the greatest of the multiples at or below it that pass, or 0. -/
theorem greatestFrom_spec (h : FareHeader) (balance n : Nat) :
    (∀ m, m ≤ n → h.minTopup ≤ m * h.topupStep → h.fitsBalance balance (m * h.topupStep) = true →
      m * h.topupStep ≤ greatestFrom h balance n) ∧
    (greatestFrom h balance n = 0 ∨ ∃ m, m ≤ n ∧ greatestFrom h balance n = m * h.topupStep ∧ h.minTopup ≤ m * h.topupStep ∧
      h.fitsBalance balance (m * h.topupStep) = true) := by
  induction n with
  | zero => exact ⟨fun m hm _ _ => by rw [Nat.le_zero.1 hm, Nat.zero_mul]; exact Nat.zero_le _, .inl rfl⟩
  | succ n ih =>
    obtain ⟨greatest, found⟩ := ih
    unfold greatestFrom
    dsimp only
    split
    · next low =>
      refine ⟨fun m hm least _ => ?_, .inl rfl⟩
      have below : m * h.topupStep ≤ (n + 1) * h.topupStep := Nat.mul_le_mul_right _ hm
      omega
    · next high =>
      split
      · next fits => exact ⟨fun m hm _ _ => Nat.mul_le_mul_right _ hm, .inr ⟨n + 1, Nat.le_refl _, rfl, Nat.not_lt.1 high, fits⟩⟩
      · next exceeds =>
        refine ⟨fun m hm least fits => ?_, found.imp_right fun ⟨m, hm, rest⟩ => ⟨m, Nat.le_succ_of_le hm, rest⟩⟩
        rcases Nat.lt_or_eq_of_le hm with lt | rfl
        · exact greatest m (Nat.le_of_lt_succ lt) least fits
        · exact absurd fits exceeds

theorem FareHeader.fitsBalance_iff (h : FareHeader) (balance a : Nat) :
    h.fitsBalance balance a = true ↔ balance + a + bonusOf h a ≤ h.maxBalance := decide_eq_true_iff

/-- The amount that a LIMIT refusal carries is the greatest that passes, or 0 (R134). -/
theorem greatestTopup_spec (h : FareHeader) (balance : Nat) :
    (∀ a, TopupPasses h balance a → a ≤ greatestTopup h balance) ∧
      (greatestTopup h balance = 0 ∨ TopupPasses h balance (greatestTopup h balance)) := by
  obtain ⟨greatest, found⟩ := greatestFrom_spec h balance (min 65535 (h.maxBalance - balance) / h.topupStep)
  constructor
  · rintro a ⟨least, multiple, bound, fits⟩
    have steps : a / h.topupStep * h.topupStep = a := Nat.div_mul_cancel (Nat.dvd_of_mod_eq_zero multiple)
    have within : a / h.topupStep ≤ min 65535 (h.maxBalance - balance) / h.topupStep :=
      Nat.div_le_div_right (Nat.le_min.2 ⟨bound, by omega⟩)
    exact steps ▸ greatest _ within (steps.symm ▸ least) (steps.symm ▸ (h.fitsBalance_iff _ _).2 fits)
  · refine found.imp_right fun ⟨m, hm, value, least, fits⟩ => ?_
    have bound : m * h.topupStep ≤ min 65535 (h.maxBalance - balance) :=
      (Nat.mul_le_mul_right _ hm).trans (Nat.div_mul_le_self _ _)
    unfold greatestTopup
    rw [value]
    exact ⟨least, Nat.mul_mod_left _ _, (Nat.le_min.1 bound).1, (h.fitsBalance_iff _ _).1 fits⟩

/-! ## TOPUP (R134 to R137) -/

/-- The record of an accepted TOPUP (R137). -/
def State.topupRecord (s : State) (amount : Word16) (receipt : Bool) (f : Active FareTable) : OpRecord :=
  ⟨.topup, s.retained.txn + 1, s.clock.stamp, some f.generation, none, amount.zeroExtend 32,
    BitVec.ofNat 32 (bonusOf f.content.header amount.toNat), receipt, if receipt then some 6 else none, some (s.retained.txn + 1)⟩

/-- The state an accepted TOPUP leaves, with its reply (R137). -/
def State.toppedUp (s : State) (amount : Word16) (receipt : Bool) (t : TopupTerms) : State :=
  let o := s.topupRecord amount receipt t.fare
  let balance := t.binding.balance + amount.toNat + t.bonus
  (((s.accepted o 2).writeStarted o t.binding (.balance balance)).entryTest).reply Kind.topup (.topup o.txn o.amount o.bonus balance)

theorem State.serveTopup_refused {s : State} {amount : Word16} {r : ReplyBody} (receipt : Bool)
    (h : s.topupChecks amount.toNat = .error r) : s.serveTopup amount receipt = s.reply Kind.topup r := by
  unfold State.serveTopup
  rw [h]

theorem State.serveTopup_accepted {s : State} {amount : Word16} {f : Active FareTable} {b : Binding} (receipt : Bool)
    (h : s.topupChecks amount.toNat = .ok ⟨f, b, bonusOf f.content.header amount.toNat⟩) :
    s.serveTopup amount receipt = s.toppedUp amount receipt ⟨f, b, bonusOf f.content.header amount.toNat⟩ := by
  unfold State.serveTopup
  rw [h]
  rfl

/-- No transaction number is left (R91). -/
theorem txnSpent_iff (n : Nat) : Config.lastTransaction ≤ n ↔ 4294967295 ≤ n := by
  unfold Config.lastTransaction
  exact Iff.rfl

theorem FareHeader.unfit_iff (h : FareHeader) (balance a : Nat) :
    h.fitsBalance balance a = false ↔ h.maxBalance < balance + a + bonusOf h a := by
  rw [← Bool.not_eq_true, h.fitsBalance_iff, Nat.not_le]

/-- TOPUP's checks on the bound card and the amount, in order (R134). -/
def State.topupOnCard (s : State) (a : Nat) (f : Active FareTable) (b : Binding) : Except ReplyBody TopupTerms :=
  let h := f.content.header
  if b.blocked = true ∨ s.hotlisted b.card = true then .error (.refused .blocked)
  else if s.journalTakes b.card = false then .error (.refused .journal)
  else if a < h.minTopup ∨ a % h.topupStep ≠ 0 then .error (.refused .range)
  else if s.credit < a then .error (.refusedSum .short a)
  else if h.maxBalance < b.balance + a + bonusOf h a then .error (.refusedLimit (greatestTopup h b.balance))
  else if 11 < generalCount s.reports + s.reserved + 2 then .error (.refused .busy)
  else .ok ⟨f, b, bonusOf h a⟩

/-- TOPUP's checks in order (R134). -/
theorem State.topupChecks_eq (s : State) (a : Nat) : s.topupChecks a =
    if s.part = .service then .error (.refused .service)
    else if s.purchase ≠ .opened then .error (.refused .state)
    else if 4294967295 ≤ s.retained.txn then .error (.refused .range)
    else match s.retained.fare, s.card.binding with
      | none, _ => .error (.refused .table)
      | some _, none => .error (.refused .noCard)
      | some f, some b => s.topupOnCard a f b := by
  unfold State.topupChecks State.topupOnCard
  cases s.retained.fare with
  | none => simp only [txnSpent_iff]
  | some f =>
    cases s.card.binding with
    | none => simp only [txnSpent_iff]
    | some b =>
      simp only [txnSpent_iff, Bool.or_eq_true, Bool.not_eq_true', f.content.header.unfit_iff,
        s.freeSlots_lt_iff (n := 2) (by decide) (by decide)]

/-- A check says of an outcome what each of its branches says. -/
theorem ite_of_branches {c : Prop} [Decidable c] {α : Type} {x y z : α} {P Q : Prop} (h : x = if c then y else z) (hp : x = y → P)
    (hq : x = z → Q) : if c then P else Q := by
  split_ifs at h ⊢
  · exact hp h
  · exact hq h

/-- Settles O37: the checks in order, the card write's start, and the greatest amount as the search finds it. -/
theorem topupCheckedAndAccepted : Obligations.TopupCheckedAndAccepted := by
  refine ⟨fun amount receipt s ht hp => ?_, fun h balance _ _ => greatestTopup_spec h balance⟩
  intro u a refused
  have served : exec (.topup amount receipt) s = .next (u.serveTopup amount receipt).transmit := exec_gated rfl rfl ht hp
  have stops {b : ReplyBody} (h : u.topupChecks a = .error b) : refused b := by
    rw [State.serveTopup_refused receipt h] at served
    exact served
  have checks := u.topupChecks_eq a
  rw [State.frameSeen_part, State.frameSeen_purchase, State.frameSeen_retained, State.frameSeen_card] at checks
  refine ite_of_branches checks stops fun checks => ite_of_branches checks stops fun checks =>
    ite_of_branches checks stops fun checks => ?_
  cases hf : s.retained.fare with
  | none =>
    rw [hf] at checks
    exact stops checks
  | some f =>
    cases hb : s.card.binding with
    | none =>
      rw [hf, hb] at checks
      exact stops checks
    | some b =>
      rw [hf, hb] at checks
      replace checks : u.topupChecks a = u.topupOnCard a f b := checks
      unfold State.topupOnCard at checks
      rw [State.frameSeen_hotlisted, State.frameSeen_journalTakes, State.frameSeen_credit, State.frameSeen_reserved] at checks
      refine ite_of_branches checks stops fun checks => ite_of_branches checks stops fun checks =>
        ite_of_branches checks stops fun checks => ite_of_branches checks stops fun checks =>
        ite_of_branches checks stops fun checks => ite_of_branches checks stops fun checks => ?_
      intro o
      have record : u.topupRecord amount receipt f = o := by
        unfold State.topupRecord
        rw [State.frameSeen_retained, State.frameSeen_clock]
        rfl
      rw [State.serveTopup_accepted receipt checks, State.toppedUp, record] at served
      exact ⟨_, served, State.entryTest_tested _⟩

end Sys2Proof.Machine
end

section
/-! PROOFS. SELL's first eleven checks, and what they ask (R39, R41, R42, R107 to R110, R115, R128). -/

namespace Sys2Proof.Machine

/-! ## What the checks ask -/

theorem State.hotlisted_none {s : State} (h : s.retained.hotlist = none) (card : Nat) : s.hotlisted card = false := by
  unfold State.hotlisted
  rw [h]

theorem Clock.stamp_invalid {c : Clock} (h : c.valid = false) : c.stamp = ⟨0, 0, 0, false⟩ :=
  if_neg (by rw [h]; exact Bool.false_ne_true)

theorem Clock.band_invalid {c : Clock} (h : c.valid = false) (f : FareTable) : c.band f = none :=
  if_neg (by rw [h]; exact Bool.false_ne_true)

theorem FareTable.factor_band {f : FareTable} {n : Nat} {b : Band} (h : f.bands[n - 1]? = some b) : f.factor (some n) = b.factor := by
  unfold FareTable.factor
  dsimp only
  rw [h]
  rfl

/-! ## The checks in order (R108) -/

/-- SELL's checks from its medium's on (R108, steps 7 to 16). -/
def State.sellOnMedium (s : State) (q : SellRequest) (f : Active FareTable) (p : Product) : Except ReplyBody SaleTerms :=
  match s.mediumChecks q.medium p s.clock.stamp with
  | .error r => .error r
  | .ok x => s.moneyChecks q.keepCredit (s.saleTerms q f p x.1 x.2)

/-- SELL's checks up to its medium's, in order (R108). -/
theorem State.sellChecks_eq (s : State) (q : SellRequest) : s.sellChecks q =
    if s.part = .service then .error (.refused .service)
    else if s.purchase = .busy ∨ s.purchase = .payout then .error (.refused .state)
    else if 4294967295 ≤ s.retained.txn then .error (.refused .range)
    else match s.retained.fare with
      | none => .error (.refused .table)
      | some f =>
        match f.content.product? q.product q.medium with
        | none => .error (.refused .product)
        | some p =>
          if q.zones < 1 ∨ p.maxZones < q.zones then .error (.refused .zones)
          else if p.validityDays ≠ 0 ∧ s.clock.valid = false then .error (.refused .range)
          else s.sellOnMedium q f p := by
  have working : (!(s.purchase == .idle || s.purchase == .opened)) = true ↔ s.purchase = .busy ∨ s.purchase = .payout := by
    cases s.purchase <;> decide
  unfold State.sellChecks State.sellOnMedium
  cases s.retained.fare with
  | none => simp only [txnSpent_iff, working]
  | some f =>
    dsimp only
    cases f.content.product? q.product q.medium with
    | none => simp only [txnSpent_iff, working]
    | some p =>
      simp only [txnSpent_iff, working, Clock.stamp_valid, Bool.not_eq_true']
      cases s.mediumChecks q.medium p s.clock.stamp with
      | error r => rfl
      | ok x => rfl

/-- A refusal of the medium's checks is SELL's (R108). -/
theorem State.sellOnMedium_refused {s : State} {q : SellRequest} {p : Product} {r : ReplyBody} (f : Active FareTable)
    (h : s.mediumChecks q.medium p s.clock.stamp = .error r) : s.sellOnMedium q f p = .error r := by
  unfold State.sellOnMedium
  rw [h]

theorem State.mediumChecks_noPath {s : State} {p : Product} (t : Timestamp) (h : s.printPath p.template = false) :
    s.mediumChecks .printed p t = .error (.refused .printer) :=
  if_neg (by rw [h]; exact Bool.false_ne_true)

theorem State.mediumChecks_noCard {s : State} (p : Product) (t : Timestamp) (h : s.card.binding = none) :
    s.mediumChecks .card p t = .error (.refused .noCard) := by
  unfold State.mediumChecks State.cardChecks
  rw [h]

/-- The checks on a bound card, in order; a running pass of another product is held (R108, R110, R115). -/
theorem State.mediumChecks_card {s : State} {b : Binding} (p : Product) (t : Timestamp) (h : s.card.binding = some b) :
    s.mediumChecks .card p t =
      if b.blocked = true ∨ s.hotlisted b.card = true then .error (.refused .blocked)
      else if s.journalTakes b.card = false then .error (.refused .journal)
      else match judgePass p.code t.day b.pass with
        | .held => .error (.refused .passHeld)
        | o => .ok (some b, o) := by
  unfold State.mediumChecks State.cardChecks
  rw [h]
  simp only [Bool.or_eq_true, Bool.not_eq_true']
  split_ifs
  · rfl
  · rfl
  · cases judgePass p.code t.day b.pass <;> rfl

theorem judgePass_held {code day : Nat} {x : PassSlot} (hd : day ≤ x.lastDay) (hp : x.product ≠ code) :
    judgePass code day (some x) = .held := (if_neg (Nat.not_lt.2 hd)).trans (if_neg hp)

theorem State.serveSell_refused {s : State} {q : SellRequest} {r : ReplyBody} (h : s.sellChecks q = .error r) :
    s.serveSell q = s.reply Kind.sell r := by
  unfold State.serveSell
  rw [h]

/-- Settles O34: what the searches and tests ask, and the checks in order. -/
theorem sellRefusedInOrder : Obligations.SellRefusedInOrder := by
  refine ⟨fun s card => ⟨fun h => State.hotlisted_none h card, fun a h sorted long => s.hotlisted_iff card a h sorted long,
    s.journalTakes_iff card⟩, State.printPath_iff, fun c f => ⟨fun h => ⟨Clock.stamp_invalid h, Clock.band_invalid h f⟩,
    fun h => ⟨if_pos h, fun n => c.band_some f h n, c.band_none f h⟩, rfl, fun n b h => FareTable.factor_band h⟩,
    FareTable.product?_iff, fun product zones concession m keep s ht hp => ?_⟩
  intro refused
  let q : SellRequest := ⟨product.toNat, zones.toNat, concession.val, m, keep⟩
  have served : exec (.sell product zones concession m keep) s = .next (s.frameSeen.serveSell q).transmit := exec_gated rfl rfl ht hp
  have stops {r : Reason} (h : s.frameSeen.sellChecks q = .error (.refused r)) : refused r := by
    rw [State.serveSell_refused h] at served
    exact served
  have checks := s.frameSeen.sellChecks_eq q
  rw [State.frameSeen_part, State.frameSeen_purchase, State.frameSeen_retained, State.frameSeen_clock] at checks
  refine ite_of_branches checks stops fun checks => ite_of_branches checks stops fun checks =>
    ite_of_branches checks stops fun checks => ?_
  cases hf : s.retained.fare with
  | none => rw [hf] at checks; exact stops checks
  | some f =>
    rw [hf] at checks
    dsimp only at checks ⊢
    cases hq : f.content.product? product.toNat m with
    | none => rw [show f.content.product? q.product q.medium = none from hq] at checks; exact stops checks
    | some p =>
      rw [show f.content.product? q.product q.medium = some p from hq] at checks
      refine ite_of_branches checks stops fun checks => ite_of_branches checks stops fun checks => ?_
      have stops {r : Reason} (h : s.mediumChecks m p s.clock.stamp = .error (.refused r)) : refused r := by
        refine stops (checks.trans (State.sellOnMedium_refused f ?_))
        rw [State.frameSeen_mediumChecks, State.frameSeen_clock]
        exact h
      cases m with
      | printed => exact fun h => stops (State.mediumChecks_noPath _ h)
      | card =>
        cases hb : s.card.binding with
        | none => exact stops (State.mediumChecks_noCard _ _ hb)
        | some b =>
          refine ite_of_branches (State.mediumChecks_card p _ hb) stops fun checks => ite_of_branches checks stops fun checks => ?_
          intro x hx day other
          rw [hx, judgePass_held day other] at checks
          exact stops checks

end Sys2Proof.Machine
end

section
/-! PROOFS. ACTIVATE (R26 to R28, R43). -/

namespace Sys2Proof.Machine

/-! ## The pending copies -/

theorem Loads.get_set (l : Loads) (x : Load) (k : TableKind) : (l.set x k).get k = x := by cases k <;> rfl

theorem Loads.set_set (l : Loads) (x y : Load) (k : TableKind) : (l.set x k).set y k = l.set y k := by cases k <;> rfl

/-- An activation leaves its kind's pending copy NONE (R28). -/
theorem Activated.loads {k : TableKind} {waited : Bool} {u t : State} (h : Activated k waited u t) : t.loads = u.loads.set .empty k := by
  cases k with
  | coin =>
    obtain ⟨v, w, p, flags, tested, -, same, moved⟩ := h
    have kept : t.loads = w.loads := by
      by_cases hw : w.causes = u.causes
      · rw [same hw]
      · rw [moved hw]
    rw [kept, tested.frame, flags.frame]
    rfl
  | fare =>
    rw [Tested.frame h]
    rfl
  | hotlist => rw [show t = _ from h]; rfl
  | passage => rw [show t = _ from h]; rfl
  | template => rw [show t = _ from h]; rfl

/-- A kind's copy after its schedule fell due: SCHEDULED and waiting where its block defers it, NONE else (R26, R27). -/
theorem FellDue.copy {k : TableKind} {u t : State} (h : FellDue k u t) :
    t.loads.get k = if u.defers k = true then { u.loads.get k with fallen := true } else .empty := by
  obtain ⟨waits, activates⟩ := h
  cases hd : u.defers k with
  | true =>
    rw [if_pos rfl, waits hd]
    exact Loads.get_set _ _ k
  | false =>
    rw [if_neg Bool.false_ne_true, (activates hd).loads]
    exact Loads.get_set _ _ k

/-! ## The checks (R26) -/

/-- An AT point's second is one of a day (R26). -/
def dueInDay (due : Due) : Prop := ∀ d sec, due = .at d sec → sec.toNat ≤ 86399

theorem activateRefusal_late {due : Due} (k : TableKind) (g : Nat) (s : State) (h : ¬dueInDay due) :
    activateRefusal k g due s = some .range := by
  match due, h with
  | .now, h => exact absurd (fun _ _ e => by cases e) h
  | .at d sec, h =>
    refine if_pos (decide_eq_true (Nat.lt_of_not_le fun early => h fun _ _ e => ?_))
    cases e
    exact early

theorem activateRefusal_inDay {due : Due} (k : TableKind) (g : Nat) (s : State) (h : dueInDay due) : activateRefusal k g due s =
    if (s.loads.get k).st ≠ .ready ∨ (s.loads.get k).generation ≠ g then some .table
    else if generalCount s.reports + s.reserved < 11 then none else some .busy := by
  have full : s.freeSlots < 1 ↔ ¬generalCount s.reports + s.reserved < 11 := by rw [s.noSlot_iff, Nat.not_lt]
  unfold activateRefusal
  match due, h with
  | .now, _ =>
    simp only [Bool.false_eq_true, if_false, full, ite_not]
  | .at d sec, h =>
    have early : ¬86399 < sec.toNat := Nat.not_lt.2 (h d sec rfl)
    simp only [decide_eq_true_eq, early, if_false, full, ite_not]

/-! ## The schedule (R26, R43) -/

/-- The state in which an accepted ACTIVATE's schedule stands, its slot reserved (R26). -/
def State.activating (s : State) (k : TableKind) (due : Due) : State :=
  { s with
    loads := s.loads.set { s.loads.get k with st := .scheduled, due := duePoint due, fallen := false } k
    reserved := s.reserved + 1 }

theorem State.activating_copy (s : State) (k : TableKind) (due : Due) : (s.activating k due).loads.get k =
    { s.loads.get k with st := .scheduled, due := duePoint due, fallen := false } := Loads.get_set _ _ k

/-- A new AT schedule falls due where the valid clock is at or past its point (R43). -/
theorem State.activating_due (s : State) (k : TableKind) (due : Due) : (s.activating k due).fallsDue k = true ↔
    ∃ d sec, due = .at d sec ∧ s.clock.valid = true ∧ (d.toNat < s.clock.day ∨ (d.toNat = s.clock.day ∧ sec.toNat ≤ s.clock.second)) := by
  rw [State.fallsDue_dueNow, State.dueNow, State.activating_copy]
  match due with
  | .now =>
    refine iff_of_false Bool.false_ne_true ?_
    rintro ⟨d, sec, e, -⟩
    cases e
  | .at d sec =>
    refine decide_eq_true_iff.trans ⟨fun ⟨_, _, valid, past⟩ => ⟨d, sec, rfl, valid, past⟩, ?_⟩
    rintro ⟨d', sec', e, valid, past⟩
    cases e
    exact ⟨rfl, rfl, valid, past⟩

section Serve
variable {k : TableKind} {g : Word16} {due : Due} {s : State}

theorem State.serveActivate_refused {r : Reason} (h : activateRefusal k g.toNat due s = some r) :
    s.serveActivate k g due = s.refuse Kind.activate r := by
  unfold State.serveActivate
  rw [h]

theorem State.serveActivate_scheduled (h : activateRefusal k g.toNat due s = none)
    (hd : ¬(due = .now ∨ (s.activating k due).fallsDue k = true)) :
    s.serveActivate k g due = (s.activating k due).reply Kind.activate (.activate .scheduled .scheduled) := by
  have served : s.serveActivate k g due = (s.activating k due).reply Kind.activate
      (.activate ((s.activating k due).loads.get k).st ((s.activating k due).loads.get k).outcome) := by
    unfold State.serveActivate
    rw [h]
    dsimp only
    exact congrArg (fun t : State => t.reply Kind.activate (.activate (t.loads.get k).st (t.loads.get k).outcome)) (if_neg hd)
  rw [served, State.activating_copy]
  rfl

theorem State.serveActivate_due (h : activateRefusal k g.toNat due s = none)
    (hd : due = .now ∨ (s.activating k due).fallsDue k = true) :
    s.serveActivate k g due = ((s.activating k due).fallDue k).reply Kind.activate
      (if (s.activating k due).defers k = true then .activate .scheduled .deferred else .activate .none .done) := by
  have served : s.serveActivate k g due = ((s.activating k due).fallDue k).reply Kind.activate
      (.activate (((s.activating k due).fallDue k).loads.get k).st (((s.activating k due).fallDue k).loads.get k).outcome) := by
    unfold State.serveActivate
    rw [h]
    dsimp only
    exact congrArg (fun t : State => t.reply Kind.activate (.activate (t.loads.get k).st (t.loads.get k).outcome)) (if_pos hd)
  rw [served, (State.fallDue_fellDue k _).copy, State.activating_copy]
  cases (s.activating k due).defers k <;> rfl

end Serve

/-- An installation with a slot reserved issues TABLE in it (R28). -/
theorem State.installed_reserved {u : State} (k : TableKind) (waited : Bool) (h : 0 < u.reserved) : u.installed k waited =
    { u with
      retained := Retained.install k (u.loads.get k) u.retained, loads := u.loads.set .empty k
      reports := u.reports ++ [.table ⟨k, (u.loads.get k).generation, u.retained.generation k, u.clock.day, u.clock.second,
        u.clock.valid, waited⟩]
      reserved := u.reserved - 1 } := by
  unfold State.installed
  simp only [h, decide_true, Bool.true_or, if_true]
  rfl

/-- The activation of a HOTLIST or PASSAGE copy at once installs it, with TABLE, and leaves every other block as it is (R27, R28). -/
theorem State.activating_installed (s : State) (k : TableKind) (due : Due) (h : k = .hotlist ∨ k = .passage) :
    (s.activating k due).fallDue k = { s with
      retained := Retained.install k (s.loads.get k) s.retained, loads := s.loads.set .empty k
      reports := s.reports ++ [.table ⟨k, (s.loads.get k).generation, s.retained.generation k, s.clock.day, s.clock.second,
        s.clock.valid, false⟩] } := by
  have fell := (s.activating k due).fallDue_fellDue k
  rcases h with rfl | rfl
  · rw [show _ = _ from fell.2 rfl, State.installed_reserved _ _ (Nat.succ_pos _)]
    rfl
  · rw [show _ = _ from fell.2 rfl, State.installed_reserved _ _ (Nat.succ_pos _)]
    rfl

/-- Settles O30: the refusals in order, the schedule that stands, and the one that falls due as FellDue says. -/
theorem activateTakesCopyIntoService : Obligations.ActivateTakesCopyIntoService := by
  intro k g due s ht hp u l inRange free reached scheduled
  have served : exec (.activate k g due) s = .next (u.serveActivate k g due).transmit := exec_gated rfl rfl ht hp
  have loads : u.loads = s.loads := s.frameSeen_loads
  have activating : u.activating k due = scheduled := by
    unfold State.activating
    rw [loads, State.frameSeen_reserved]
  have room : generalCount u.reports + u.reserved < 11 ↔ free := by rw [State.frameSeen_reserved]
  have passed (hr : inRange) (h1 : l.st = .ready) (h2 : l.generation = g.toNat) (hf : free) :
      activateRefusal k g.toNat due u = none := by
    rw [activateRefusal_inDay k _ u hr, loads, if_neg (not_or.2 ⟨not_not_intro h1, not_not_intro h2⟩), if_pos (room.2 hf)]
  have falls : due = .now ∨ (u.activating k due).fallsDue k = true ↔ reached := by
    rw [State.activating_due, State.frameSeen_clock]
  have defers : (u.activating k due).defers k = s.defers k := by
    cases k with
    | coin => exact congrArg (fun c : Chute => decide (c.state ≠ .idle)) s.frameSeen_chute
    | template => exact congrArg (fun p : Printer => p.job.isSome) s.frameSeen_printer
    | fare => rfl
    | hotlist => rfl
    | passage => rfl
  refine ⟨fun h => ?_, fun hr h => ?_, fun hr h1 h2 hf => ?_, fun hr h1 h2 hf => ⟨fun h => ?_, fun h => ?_, fun h hk => ?_⟩⟩
  · rw [served, State.serveActivate_refused (activateRefusal_late k _ u h)]
  · rw [served, State.serveActivate_refused]
    rw [activateRefusal_inDay k _ u hr, loads, if_pos h]
  · rw [served, State.serveActivate_refused]
    rw [activateRefusal_inDay k _ u hr, loads, if_neg (not_or.2 ⟨not_not_intro h1, not_not_intro h2⟩), if_neg fun n => hf (room.1 n)]
  · rw [served, State.serveActivate_scheduled (passed hr h1 h2 hf) fun n => h (falls.1 n), activating]
  · refine ⟨_, State.fallDue_fellDue k scheduled, ?_⟩
    rw [served, State.serveActivate_due (passed hr h1 h2 hf) (falls.2 h), defers, activating]
  · have waits : s.defers k = false := by rcases hk with rfl | rfl <;> rfl
    rw [served, State.serveActivate_due (passed hr h1 h2 hf) (falls.2 h), defers, waits, if_neg Bool.false_ne_true,
      State.activating_installed u k due hk, loads, State.frameSeen_retained, State.frameSeen_clock,
      show (s.loads.get k).generation = g.toNat from h2]
    rcases hk with rfl | rfl
    · rw [Retained.install, show (s.loads.get .hotlist).generation = g.toNat from h2]
      rfl
    · rw [Retained.install, show (s.loads.get .passage).generation = g.toNat from h2]
      rfl

end Sys2Proof.Machine
end

section
/-! PROOFS. LOAD (R22 to R24). -/

namespace Sys2Proof.Machine

/-! ## The checks (R23) -/

/-- What the first RANGE check of a LOAD asks (R23). -/
def LoadInRange (k : TableKind) (g : Word16) (index total : Byte) (count : Word16) : Prop :=
  g ≠ 0 ∧ total ≠ 0 ∧ index.toNat < total.toNat ∧ (index = 0 → count.toNat ≤ entryLimit k)

theorem bitVec_toNat_zero {w : Nat} (b : BitVec w) : b.toNat = 0 ↔ b = 0#w :=
  ⟨fun h => BitVec.eq_of_toNat_eq h, fun h => by rw [h]; rfl⟩

theorem loadInRange_iff (k : TableKind) (g : Word16) (index total : Byte) (count : Word16) :
    (g.toNat = 0 ∨ total.toNat = 0 ∨ total.toNat ≤ index.toNat ∨ (index.toNat = 0 ∧ entryLimit k < count.toNat)) ↔
      ¬LoadInRange k g index total count := by
  unfold LoadInRange
  rw [bitVec_toNat_zero, bitVec_toNat_zero, bitVec_toNat_zero]
  constructor
  · rintro (h | h | h | ⟨h1, h2⟩) ⟨generation, some, within, entries⟩
    · exact generation h
    · exact some h
    · omega
    · exact Nat.not_le.2 h2 (entries h1)
  · intro h
    by_contra other
    simp only [not_or, not_and, Nat.not_le, Nat.not_lt] at other
    exact h other

section Refusals
variable {k : TableKind} {g : Word16} {index total : Byte} {count : Word16} {es : List (List Byte)} {s : State}

theorem loadRefusal_scheduled (h1 : (s.loads.get k).st = .scheduled) :
    loadRefusal k g.toNat index.toNat total.toNat count.toNat es s = some .state := if_pos h1

variable (h1 : (s.loads.get k).st ≠ .scheduled)
include h1

theorem loadRefusal_outOfRange (h2 : ¬LoadInRange k g index total count) :
    loadRefusal k g.toNat index.toNat total.toNat count.toNat es s = some .range :=
  (if_neg h1).trans (if_pos ((loadInRange_iff ..).2 h2))

variable (h2 : LoadInRange k g index total count)
include h2

theorem loadRefusal_inRange : loadRefusal k g.toNat index.toNat total.toNat count.toNat es s =
    if s.retained.generation k = some g.toNat then some .table
    else if (s.loads.get k).isSame g.toNat = true ∧ (s.loads.get k).total ≠ total.toNat then some .range
    else if entryLimit k < entriesHeld ((s.loads.get k).segmentsWith g.toNat ⟨index.toNat, es⟩) then some .range
    else none :=
  (if_neg h1).trans (if_neg fun h => (loadInRange_iff ..).1 h h2)

theorem loadRefusal_active (h3 : s.retained.generation k = some g.toNat) :
    loadRefusal k g.toNat index.toNat total.toNat count.toNat es s = some .table :=
  (loadRefusal_inRange h1 h2).trans (if_pos h3)

variable (h3 : s.retained.generation k ≠ some g.toNat)
include h3

theorem loadRefusal_otherTotal (h4 : (s.loads.get k).isSame g.toNat = true) (h5 : (s.loads.get k).total ≠ total.toNat) :
    loadRefusal k g.toNat index.toNat total.toNat count.toNat es s = some .range :=
  (loadRefusal_inRange h1 h2).trans ((if_neg h3).trans (if_pos ⟨h4, h5⟩))

variable (h4 : (s.loads.get k).isSame g.toNat = true → (s.loads.get k).total = total.toNat)
include h4

theorem loadRefusal_entries : loadRefusal k g.toNat index.toNat total.toNat count.toNat es s =
    if entryLimit k < entriesHeld ((s.loads.get k).segmentsWith g.toNat ⟨index.toNat, es⟩) then some .range else none :=
  (loadRefusal_inRange h1 h2).trans ((if_neg h3).trans (if_neg fun n => n.2 (h4 n.1)))

end Refusals

theorem Load.isSame_iff (l : Load) (g : Nat) : l.isSame g = true ↔ l.st ≠ .none ∧ l.generation = g := by
  rw [Load.isSame, Bool.and_eq_true, bne_iff_ne, beq_iff_eq]

/-! ## The copy an accepted LOAD leaves (R22 to R24) -/

/-- A LOAD that passes the FORMAT check outside UNSET is served (R23). -/
theorem exec_load_taken {k : TableKind} {g : Word16} {index total : Byte} {check count : Word16} {es : List Byte} {s : State}
    (ht : TakesFrames s) (hp : s.part ≠ .unset) (h : loadFormatOk k g.toNat index.toNat es (s.loads.get k) = true) :
    exec (.load k g index total check count es) s =
      .next (s.frameSeen.serveLoad k g.toNat index.toNat total.toNat check.toNat count.toNat es).transmit := by
  have taken : s.frameSeen.takeLoad k g index total check count es =
      s.frameSeen.serveLoad k g.toNat index.toNat total.toNat check.toNat count.toNat es := by
    unfold State.takeLoad
    rw [State.frameSeen_loads, h, State.frameSeen_part, if_neg hp]
    rfl
  exact taken ▸ exec_request rfl ht

/-- A copy FILLING with segments held (R22). -/
def fillingCopy (g t : Nat) (held : List Segment) (head : Option (Nat × Nat)) : Load :=
  ⟨.filling, g, t, held, head, none, .now, false⟩

/-- What validation finds in the entries of a copy's segments (R24). -/
def foundIn (k : TableKind) (held : List Segment) (head : Option (Nat × Nat)) : Option (BadReason × Nat) :=
  validate k ((head.map Prod.fst).getD 0) ((head.map Prod.snd).getD 0) (held.flatMap Segment.entries)

/-- The check and count a copy holds after a segment: those of segment 0 (R22). -/
def Load.headWith (l : Load) (g i c n : Nat) : Option (Nat × Nat) :=
  if i = 0 then some (c, n) else if l.isSame g then l.head else none

/-- A LOAD leaves its copy FILLING while an index is missing, and READY or BAD as validation finds it once complete (R23, R24). -/
theorem Load.added_eq (k : TableKind) (g i t c n : Nat) (es : List (List Byte)) (l : Load) :
    let held := l.segmentsWith g ⟨i, es⟩
    let head := l.headWith g i c n
    l.added k g i t c n es =
      if held.length = t then { fillingCopy g t held head with
        st := if foundIn k held head = none then .ready else .bad, bad := foundIn k held head }
      else fillingCopy g t held head := by
  intro held head
  unfold Load.added
  refine if_congr Iff.rfl ?_ rfl
  show (match foundIn k held head with
    | none => _
    | some b => _) = _
  cases foundIn k held head with
  | none => rfl
  | some b => rfl

section Served
variable {k : TableKind} {g i t c n : Nat} {bytes : List Byte} {s : State}

theorem State.serveLoad_refused {r : Reason} (h : loadRefusal k g i t n (entriesOf k bytes) s = some r) :
    s.serveLoad k g i t c n bytes = s.reply Kind.load (.refusedLoad r (s.loads.get k).view) := by
  unfold State.serveLoad
  dsimp only
  rw [h]
  rfl

theorem State.serveLoad_added (h : loadRefusal k g i t n (entriesOf k bytes) s = none) :
    let l := (s.loads.get k).added k g i t c n (entriesOf k bytes)
    s.serveLoad k g i t c n bytes = ({ s with loads := s.loads.set l k } : State).reply Kind.load (.load l.view) := by
  unfold State.serveLoad
  dsimp only
  rw [h]
  rfl

end Served

/-- A frame leaves what LOAD's checks ask as it is. -/
theorem State.frameSeen_loadRefusal (k : TableKind) (g i t n : Nat) (es : List (List Byte)) (s : State) :
    loadRefusal k g i t n es s.frameSeen = loadRefusal k g i t n es s := by
  unfold loadRefusal
  rw [State.frameSeen_loads, State.frameSeen_retained]

/-- Settles O27: each refusal where its check is the first to fail, and the accepted segment's copy with validation's finding. -/
theorem loadAddsSegment : Obligations.LoadAddsSegment := by
  intro k g index total check count es s ht hp hform l same inRange held refused
  have served := exec_load_taken (index := index) (total := total) (check := check) (count := count) ht hp hform
  have refuses {r : Reason} (h : loadRefusal k g.toNat index.toNat total.toNat count.toNat (entriesOf k es) s = some r) : refused r := by
    rw [State.serveLoad_refused ((State.frameSeen_loadRefusal ..).trans h), State.frameSeen_loads] at served
    exact served
  refine ⟨fun h1 => refuses (loadRefusal_scheduled h1), fun h1 h2 => refuses (loadRefusal_outOfRange h1 h2),
    fun h1 h2 h3 => refuses (loadRefusal_active h1 h2 h3),
    fun h1 h2 h3 h4 h5 => refuses (loadRefusal_otherTotal h1 h2 h3 ((l.isSame_iff _).2 h4) h5), fun h1 h2 h3 h4 => ?_⟩
  have entries := loadRefusal_entries (es := entriesOf k es) h1 h2 h3 fun h => h4 ((l.isSame_iff _).1 h)
  refine ⟨fun h5 => refuses (entries.trans (if_pos h5)), fun h5 => ?_⟩
  refine ⟨l.added k g.toNat index.toNat total.toNat check.toNat count.toNat (entriesOf k es), ?_, ?_⟩
  · rw [State.serveLoad_added ((State.frameSeen_loadRefusal ..).trans (entries.trans (if_neg (Nat.not_lt.2 h5)))),
      State.frameSeen_loads] at served
    exact served
  · have first : index = 0 → l.headWith g.toNat index.toNat check.toNat count.toNat = some (check.toNat, count.toNat) := fun h =>
      if_pos ((bitVec_toNat_zero index).2 h)
    have later : index ≠ 0 → l.headWith g.toNat index.toNat check.toNat count.toNat =
        if l.isSame g.toNat then l.head else none := fun h => if_neg (mt (bitVec_toNat_zero index).1 h)
    rw [l.added_eq]
    by_cases complete : (l.segmentsWith g.toNat ⟨index.toNat, entriesOf k es⟩).length = total.toNat
    · rw [if_pos complete]
      exact ⟨rfl, rfl, rfl, rfl, rfl, first, later, fun missing => absurd complete missing, fun _ => ⟨rfl, rfl⟩⟩
    · rw [if_neg complete]
      exact ⟨rfl, rfl, rfl, rfl, rfl, first, later, fun _ => ⟨rfl, rfl⟩, fun all => absurd all complete⟩

end Sys2Proof.Machine
end

section
/-! PROOFS. The validation of a complete copy (R24, R40, R67 to R69, R103 to R106, R128, R159). -/

namespace Sys2Proof.Machine

/-! ## The first entry that fails (R24) -/

theorem firstFailing_none_iff (ok : List (List Byte) → Nat → List Byte → Bool) (es : List (List Byte)) :
    firstFailing ok es = none ↔ AllPass ok es := by
  unfold firstFailing
  rw [Option.map_eq_none_iff, List.find?_eq_none]
  constructor
  · intro h n hn
    have passed := h (es[n], n) (List.mem_iff_getElem.2 ⟨n, by simpa using hn, by simp⟩)
    simpa using passed
  · rintro h ⟨e, n⟩ he
    obtain ⟨hn, rfl⟩ := List.mk_mem_zipIdx_iff_getElem?.1 he |> List.getElem?_eq_some_iff.1
    simpa using h n hn

theorem firstFailing_some_iff (ok : List (List Byte) → Nat → List Byte → Bool) (es : List (List Byte)) (n : Nat) :
    firstFailing ok es = some n ↔ FirstFails ok es n := by
  unfold firstFailing
  rw [Option.map_eq_some_iff]
  constructor
  · rintro ⟨p, found, rfl⟩
    obtain ⟨fails, i, hi, hp, before⟩ := List.find?_eq_some_iff_getElem.1 found
    have at_i : p = (es[i]'(by simpa using hi), i) := by rw [← hp]; simp
    subst at_i
    exact ⟨by simpa using hi, by simpa using fails, fun m hm => by simpa using before m hm⟩
  · rintro ⟨hn, fails, before⟩
    refine ⟨(es[n], n), List.find?_eq_some_iff_getElem.2 ⟨by simpa using fails, n, by simpa using hn, by simp, fun m hm => ?_⟩, rfl⟩
    simpa using before m hm

/-! ## The order of the reasons (R24) -/

/-- The first reason of four, each with the position its check gives. -/
def firstReason (f w o l : Option Nat) : Option (BadReason × Nat) :=
  (f.map fun p => (BadReason.field, p)).orElse fun _ => (w.map fun p => (BadReason.window, p)).orElse fun _ =>
    (o.map fun p => (BadReason.order, p)).orElse fun _ => l.map fun p => (BadReason.floor, p)

theorem validate_eq (k : TableKind) (check count : Nat) (es : List (List Byte)) : validate k check count es =
    if byteSum es.flatten % 65536 ≠ check then some (.check, 0)
    else if countOk k count es = false then some (.count, 0)
    else firstReason (firstFailing (fieldOk k) es) (firstFailing (windowOk k) es) (firstFailing (orderOk k) es)
      (firstFailing (floorOk k) es) := by
  unfold validate
  simp only [Bool.not_eq_true']
  rfl

/-- Each reason is given exactly where its check is the first to fail. -/
theorem firstReason_iff (f w o l : Option Nat) :
    (firstReason f w o l = none ↔ f = none ∧ w = none ∧ o = none ∧ l = none) ∧
    (∀ n, firstReason f w o l ≠ some (.check, n) ∧ firstReason f w o l ≠ some (.count, n)) ∧
    (∀ n, firstReason f w o l = some (.field, n) ↔ f = some n) ∧
    (∀ n, firstReason f w o l = some (.window, n) ↔ f = none ∧ w = some n) ∧
    (∀ n, firstReason f w o l = some (.order, n) ↔ f = none ∧ w = none ∧ o = some n) ∧
    (∀ n, firstReason f w o l = some (.floor, n) ↔ f = none ∧ w = none ∧ o = none ∧ l = some n) := by
  cases f with
  | some a => simp [firstReason]
  | none =>
    cases w with
    | some a => simp [firstReason]
    | none =>
      cases o with
      | some a => simp [firstReason]
      | none => cases l <;> simp [firstReason]

theorem countOk_iff (k : TableKind) (count : Nat) (es : List (List Byte)) : countOk k count es = true ↔
    es.length = count ∧ (∀ n, fixedCount k = some n → es.length = n) ∧
      (k = .fare → es.length = 9 + byteAt (es.headD []) 2 + byteAt (es.headD []) 3) := by
  unfold countOk
  rw [Bool.and_eq_true, Bool.and_eq_true, beq_iff_eq, and_assoc]
  refine and_congr Iff.rfl (and_congr ?_ ?_)
  · cases fixedCount k <;> simp
  · rw [Bool.or_eq_true, bne_iff_ne, beq_iff_eq, ← imp_iff_not_or]

/-! ## The FIELD checks (R40, R67 to R69, R103 to R106, R159) -/

theorem zeroOr_iff (lo hi x : Nat) : zeroOr lo hi x = true ↔ x = 0 ∨ (lo ≤ x ∧ x ≤ hi) := by
  simp [zeroOr]

theorem driveOk_iff (e : List Byte) (p : Nat) : driveOk (parseDrive e p) = true ↔
    field p 2 e ≤ 10000 ∧ field (p + 2) 2 e ≤ 10000 ∧ 1 ≤ byteAt e (p + 4) ∧ byteAt e (p + 4) ≤ 100 := by
  unfold driveOk parseDrive
  simp only [Bool.and_eq_true, decide_eq_true_eq, and_assoc]

theorem coinHeaderOk_iff (e : List Byte) : coinHeaderOk (parseCoinHeader e) = true ↔ CoinHeaderInRange e := by
  unfold coinHeaderOk parseCoinHeader PerCoil.toList CoinHeaderInRange
  simp only [Bool.and_eq_true, decide_eq_true_eq, zeroOr_iff, List.all_cons, List.all_nil, driveOk_iff, List.forall_mem_cons,
    List.not_mem_nil, false_imp_iff, implies_true, and_true, and_assoc]

theorem coinEntryOk_iff (e : List Byte) : coinEntryOk e = true ↔ CoinEntryInRange e := by
  unfold coinEntryOk parseCoinEntry CoinEntryInRange
  simp only [Bool.and_eq_true, decide_eq_true_eq, List.forall_mem_cons, List.not_mem_nil, false_imp_iff, implies_true, true_and,
    and_assoc]

/-- The flags of two conditions are the same exactly where the conditions are. -/
theorem beq_flags_iff (a b : Nat) : (a == 0) = (b == 0) ↔ (a = 0 ↔ b = 0) := by
  rw [Bool.eq_iff_iff, beq_iff_eq, beq_iff_eq]

/-- No tube entry before a place names a coin kind (R69). -/
theorem tubes_before (es : List (List Byte)) (n : Nat) (h : n ≤ es.length) (k : Nat) :
    ((((es.take n).drop 13).map parseTubeEntry).any fun u => u.coinKind == k) = false ↔
      ∀ m, 13 ≤ m → m < n → byteAt (es.getD m []) 0 ≠ k := by
  rw [List.any_map]
  simpa [parseTubeEntry] using any_before es n 13 h fun x => byteAt x 0 == k

theorem tubeEntryOk_iff (es : List (List Byte)) (n : Nat) (h : n ≤ es.length) (e : List Byte) :
    tubeEntryOk (((es.take n).drop 13).map parseTubeEntry) (parseTubeEntry e) = true ↔ TubeEntryInRange es n e := by
  unfold tubeEntryOk TubeEntryInRange
  simp only [Bool.and_eq_true, Bool.or_eq_true, Bool.not_eq_true', decide_eq_true_eq, beq_iff_eq (α := Bool),
    beq_flags_iff, tubes_before es n h, beq_iff_eq (α := Nat), or_iff_not_imp_left, and_assoc]
  exact Iff.rfl

theorem fareHeaderOk_iff (e : List Byte) : fareHeaderOk (parseFareHeader e) = true ↔ FareHeaderInRange e := by
  unfold fareHeaderOk parseFareHeader FareHeaderInRange
  simp only [Bool.and_eq_true, decide_eq_true_eq, and_assoc]

theorem parseProduct_printed_iff (e : List Byte) : ((parseProduct e).medium == .printed) = true ↔ byteAt e 17 = 0 := by
  unfold parseProduct
  dsimp only
  split_ifs with h0 h1
  · exact iff_of_true rfl h0
  · exact iff_of_false (by decide) h0
  · exact iff_of_false (by decide) h0

/-- No product before a place has a code (R106). -/
theorem products_before (es : List (List Byte)) (n : Nat) (h : n ≤ es.length) (c : Nat) :
    (((es.take n).drop 9).any fun x => byteAt x 0 == c) = false ↔ ∀ m, 9 ≤ m → m < n → byteAt (es.getD m []) 0 ≠ c := by
  simpa using any_before es n 9 h fun x => byteAt x 0 == c

theorem productOk_iff (es : List (List Byte)) (n : Nat) (h : n ≤ es.length) (e : List Byte) :
    productOk ((es.take n).drop 9) e = true ↔ ProductInRange es n e := by
  unfold productOk ProductInRange
  simp only [Bool.and_eq_true, Bool.or_eq_true, Bool.not_eq_true', decide_eq_true_eq, parseProduct_printed_iff, products_before es n h,
    List.all_eq_true, printable_iff, List.contains_iff_mem, or_iff_not_imp_left, and_assoc]
  exact Iff.rfl

theorem bandOk_iff (e : List Byte) : bandOk (parseBand e) = true ↔ BandInRange e := by
  unfold bandOk parseBand BandInRange byteAt
  simp only [Bool.and_eq_true, decide_eq_true_eq, and_assoc]

/-- The text's width is there and at most 40 (R159). -/
theorem width_fits_iff (t : List Byte) : ((textWidth t).map fun w => decide (w ≤ 40)).getD false = true ↔ ∃ w, w ≤ 40 ∧ Printed t w := by
  simp only [← textWidth_iff]
  cases textWidth t <;> simp

/-- No line before a place has a template and line number (R159). -/
theorem lines_before (es : List (List Byte)) (n : Nat) (h : n ≤ es.length) (t l : Nat) :
    ((es.take n).any fun x => byteAt x 0 == t && byteAt x 1 == l) = false ↔
      ∀ m, m < n → ¬(byteAt (es.getD m []) 0 = t ∧ byteAt (es.getD m []) 1 = l) := by
  simpa using any_before es n 0 h fun x => byteAt x 0 == t && byteAt x 1 == l

theorem lineOk_iff (es : List (List Byte)) (n : Nat) (h : n ≤ es.length) (e : List Byte) :
    lineOk (es.take n) e = true ↔ LineInRange es n e := by
  unfold lineOk LineInRange
  simp only [Bool.and_eq_true, Bool.not_eq_true', decide_eq_true_eq, width_fits_iff, lines_before es n h, and_assoc]
  exact Iff.rfl

theorem fieldOk_iff (k : TableKind) (es : List (List Byte)) (n : Nat) (h : n < es.length) (e : List Byte) :
    fieldOk k es n e = true ↔ InRange k es n e := by
  unfold fieldOk InRange
  rw [layoutAt_head k es n h]
  cases k with
  | coin =>
    dsimp only
    split_ifs
    · exact coinHeaderOk_iff e
    · exact coinEntryOk_iff e
    · exact tubeEntryOk_iff es n (Nat.le_of_lt h) e
  | fare =>
    dsimp only
    split_ifs
    · exact fareHeaderOk_iff e
    · simp [imp_iff_not_or]
    · exact productOk_iff es n (Nat.le_of_lt h) e
    · exact bandOk_iff e
  | hotlist => exact iff_of_true rfl trivial
  | passage => exact iff_of_true rfl trivial
  | template => exact lineOk_iff es n (Nat.le_of_lt h) e

/-! ## The WINDOW, ORDER and FLOOR checks (R24, R40, R67, R106, R128) -/

theorem coinWindows_iff (e : List Byte) : (decide ((parseCoinEntry e).loA ≤ (parseCoinEntry e).hiA) &&
    decide ((parseCoinEntry e).loB ≤ (parseCoinEntry e).hiB) && decide ((parseCoinEntry e).fmin ≤ (parseCoinEntry e).fmax)) = true ↔
    field 3 2 e ≤ field 5 2 e ∧ field 7 2 e ≤ field 9 2 e ∧ field 11 2 e ≤ field 13 2 e := by
  unfold parseCoinEntry
  simp only [Bool.and_eq_true, decide_eq_true_eq, and_assoc]

theorem productFloor_iff (e : List Byte) : (decide ((parseProduct e).floor ≤ (parseProduct e).cap) &&
    ((parseProduct e).zeroAllowed || (parseProduct e).floor != 0)) = true ↔
    field 23 2 e ≤ field 25 2 e ∧ (field 23 2 e = 0 → byteAt e 38 / 2 % 2 = 1) := by
  unfold parseProduct
  simp only [Bool.and_eq_true, Bool.or_eq_true, decide_eq_true_eq, beq_iff_eq, bne_iff_ne, imp_iff_or_not]

theorem windowOk_iff (k : TableKind) (es : List (List Byte)) (n : Nat) (h : n < es.length) (e : List Byte) :
    windowOk k es n e = true ↔ WindowsInOrder k es n e := by
  unfold windowOk WindowsInOrder
  rw [layoutAt_head k es n h]
  cases k with
  | coin =>
    dsimp only
    split_ifs with h0 h12
    · simp [h0]
    · simp only [coinWindows_iff, h12, Nat.one_le_iff_ne_zero.2 h0, true_imp_iff, false_imp_iff, and_true]
    · simp [h12]
  | fare =>
    dsimp only
    split_ifs with h0 h8 hb
    · simp [h0]
    · simp [show ¬9 ≤ n by omega]
    · simp [hb]
    · simp [parseBand, show 9 ≤ n by omega, Nat.le_of_not_lt hb]
  | hotlist => simp
  | passage => simp
  | template => simp

theorem orderOk_iff (k : TableKind) (es : List (List Byte)) (n : Nat) (e : List Byte) :
    orderOk k es n e = true ↔ (k = .hotlist → 0 < n → field 0 4 (es.getD (n - 1) []) < field 0 4 e) := by
  unfold orderOk
  rw [Bool.or_eq_true, Bool.or_eq_true, bne_iff_ne, beq_iff_eq, decide_eq_true_iff, or_assoc, ← imp_iff_not_or, Nat.pos_iff_ne_zero,
    or_iff_not_imp_left]

theorem floorOk_iff (k : TableKind) (es : List (List Byte)) (n : Nat) (h : n < es.length) (e : List Byte) :
    floorOk k es n e = true ↔ FloorsKept k es n e := by
  unfold floorOk FloorsKept
  rw [layoutAt_head k es n h]
  cases k with
  | fare =>
    dsimp only
    split_ifs with h0 h8 hb
    · simp [h0]
    · simp [show ¬9 ≤ n by omega]
    · simp only [productFloor_iff, show 9 ≤ n by omega, hb, true_imp_iff]
    · simp [hb]
  | coin => dsimp only; split_ifs <;> simp
  | hotlist => simp
  | passage => simp
  | template => simp

/-! ## Settled -/

/-- Settles O28: the copy's sum and counts first, then the first of the four entry checks that some entry fails. -/
theorem validationFindsFirstFailure : Obligations.ValidationFindsFirstFailure := by
  intro k check count es summed counted
  have counts : countOk k count es = true ↔ counted := countOk_iff k count es
  simp only [← firstFailing_none_iff, ← firstFailing_some_iff]
  have entries : ∀ (n : Nat) (h : n < es.length), _ := fun n h => And.intro (fieldOk_iff k es n h es[n])
    (And.intro (windowOk_iff k es n h es[n]) (And.intro (orderOk_iff k es n es[n]) (floorOk_iff k es n h es[n])))
  by_cases hsum : summed
  · by_cases hcount : counted
    · obtain ⟨passes, others, isField, isWindow, isOrder, isFloor⟩ := firstReason_iff (firstFailing (fieldOk k) es)
        (firstFailing (windowOk k) es) (firstFailing (orderOk k) es) (firstFailing (floorOk k) es)
      rw [validate_eq, if_neg (not_not.2 hsum), if_neg (by simp [counts.2 hcount])]
      simp only [hsum, hcount, not_true, true_and, false_and, iff_false]
      exact ⟨passes, fun n => (others n).1, fun n => (others n).2, isField, isWindow, isOrder, isFloor, entries⟩
    · rw [validate_eq, if_neg (not_not.2 hsum), if_pos (by simpa using mt counts.1 hcount)]
      simpa [hsum, hcount, @eq_comm Nat 0] using entries
  · rw [validate_eq, if_pos hsum]
    simpa [hsum, @eq_comm Nat 0] using entries

end Sys2Proof.Machine
end

section
/-! PROOFS. The frames on the C-line: requests read back, and the fields of replies and reports with their sizes (R29, R122, R154,
R175 to R178). -/

namespace Sys2Proof.Machine

/-! ## Fields and their bytes (R177) -/

theorem fieldBytes_nil : fieldBytes [] = [] := rfl

theorem fieldBytes_map {α : Type} (l : List α) (f : α → Nat × Nat) :
    fieldBytes (l.map f) = l.flatMap fun a => leBytes (f a).1 (f a).2 := by
  unfold fieldBytes
  simp only [List.flatMap_map, leBytes_range]

theorem fieldBytes_flatMap {α : Type} (l : List α) (f : α → List (Nat × Nat)) :
    fieldBytes (l.flatMap f) = l.flatMap fun a => fieldBytes (f a) := by
  unfold fieldBytes
  exact List.flatMap_assoc

/-- The sum of the bits of a set's members, from a bit on. -/
theorem memberSet_sum (ms : List Bool) (k : Nat) :
    ((ms.zipIdx k).map fun p => if p.1 then 2 ^ p.2 else 0).sum = 2 ^ k * memberSet ms := by
  induction ms generalizing k with
  | nil => simp [memberSet]
  | cons b ms ih =>
    rw [List.zipIdx_cons, List.map_cons, List.sum_cons, ih, memberSet, Nat.mul_add, Nat.pow_succ, Nat.mul_assoc]
    cases b <;> simp

/-- A set of up to eight members is the one-byte number of its members. -/
theorem setBytes_memberSet (ms : List Bool) (h : ms.length ≤ 8) : setBytes 1 ms = leBytes 1 (memberSet ms) := by
  unfold setBytes setBytes leBytes leBytes
  rw [List.take_of_length_le h, memberSet_sum, Nat.pow_zero, Nat.one_mul]

/-! ## Enumerations by their places -/

theorem reason_place (r : Reason) : reasons.idxOf r + 1 = r.code := by cases r <;> rfl

theorem partState_place (p : PartState) : [PartState.unset, .ready, .service].idxOf p = p.code := by cases p <;> rfl

theorem loadState_place (st : LoadState) : loadStates.idxOf st = st.code := by cases st <;> rfl

theorem badReason_place (b : BadReason) : [BadReason.check, .count, .field, .window, .order, .floor].idxOf b = b.code := by
  cases b <;> rfl

theorem outcome_place (o : ActivateOutcome) : [ActivateOutcome.done, .deferred, .scheduled].idxOf o = o.code := by cases o <;> rfl

theorem purchaseState_place (p : PurchaseState) : purchaseStates.idxOf p = p.code := by cases p <;> rfl

theorem opKind_place (k : OpKind) : opKinds.idxOf k = k.code := by cases k <;> rfl

theorem chuteState_place (c : ChuteState) :
    [ChuteState.idle, .onA, .gap, .onB, .accepting, .returning, .fault].idxOf c = c.code := by cases c <;> rfl

theorem faultKind_place (k : FaultKind) :
    [FaultKind.jamA, .jamB, .order, .crowd, .strayC, .acceptLost, .returnLost, .coil].idxOf k = k.code := by cases k <;> rfl

theorem decision_place (d : Decision) : [Decision.accept, .giveBack].idxOf d = d.code := by cases d <;> rfl

theorem phase_place (p : Phase) : phases.idxOf p = p.code := by cases p <;> rfl

theorem sensed_place (b : Bool) : (!b).toNat = sensedCode b := by cases b <;> rfl

theorem command_place (c : DiverterCommand) : [DiverterCommand.cashBox, .tubes, .none].idxOf c = c.code := by cases c <;> rfl

theorem paper_place (p : Paper) : [Paper.ok, .low, .out, .unknown].idxOf p = p.code := by cases p <;> rfl

theorem head_place (h : Head) : [Head.closed, .opened, .unknown].idxOf h = h.code := by cases h <;> rfl

theorem printerFault_place (f : PrinterFault) : [PrinterFault.set, .clear, .unknown].idxOf f = f.code := by cases f <;> rfl

theorem voidCause_place (c : VoidCause) : voidCauses.idxOf c = c.code := by cases c <;> rfl

theorem uncertainCause_place (c : UncertainCause) : [UncertainCause.unsure, .timeout, .absent].idxOf c = c.code := by cases c <;> rfl

theorem resolution_place (r : Resolution) : [Resolution.landed, .restored].idxOf r = r.code := by cases r <;> rfl

theorem startCause_place (c : StartCause) : [StartCause.power, .reset, .restart, .check, .clearAll].idxOf c = c.code := by
  cases c <;> rfl

theorem interruption_place (i : Interruption) : [Interruption.voided, .uncertain].idxOf i = i.code := by cases i <;> rfl

theorem recordState_place (r : RecordState) : [RecordState.issued, .uncertain].idxOf r = r.code := by cases r <;> rfl

theorem tableKind_byte (k : TableKind) :
    [TableKind.code k] = leBytes 1 ([TableKind.coin, .fare, .hotlist, .passage, .template].idxOf k) := by cases k <;> rfl

/-! ## Shared groups of fields -/

theorem Timestamp.bytes_eq (t : Timestamp) : t.bytes = fieldBytes (stampFields t) := by
  simp only [Timestamp.bytes, stampFields, fieldBytes_cons, fieldBytes_nil, b1, b2, b4, bf, flagByte_eq, List.append_nil,
    List.append_assoc]

theorem daysBytes_eq (d : Option (Nat × Nat)) : daysBytes d = fieldBytes (dayFields d) :=
  optional_eq 4 _ [2, 2] _ rfl (fun p => by simp [fieldBytes_cons, fieldBytes_nil, b2]) d

theorem passBytes_eq (p : Option PassSlot) : passBytes p = fieldBytes (passFields p) :=
  optional_eq 3 _ [1, 2] _ rfl (fun p => by simp [fieldBytes_cons, fieldBytes_nil, b1, b2]) p

theorem badBytes_eq (b : Option (BadReason × Nat)) : badBytes b = fieldBytes (badFields b) :=
  optional_eq 3 _ [1, 2] _ rfl (fun p => by simp [fieldBytes_cons, fieldBytes_nil, b1, b2, badReason_place]) b

theorem LoadView.bytes_eq (v : LoadView) : v.bytes = fieldBytes (loadFields v) := by
  simp only [LoadView.bytes, loadFields, fieldBytes_append, fieldBytes_cons, fieldBytes_nil, badBytes_eq, loadState_place, b1,
    List.append_nil, List.append_assoc]

theorem TotalsView.bytes_eq (v : TotalsView) : v.bytes = fieldBytes (totalFields v) := by
  simp only [TotalsView.bytes, totalFields, List.map_cons, List.map_nil, fieldBytes_cons, fieldBytes_nil, m4, List.append_nil,
    List.append_assoc]

theorem Clock.bytes_eq (c : Clock) : c.bytes = fieldBytes (clockFields c) := by
  simp only [Clock.bytes, clockFields, fieldBytes_cons, fieldBytes_nil, b1, b2, b4, bf, flagByte_eq, List.append_nil,
    List.append_assoc]

theorem Tallies.bytes_eq (t : Tallies) : t.bytes = fieldBytes (tallyFields t) := by
  simp only [Tallies.bytes, tallyFields, List.map_cons, List.map_nil, fieldBytes_cons, fieldBytes_nil, b2, List.append_nil,
    List.append_assoc]

theorem Written.bytes_eq (w : Written) : w.bytes = fieldBytes ([2, 1, 2, 2].zip (writtenFields w)) := by
  cases w <;>
    simp only [Written.bytes, writtenFields, List.zip_cons_cons, List.zip_nil_left, fieldBytes_cons, fieldBytes_nil, b1, b2,
      List.append_nil, List.append_assoc] <;>
    rfl

theorem JournalRecord.bytes_eq (r : JournalRecord) :
    r.bytes = fieldBytes ([1, 4, 4, 1, 2, 2, 2, 2, 2, 1, 2, 2, 2, 4, 1, 1].zip (recordFields r)) := by
  have split : [1, 4, 4, 1, 2, 2, 2, 2, 2, 1, 2, 2, 2, 4, 1, 1].zip (recordFields r) =
      [(1, [RecordState.issued, .uncertain].idxOf r.state), (4, r.txn), (4, r.card), (1, opKinds.idxOf r.kind), (2, r.amount.toNat),
        (2, r.bonus.toNat), (2, r.oldSequence), (2, r.machineId)] ++ [2, 1, 2, 2].zip (writtenFields r.content) ++
        stampFields r.stamp := by
    unfold recordFields
    cases r.content <;> rfl
  simp only [split, JournalRecord.bytes, fieldBytes_append, fieldBytes_cons, fieldBytes_nil, Written.bytes_eq, Timestamp.bytes_eq,
    recordState_place, opKind_place, b1, b2, b4, m2, List.append_nil, List.append_assoc]

theorem Measurement.bytes_eq (m : Measurement) :
    m.bytes = fieldBytes ([2, 2, 2, 2, 2, 1, 1, 1].zip (measurementFields m)) := by
  unfold Measurement.bytes measurementFields
  cases m.result <;>
    simp only [CoinResult.bytes, List.cons_append, List.nil_append, List.zip_cons_cons, List.zip_nil_left, fieldBytes_cons,
      fieldBytes_nil, decision_place, b1, b2, List.append_nil, List.append_assoc] <;> rfl

theorem SaleReport.bytes_eq (r : SaleReport) : r.bytes = fieldBytes (saleFields r) := by
  have band : Machine.optional 1 b1 r.sale.band = fieldBytes (optionalFields [1] (r.sale.band.map fun b => [b])) :=
    optional_eq 1 b1 [1] _ rfl (fun b => by simp [fieldBytes_cons, fieldBytes_nil, b1]) _
  simp only [SaleReport.bytes, saleFields, band, fieldBytes_append, fieldBytes_cons, fieldBytes_nil, daysBytes_eq, Timestamp.bytes_eq,
    opKind_place, b1, b2, b4, m2, List.append_nil, List.append_assoc]

theorem StateHeader.bytes_eq (h : StateHeader) : h.bytes = fieldBytes [(1, [PartState.unset, .ready, .service].idxOf h.part),
    (1, h.detached.toNat), (1, h.inhibit.toNat), (1, h.free)] := by
  simp only [StateHeader.bytes, fieldBytes_cons, fieldBytes_nil, partState_place, b1, bf, flagByte_eq, List.append_nil,
    List.append_assoc]

/-! ## Replies (R29, R177) -/

/-- The result byte of an accepted request, and of a field that is absent. -/
theorem leBytes_one_zero : leBytes 1 0 = [0] := rfl

theorem QueryBody.bytes_eq (b : QueryBody) : b.bytes = fieldBytes b.layout := by
  cases b with
  | totals v => exact TotalsView.bytes_eq v
  | coinCounts a r =>
    simp only [QueryBody.bytes, QueryBody.layout, fieldBytes_flatMap, fieldBytes_cons, fieldBytes_nil, b2, List.append_nil]
  | tubes v =>
    simp only [QueryBody.bytes, QueryBody.layout, fieldBytes_flatMap, fieldBytes_cons, fieldBytes_nil, b1, bf, flagByte_eq,
      List.append_nil, List.append_assoc]
  | journal r => exact optional_eq 33 _ [1, 4, 4, 1, 2, 2, 2, 2, 2, 1, 2, 2, 2, 4, 1, 1] _ rfl JournalRecord.bytes_eq r
  | lines c m => simp only [QueryBody.bytes, QueryBody.layout, fieldBytes_append, Tallies.bytes_eq]
  | tables v =>
    simp only [QueryBody.bytes, QueryBody.layout, fieldBytes_append, fieldBytes_cons, fieldBytes_nil, badBytes_eq, loadState_place,
      generationBytes, b1, b2, b4, bf, flagByte_eq, List.append_nil, List.append_assoc]
    cases v.due <;> simp only [fieldBytes_cons, fieldBytes_nil, List.append_nil, List.append_assoc]
  | clock c => exact Clock.bytes_eq c
  | purchase v =>
    have op := optional_eq 7 (fun (o : OpKind × Nat × Money) => b1 o.1.code ++ b4 o.2.1 ++ m2 o.2.2) [1, 4, 2]
      (fun o => [opKinds.idxOf o.1, o.2.1, o.2.2.toNat]) rfl
      (fun o => by simp [fieldBytes_cons, fieldBytes_nil, b1, b4, m2, opKind_place]) v.op
    have bound := optional_eq 5 (fun (b : Nat × Bool) => b4 b.1 ++ bf b.2) [4, 1] (fun b => [b.1, b.2.toNat]) rfl
      (fun b => by simp [fieldBytes_cons, fieldBytes_nil, b4, bf, flagByte_eq]) v.bound
    rw [QueryBody.bytes, op, bound]
    simp only [QueryBody.layout, fieldBytes_append, fieldBytes_cons, fieldBytes_nil, purchaseState_place,
      b1, m4, List.append_nil, List.append_assoc]

theorem ReplyBody.bytes_eq (b : ReplyBody) : b.bytes = fieldBytes b.layout := by
  have band (o : Option Nat) : Machine.optional 1 b1 o = fieldBytes (optionalFields [1] (o.map fun b => [b])) :=
    optional_eq 1 b1 [1] _ rfl (fun b => by simp [fieldBytes_cons, fieldBytes_nil, b1]) _
  have limit : Reason.limit.code = 9 := rfl
  cases b <;>
    simp only [ReplyBody.bytes, ReplyBody.layout, limit, fieldBytes_append, fieldBytes_cons, fieldBytes_nil, leBytes_one_zero, reason_place,
      partState_place, loadState_place, outcome_place, faultKind_place, opKind_place, QueryBody.bytes_eq, StateHeader.bytes_eq,
      LoadView.bytes_eq, TotalsView.bytes_eq, Clock.bytes_eq, daysBytes_eq, band, b1, b2, b4, bf, m2, m4, flagByte_eq,
      List.append_nil, List.nil_append, List.append_assoc, List.cons_append]

/-! ## Reports (R122, R154, R175, R176) -/

theorem coilFields_bytes (p : Phase) (sensed : Bool) : fieldBytes (coilFields p sensed) = b1 p.code ++ b1 (sensedCode sensed) := by
  simp only [coilFields, fieldBytes_cons, fieldBytes_nil, phase_place, sensed_place, b1, List.append_nil]

theorem StartReport.bytes_eq (r : StartReport) : r.bytes = fieldBytes (Report.start r).layout.2 := by
  have generations : r.generations.flatMap generationBytes = fieldBytes (r.generations.map fun g => (2, g.getD 0)) :=
    (fieldBytes_map r.generations fun g => (2, g.getD 0)).symm
  have op := optional_eq 6 (fun (o : OpKind × Nat × Interruption) => b1 o.1.code ++ b4 o.2.1 ++ b1 o.2.2.code) [1, 4, 1]
    (fun o => [opKinds.idxOf o.1, o.2.1, [Interruption.voided, .uncertain].idxOf o.2.2]) rfl
    (fun o => by simp only [List.zip_cons_cons, List.zip_nil_left, fieldBytes_cons, fieldBytes_nil, b1, b4, opKind_place,
      interruption_place, List.append_nil, List.append_assoc]) r.operation
  have payout := optional_eq 4 m4 [4] (fun x => [x.toNat]) rfl (fun x => by simp [fieldBytes_cons, fieldBytes_nil, m4]) r.payout
  have receipt := optional_eq 4 b4 [4] (fun n => [n]) rfl (fun x => by simp [fieldBytes_cons, fieldBytes_nil, b4]) r.receipt
  rw [StartReport.bytes, generations, op, payout, receipt]
  simp only [Report.layout, fieldBytes_append, fieldBytes_cons, fieldBytes_nil,
    startCause_place, b1, b4, bf, m4, flagByte_eq, List.append_nil, List.append_assoc]

theorem ChuteReport.bytes_eq (r : ChuteReport) : (Report.chute r).bytes = fieldBytes (Report.chute r).layout.2 := by
  have fault := optional_eq 1 (fun k => b1 (FaultKind.code k)) [1]
    (fun k => [[FaultKind.jamA, .jamB, .order, .crowd, .strayC, .acceptLost, .returnLost, .coil].idxOf k]) rfl
    (fun k => by simp only [List.zip_cons_cons, List.zip_nil_left, fieldBytes_cons, fieldBytes_nil, b1, faultKind_place,
      List.append_nil]) r.fault
  have last := optional_eq 13 Measurement.bytes [2, 2, 2, 2, 2, 1, 1, 1] measurementFields rfl Measurement.bytes_eq r.last
  have causes : r.causes.bytes = leBytes 1 (memberSet [r.causes.chute, r.causes.purchase, r.causes.state, r.causes.detached,
      r.causes.inhibit, r.causes.door, r.causes.table, r.causes.ceiling]) := setBytes_memberSet _ (Nat.le_refl 8)
  have failed : coilSet r.coils.failed = leBytes 1 (memberSet [r.coils.failed.eb, r.coils.failed.ag, r.coils.failed.dvt,
      r.coils.failed.dvk]) := setBytes_memberSet _ (by decide : 4 ≤ 8)
  rw [Report.bytes, fault, last, causes, CoilStatus.bytes, failed]
  simp only [Report.layout, coilFields_bytes, fieldBytes_append,
    fieldBytes_cons, fieldBytes_nil, chuteState_place, command_place, b1, bf, flagByte_eq, List.append_nil, List.append_assoc]

theorem CardReport.bytes_eq (r : CardReport) : (Report.card r).bytes = fieldBytes (Report.card r).layout.2 := by
  have presence := setBytes_memberSet r.presence.toList (by simp)
  rw [Report.bytes, presence]
  obtain ⟨binding, presence, discards⟩ := r
  cases binding with
  | none =>
    simp only [Report.layout, fieldBytes_append, fieldBytes_cons, fieldBytes_nil, b2, List.append_nil, List.append_assoc]
    rfl
  | some b =>
    simp only [Machine.optional, Report.layout, fieldBytes_append, fieldBytes_cons, fieldBytes_nil, passBytes_eq, b1, b2, b4, bf,
      flagByte_eq, List.append_nil, List.append_assoc, List.cons_append]
    rfl

theorem PayoutReport.bytes_eq (r : PayoutReport) : (Report.payoutDone r).bytes = fieldBytes (Report.payoutDone r).layout.2 := by
  have faulted := setBytes_memberSet r.faulted.toList (by simp)
  simp only [Report.bytes, Report.layout, fieldBytes_append, fieldBytes_cons, fieldBytes_nil, fieldBytes_map, faulted, m4,
    List.append_nil, List.append_assoc]
  cases r.cause <;>
    simp only [PayoutCause.bytes, fieldBytes_cons, fieldBytes_nil, b1, b4, List.append_nil, List.append_assoc] <;>
    rfl

theorem ReceiptOutcome.bytes_eq (txn : Nat) (o : ReceiptOutcome) :
    (Report.receipt txn o).bytes = fieldBytes (Report.receipt txn o).layout.2 := by
  cases o <;>
    simp only [Report.bytes, Report.layout, ReceiptOutcome.bytes, fieldBytes_cons, fieldBytes_nil, voidCause_place, b1, b4,
      List.append_nil] <;>
    rfl

theorem Report.kind_eq (r : Report) : r.kind = r.layout.1 := by cases r <;> rfl

theorem Report.bytes_eq (r : Report) : r.bytes = fieldBytes r.layout.2 := by
  cases r with
  | chute r => exact ChuteReport.bytes_eq r
  | card r => exact CardReport.bytes_eq r
  | payoutDone r => exact PayoutReport.bytes_eq r
  | receipt txn o => exact ReceiptOutcome.bytes_eq txn o
  | start r => exact StartReport.bytes_eq r
  | printer r =>
    have presence := setBytes_memberSet r.presence.toList (by simp)
    simp only [Report.bytes, Report.layout, presence, fieldBytes_cons, fieldBytes_nil, paper_place, head_place, printerFault_place,
      b1, b2, bf, flagByte_eq, List.append_nil, List.append_assoc]
  | tubes v =>
    simp only [Report.bytes, Report.layout, fieldBytes_flatMap, fieldBytes_cons, fieldBytes_nil, b1, bf, flagByte_eq,
      List.append_nil, List.append_assoc]
  | credit | saleDone | saleVoid | topupDone | topupVoid | uncertain | resolved | voucherDone | voucherVoid | table =>
    simp only [Report.bytes, Report.layout, fieldBytes_append, fieldBytes_cons, fieldBytes_nil, purchaseState_place, opKind_place,
      voidCause_place, uncertainCause_place, resolution_place, tableKind_byte, SaleReport.bytes_eq, Timestamp.bytes_eq,
      generationBytes, b1, b2, b4, bf, m2, m4, flagByte_eq, List.append_nil, List.append_assoc]

/-! ## Sizes (R176) -/

/-- A payload of fields fits its frame exactly where the sizes' sum is at most 60. -/
theorem fieldsFrame_wf_iff (d sr : BitVec 4) (k : Byte) (fs : List (Nat × Nat)) :
    Frame.wf ⟨d, sr, k, fieldBytes fs⟩ = true ↔ (fs.map Prod.fst).sum ≤ 60 := by
  unfold Frame.wf
  rw [decide_eq_true_iff, fieldBytes_length]
  exact Iff.rfl

/-- Optional fields have their sizes whether they are there or not. -/
theorem optionalFields_sizes {α : Type} (sizes : List Nat) (g : α → List Nat) (h : ∀ a, (g a).length = sizes.length)
    (o : Option α) : (optionalFields sizes (o.map g)).map Prod.fst = 1 :: sizes := by
  cases o with
  | none => simp [optionalFields, Function.comp_def]
  | some a => simp [optionalFields, List.map_fst_zip, h]

/-- Fields given for each of a list's members, all of one size. -/
theorem flatMap_sizes {α : Type} (l : List α) (g : α → List (Nat × Nat)) (c : Nat) (h : ∀ a, ((g a).map Prod.fst).sum = c) :
    ((l.flatMap g).map Prod.fst).sum = l.length * c := by
  induction l with
  | nil => simp
  | cons a l ih => rw [List.flatMap_cons, List.map_append, List.sum_append, h, ih, List.length_cons, Nat.succ_mul, Nat.add_comm]

/-- One field of one size for each of a list's members. -/
theorem map_sizes {α : Type} (l : List α) (f : α → Nat) (n : Nat) :
    (l.map fun a => (n, f a)).map Prod.fst = List.replicate l.length n := by
  rw [List.map_map]
  exact List.map_const'

theorem stampFields_sizes (t : Timestamp) : (stampFields t).map Prod.fst = [2, 4, 1, 1] := rfl

theorem dayFields_sizes (d : Option (Nat × Nat)) : (dayFields d).map Prod.fst = [1, 2, 2] :=
  optionalFields_sizes _ _ (fun _ => by rfl) d

theorem passFields_sizes (p : Option PassSlot) : (passFields p).map Prod.fst = [1, 1, 2] :=
  optionalFields_sizes _ _ (fun _ => by rfl) p

theorem badFields_sizes (b : Option (BadReason × Nat)) : (badFields b).map Prod.fst = [1, 1, 2] :=
  optionalFields_sizes _ _ (fun _ => by rfl) b

theorem loadFields_sizes (v : LoadView) : (loadFields v).map Prod.fst = [1, 1, 1, 1, 2] := by
  rw [loadFields, List.map_append, badFields_sizes]
  rfl

theorem totalFields_sizes (v : TotalsView) : (totalFields v).map Prod.fst = List.replicate 8 4 := rfl

theorem clockFields_sizes (c : Clock) : (clockFields c).map Prod.fst = [2, 4, 1, 1, 1] := rfl

theorem tallyFields_sizes (t : Tallies) : (tallyFields t).map Prod.fst = [2, 2, 2, 2, 2] := rfl

theorem recordFields_length (r : JournalRecord) : (recordFields r).length = 16 := by
  unfold recordFields
  cases r.content <;> rfl

theorem measurementFields_length (m : Measurement) : (measurementFields m).length = 8 := by
  unfold measurementFields
  cases m.result <;> rfl

theorem bandField_sizes (b : Option Nat) : (optionalFields [1] (b.map fun b => [b])).map Prod.fst = [1, 1] :=
  optionalFields_sizes _ _ (fun _ => by rfl) b

theorem saleFields_sizes (r : SaleReport) :
    (saleFields r).map Prod.fst = [4, 1, 1, 1, 1, 1, 1, 2, 2, 1, 2, 2, 2, 4, 1, 1] := by
  simp only [saleFields, List.map_append, bandField_sizes, dayFields_sizes, stampFields_sizes]
  rfl

/-- A QUERY body leaves room for the result byte and the state header. -/
theorem QueryBody.layout_size (b : QueryBody) : (b.layout.map Prod.fst).sum ≤ 55 := by
  cases b with
  | coinCounts a r =>
    refine Nat.le_trans (Nat.le_of_eq (flatMap_sizes _ _ 4 fun _ => rfl)) ?_
    rw [List.length_finRange]
    decide
  | tubes v =>
    refine Nat.le_trans (Nat.le_of_eq (flatMap_sizes _ _ 4 fun _ => rfl)) ?_
    rw [Vector.length_toList]
    decide
  | tables v =>
    simp only [QueryBody.layout, List.map_append, List.map_cons, List.map_nil, badFields_sizes]
    cases v.due <;> simp only [List.map_cons, List.map_nil] <;> decide
  | totals | journal | lines | clock | purchase =>
    simp only [QueryBody.layout, List.map_append, List.map_cons, List.map_nil, totalFields_sizes, tallyFields_sizes,
      clockFields_sizes, optionalFields_sizes, recordFields_length, List.length_cons, List.length_nil, implies_true]
    decide

theorem ReplyBody.layout_size (b : ReplyBody) : (b.layout.map Prod.fst).sum ≤ 60 := by
  cases b with
  | query h b =>
    have := b.layout_size
    rw [ReplyBody.layout, List.map_append, List.sum_append]
    exact Nat.add_le_add (Nat.le_refl 5) this
  | _ =>
    simp only [ReplyBody.layout, List.map_append, List.map_cons, List.map_nil, loadFields_sizes, totalFields_sizes,
      clockFields_sizes, dayFields_sizes, bandField_sizes]
    decide

/-- A report's fields fit a frame, START with the generations of the five kinds. -/
theorem Report.layout_size (r : Report) (h : ∀ x, r = .start x → x.generations.length = 5) :
    (r.layout.2.map Prod.fst).sum ≤ 60 := by
  cases r with
  | start r =>
    simp only [Report.layout, List.map_append, List.map_cons, List.map_nil, map_sizes, h r rfl, optionalFields_sizes,
      List.length_cons, implies_true]
    decide
  | chute r =>
    simp only [Report.layout, List.map_append, List.map_cons, List.map_nil, optionalFields_sizes, measurementFields_length,
      coilFields, List.length_cons, List.length_nil, implies_true]
    decide
  | tubes v =>
    refine Nat.le_trans (Nat.le_of_eq (flatMap_sizes _ _ 3 fun _ => rfl)) ?_
    rw [Vector.length_toList]
    decide
  | card r =>
    obtain ⟨binding, presence, discards⟩ := r
    cases binding with
    | none =>
      simp only [Report.layout, List.map_append, List.map_cons, List.map_nil]
      decide
    | some b =>
      simp only [Report.layout, List.map_append, List.map_cons, List.map_nil, passFields_sizes]
      decide
  | payoutDone r =>
    have coins : (r.coins.toList.map fun n => (2, n)).map Prod.fst = List.replicate 4 2 :=
      (map_sizes r.coins.toList (fun n => n) 2).trans (by rw [Vector.length_toList])
    simp only [Report.layout, List.map_append, List.map_cons, List.map_nil, coins]
    cases r.cause <;> simp only [List.map_cons, List.map_nil] <;> decide
  | receipt txn o =>
    cases o <;> simp only [Report.layout, List.map_cons, List.map_nil] <;> decide
  | _ =>
    simp only [Report.layout, List.map_append, List.map_cons, List.map_nil, saleFields_sizes, stampFields_sizes]
    decide

/-- The frame of a well-formed request has a payload that fits (R176, R178). -/
theorem frameOfRequest_wf {i : Instr} {f : Frame} (hi : i.wf = true) (hf : frameOfRequest i = some f) : f.wf = true := by
  cases i
  case load k g index total check count es =>
    cases hf
    simp only [Instr.wf, Bool.and_eq_true, decide_eq_true_eq] at hi
    obtain ⟨fits, -⟩ := hi
    have zero_iff : index = 0 ↔ index.toNat = 0 := ⟨fun h => by rw [h]; rfl, fun h => BitVec.eq_of_toNat_eq h⟩
    simp only [Frame.wf, requestFrame, decide_eq_true_eq, loadPayload, loadLength, zero_iff] at fits ⊢
    by_cases h : index.toNat = 0 <;> simp [h, leBytes_length] at fits ⊢ <;> omega
  case setup id rate roles silence =>
    cases hf
    simp [Frame.wf, requestFrame, setupPayload, leBytes_length, Config.maxPayload]
  case activate k g d =>
    cases hf
    cases d <;> rfl
  all_goals cases hf <;> rfl

/-! ## Settled -/

/-- Settles O12: a request's frame reads back and fits; a reply's and a report's payloads are their fields, within 60 bytes. -/
theorem requestEncodingReadsBack : Obligations.RequestEncodingReadsBack := by
  have report (r : Report) : r.frame = ⟨14, 0, r.layout.1, fieldBytes r.layout.2⟩ := by
    rw [Report.frame, Report.kind_eq, Report.bytes_eq]
    rfl
  have reply (r : Reply) : r.frame = ⟨14, 0, r.kind, fieldBytes r.body.layout⟩ := by
    rw [Reply.frame, ReplyBody.bytes_eq]
    rfl
  refine ⟨fun i f hi hf => ?_, fun r => ⟨report r, fun h => ?_⟩, fun r => ⟨reply r, ?_⟩⟩
  · obtain ⟨dest, src, reads⟩ := requestOf_frame hi hf
    exact ⟨frameOfRequest_wf hi hf, dest, src, reads⟩
  · rw [report, fieldsFrame_wf_iff]
    exact r.layout_size h
  · rw [reply, fieldsFrame_wf_iff]
    exact r.body.layout_size

end Sys2Proof.Machine
end
